-- ==== Sys2Proof/Word.lean ====
section
/-! DEFINITION. The plain word types of the KD-620 (spec/00_scope.md, Conventions). -/

namespace Sys2Proof

/-- A byte of DRAM, of the store or of a record. -/
abbrev Byte := BitVec 8

/-- Part time: a 32-bit count of microseconds that wraps (00, Conventions). -/
abbrev Time := BitVec 32

/-- An ARGB8888 colour, alpha in the top byte (11). -/
abbrev Colour := BitVec 32

end Sys2Proof
end

