-- ==== Sys2Proof/Syntax.lean ====
section
/-! DEFINITION. The commands of the KD-620: one constructor for each row of spec/opcode_table.json, in its order. -/

namespace Sys2Proof

/-- A display, and equally an output pair: 0 FRONT, 1 REAR_LEFT, 2 REAR_RIGHT (11.1). Stream 0 feeds FRONT, 1
REAR_LEFT and 2 REAR_RIGHT (10.1), so a stream is named by its pair. -/
inductive Display where
  | front | rearLeft | rearRight
  deriving DecidableEq, Repr

/-- The four vehicle signals (06, 6.1). -/
inductive Signal where
  | reverse | steering | speed | parkDistance
  deriving DecidableEq, Repr

/-- A layer that scan-out can fetch: a system layer, or the camera layer of FRONT (R164). -/
inductive ScanLayer where
  | video | menu | camera
  deriving DecidableEq, Repr

/-- The commands. A request command carries no operand: the taker takes the record it has fetched, and the record
holds the request's fields (R21, R186, log 6). A byte of a link write is `none` where its byte enable is clear. -/
inductive Instr where
  | powerOnReset
  | pinReset
  | loadStepComplete
  | linkTraining
  | lossOfLink
  | linkRead (addr : BitVec 32) (len : Nat)
  | linkWrite (addr : BitVec 32) (lanes : List (Option Byte))
  | requestProducerIndex (value : BitVec 32)
  | reportConsumerIndex (value : BitVec 32)
  | mediaProducerIndex (stream : Display) (value : BitVec 32)
  | dramGrant
  | unknownRequestKind
  | publish
  | setLayer
  | holdChanges
  | releaseChanges
  | pushView
  | popView
  | showCamera
  | closeCamera
  | defineRegion
  | deleteRegion
  | audioStart
  | audioStop
  | audioGain
  | playChime
  | stopChimes
  | storeRead
  | storeProgram
  | storeErase
  | storeLockCalibration
  | setFaultMask
  | clearFaults
  | systemRestart
  | storeProgramComplete
  | storeEraseComplete
  | storeReadComplete
  | lockWriteComplete
  | suspensionAsk
  | suspensionTakesEffect
  | stagingComplete
  | frameStart (frame : Byte)
  | line (number : BitVec 16) (rest : List Byte)
  | frameEnd (frame : Byte) (count : BitVec 16)
  | otherCameraPacket (bytes : List Byte)
  | signalTimerExpiry
  | captureComplete
  | canFrame (ident : BitVec 11) (dlc : BitVec 4) (data : List Byte)
  | freshnessExpiry (signal : Signal)
  | stalePeriodEnd
  | reversePinChange (high : Bool)
  | pinDebounceExpiry
  | holdOffExpiry
  | parkOfferTime
  | displayFrameBoundary (display : Display)
  | guideBuildComplete
  | latePixel (display : Display) (layer : ScanLayer) (column : Nat)
  | sampleTime
  | startDelayExpiry (stream : Display)
  | millisecondTick
  | chimeEnd (pair : Display)
  | activeRowFetch (display : Display)
  deriving DecidableEq, Repr

end Sys2Proof
end

