-- ==== Sys2Proof/Decode.lean ====
section
/-! DEFINITION. Reading a command from a word. spec/opcode_table.json gives no row any bits ("fields" is empty in every
row and no row has "fixed"), so no word spells a command. Camera packets do come as bytes: `packetCommand` is their
decoding. -/

namespace Sys2Proof

/-- The command that an `nbits`-bit word spells by the table's bits: none, since the table gives no row bits (log 28). -/
def decodeTableWord (_nbits _w : Nat) : Option Instr := none

/-- The command that a camera packet is, from its bytes as the camera input delivers them (11.9, R190): kind in the first
byte, line number and line count low byte first. -/
def packetCommand : List Byte → Instr
  | [] => .otherCameraPacket []
  | kind :: rest =>
    if kind = 1 then
      match rest with
      | [frame] => .frameStart frame
      | _ => .otherCameraPacket (kind :: rest)
    else if kind = 2 then
      match rest with
      | lo :: hi :: more => .line (hi ++ lo) more
      | _ => .otherCameraPacket (kind :: rest)
    else if kind = 3 then
      match rest with
      | [frame, lo, hi] => .frameEnd frame (hi ++ lo)
      | _ => .otherCameraPacket (kind :: rest)
    else .otherCameraPacket (kind :: rest)

/-- A packet is of another kind when its first byte is none of the three kinds, it is empty, it is a FRAME_START not of 2
bytes, a FRAME_END not of 4, or a LINE shorter than 3 (R190). -/
def isOtherPacket (bytes : List Byte) : Bool := decide (packetCommand bytes = .otherCameraPacket bytes)

end Sys2Proof
end

