-- ==== Sys2Proof/Config.lean ====
section
/-! DEFINITION. What the manual fixes once for the whole device (00, Figures used throughout), and the free values:
constants with no body for the values the manual leaves open. -/

namespace Sys2Proof.Config

/-- First address with no DRAM behind it (01, 1.1). -/
def dramSize : Nat := 0x80000000

/-- What a byte of DRAM that nothing has written reads as. DESIGN CHOICE (unsafe, log 3): the manual gives no
contents of DRAM at power-on. -/
def unwrittenByte : Byte := 0

/-- Store size, 2 MiB (03, 3.1). -/
def storeSize : Nat := 0x200000

/-- Store block size, 64 KiB (03, 3.1). -/
def blockSize : Nat := 0x10000

/-- Largest region, 256 MiB (R6). -/
def maxRegionSize : Nat := 0x10000000

/-- Bytes of one capture buffer (R77). -/
def captureBufferSize : Nat := 1843200

/-- Resident clip cache, in bytes (R58). -/
def cacheSize : Nat := 131072

/-- Frame period of a display, in microseconds (00, R155). -/
def framePeriod : Nat := 16667

/-- FREE VALUE (log 16): the byte that offset `off` holds in a block whose program or erase the `n`-th interruption
by a reset ended; R51 says such bytes are in no defined state. -/
opaque interruptedByte : (n off : Nat) → Byte

/-- FREE VALUE (log 17): the picture age word of the status block where the signed difference of R81 is negative,
for which the manual states no value. -/
opaque negativePictureAge : (age : BitVec 32) → BitVec 16

end Sys2Proof.Config
end

