-- ==== Sys2Proof/Machine/State.lean ====
section
/-! DEFINITION. The state of the KD-620 as plain data: every piece of state the spec gives the device (INVENTORY.md,
State), the queue of waiting commands, and the state right after a power-on reset of a device as delivered. -/

namespace Sys2Proof.Machine

/-! ### Shapes shared by several blocks -/

/-- One value for each display, or for each output pair and its stream. -/
structure PerDisplay (α : Type) where
  front : α
  rearLeft : α
  rearRight : α
  deriving DecidableEq, Repr

/-- The value held for display `d`. -/
def PerDisplay.get {α : Type} (p : PerDisplay α) : Display → α
  | .front => p.front
  | .rearLeft => p.rearLeft
  | .rearRight => p.rearRight

/-- Replace the value held for display `d`. -/
def PerDisplay.put {α : Type} (p : PerDisplay α) (d : Display) (v : α) : PerDisplay α :=
  match d with
  | .front => { p with front := v }
  | .rearLeft => { p with rearLeft := v }
  | .rearRight => { p with rearRight := v }

/-- One value for each of the four signals. -/
structure PerSignal (α : Type) where
  reverse : α
  steering : α
  speed : α
  parkDistance : α
  deriving DecidableEq, Repr

/-- The value held for signal `g`. -/
def PerSignal.get {α : Type} (p : PerSignal α) : Signal → α
  | .reverse => p.reverse
  | .steering => p.steering
  | .speed => p.speed
  | .parkDistance => p.parkDistance

/-- Replace the value held for signal `g`. -/
def PerSignal.put {α : Type} (p : PerSignal α) (g : Signal) (v : α) : PerSignal α :=
  match g with
  | .reverse => { p with reverse := v }
  | .steering => { p with steering := v }
  | .speed => { p with speed := v }
  | .parkDistance => { p with parkDistance := v }

/-- DRAM or store contents: (address, byte) pairs, addresses strictly rising. -/
abbrev Mem := List Host.Cell

/-- Refusal and completion codes, in the order of their numbers (11.1). -/
inductive Code where
  | ok | badKind | badField | noRegion | regionOverlap | regionTableFull | regionBusy | regionTooSmall | layerOff
  | queueFull | viewOverflow | viewUnderflow | viewPinned | storeBusy | storeLocked | verifyFail | blockIncomplete
  | serviceMode | badAddress
  deriving DecidableEq, Repr

/-- The sixteen fault kinds, in the order of their numbers (2.3, 11.1). -/
inductive FaultKind where
  | writeGuard | badAddress | requestInvalid | viewOverflow | viewUnderflow | queueFull | layerStarved | scanoutUnderrun
  | cameraLost | cameraErrored | signalStale | guideClipped | audioUnderrun | audioClip | chimeUnavailable | storeFail
  deriving DecidableEq, Repr

/-- A device write of at most one 64-byte block waiting for its grant. `bringUp` marks the identity record and the first
full rewrite, for which the first transaction after training waits (R62). -/
structure DeviceWrite where
  addr : Nat
  bytes : List Byte
  bringUp : Bool
  deriving DecidableEq, Repr

/-! ### Chapter 4: start-up -/

inductive StartupState where
  | loading | normal | degraded | service
  deriving DecidableEq, Repr

/-- The start-up state, the load step in progress (1 to 5, while LOADING), the records' validity as found so far, and the
store offset of the fallback picture that load step 5 copies. -/
structure Startup where
  state : StartupState
  step : Nat
  layoutValid : Bool
  calibrationValid : Bool
  fallbackOffset : Nat
  deriving DecidableEq, Repr

/-! ### Chapter 1: link, regions, arbiter -/

/-- A link transaction as the processor sends it (01, Transactions). -/
inductive Transaction where
  | read (addr : BitVec 32) (len : Nat)
  | write (addr : BitVec 32) (lanes : List (Option Byte))
  deriving DecidableEq, Repr

/-- An entry of the response list: `answer` is the data once it is known. -/
structure AwaitedRead where
  answer : Option (List Byte)
  error : Bool
  deriving DecidableEq, Repr

/-- A response sent on the link. -/
structure Response where
  data : List Byte
  error : Bool
  deriving DecidableEq, Repr

/-- An access of the link path, class C. A read or a record fetch that was discarded while it waited is no longer live.
A write carries the media producer values it handed, which apply at its grant (R168). -/
inductive LinkAccess where
  | read (addr len : Nat) (live : Bool)
  | write (addr : Nat) (lanes : List (Option Byte)) (media : List (Display × BitVec 32))
  | record (addr : Nat) (live : Bool)
  deriving DecidableEq, Repr

/-- The link port: link state, response list, the transactions that flow control holds at the processor, the accesses
waiting at the arbiter, and the responses sent. -/
structure LinkPort where
  up : Bool
  responses : List AwaitedRead
  held : List Transaction
  path : List LinkAccess
  answered : List Response
  deriving DecidableEq, Repr

inductive RegionKind where
  | locked | status | control | requestRing | frame | audioRing
  deriving DecidableEq, Repr

inductive Origin where
  | layout | dynamic
  deriving DecidableEq, Repr

/-- A region table entry (01, Entries). `hold` is used by FRAME entries, `stream` by AUDIO_RING entries. -/
structure Region where
  ident : Nat
  base : Nat
  size : Nat
  kind : RegionKind
  origin : Origin
  hold : Nat
  stream : Option Display
  deriving DecidableEq, Repr

/-- The bases of the regions named by role (R6). SERVICE has no camera area. -/
structure Roles where
  requestRing : Nat
  reportRing : Nat
  controlPage : Nat
  statusBlock : Nat
  cameraArea : Option Nat
  deriving DecidableEq, Repr

inductive ArbClass where
  | a | b | c | d
  deriving DecidableEq, Repr

/-- The arbiter's records: link-share window (oldest first), store gap count, round-robin positions (R16, R17). -/
structure Arbiter where
  window : List ArbClass
  storeGap : Nat
  posA : Nat
  posB : Nat
  deriving DecidableEq, Repr

/-! ### Chapter 2: requests, reports, faults -/

/-- The request taker's fetch: none, in flight, or the record that arrived and waits to be taken (R21). -/
inductive Fetch where
  | idle
  | inFlight
  | arrived (record : List Byte)
  deriving DecidableEq, Repr

structure Taker where
  consumer : Nat
  producer : Nat
  fetch : Fetch
  deriving DecidableEq, Repr

/-- What the report writer holds for one fault kind (2.3). -/
structure FaultRecord where
  flag : Bool
  masked : Bool
  counter : Nat
  detail : Nat
  deriving DecidableEq, Repr

structure ReportWriter where
  producer : Nat
  consumer : Nat
  lost : Nat
  faults : Vector FaultRecord 16
  updateCount : BitVec 32
  queue : List DeviceWrite
  deriving DecidableEq, Repr

/-! ### Chapter 3: the store -/

inductive StoreState where
  | idle | reading | programming | erasing | suspendedProgram | suspendedErase
  deriving DecidableEq, Repr

inductive BlockStatus where
  | erased | written | incomplete
  deriving DecidableEq, Repr

/-- What a store request does. -/
inductive StoreWork where
  | read (offset length dest : Nat)
  | program (offset length source : Nat)
  | erase (block : Nat)
  | lock
  deriving DecidableEq, Repr

structure StoreRequest where
  tag : Nat
  work : StoreWork
  deriving DecidableEq, Repr

/-- The operation in progress: its request, the source bytes that have arrived (a program), the part time since which
running time counts (none while it does not count), the running time before that, and the time of the last resume. -/
structure StoreOp where
  request : StoreRequest
  source : List Byte
  counting : Option Time
  ran : Nat
  lastResume : Option Time
  deriving DecidableEq, Repr

/-- A staging waits, has had suspension asked for, or runs (R48, R49). -/
inductive StagingPhase where
  | waiting
  | asked (since : Time)
  | running (since : Time)
  deriving DecidableEq, Repr

structure Staging where
  clip : Nat
  offset : Nat
  length : Nat
  phase : StagingPhase
  deriving DecidableEq, Repr

/-- A class D access: a destination write of STORE_READ, or a source read of STORE_PROGRAM. -/
inductive Transfer where
  | write (addr : Nat) (bytes : List Byte)
  | source (addr len : Nat)
  deriving DecidableEq, Repr

/-- The store controller and the store itself. `background` says what an unlisted byte of each block is: erased (none), or
a free value of the interruption numbered there (R51). -/
structure Store where
  cells : Mem
  background : Vector (Option Nat) 32
  interruptions : Nat
  marks : Vector BlockStatus 32
  lockMark : Bool
  table : Vector BlockStatus 32
  lockCopy : Bool
  state : StoreState
  queue : List StoreRequest
  op : Option StoreOp
  staging : Option Staging
  transfers : List Transfer
  lastTag : Nat
  lastKind : Nat
  lastCode : Code
  deriving DecidableEq, Repr

/-! ### Chapter 5: the camera -/

inductive Alignment where
  | noSignal | search | verify | locked
  deriving DecidableEq, Repr

inductive Direction where
  | up | down
  deriving DecidableEq, Repr

/-- A camera packet (11.9). -/
inductive CameraPacket where
  | frameStart (frame : Byte)
  | line (number : Nat) (rest : List Byte)
  | frameEnd (frame : Byte) (count : Nat)
  | other
  deriving DecidableEq, Repr

/-- The open frame (5.1): number, next expected line, concealed-line count, in-order flag, luma sum, whether the
frame-number check failed (R68), and the output row written last (the row above the next one, R76). -/
structure OpenFrame where
  number : Byte
  expected : Nat
  concealed : Nat
  inOrder : Bool
  lumaSum : Nat
  jumped : Bool
  rowAbove : Option (List Byte)
  deriving DecidableEq, Repr

structure CameraConfig where
  cropCol : Nat
  cropRow : Nat
  mirror : Bool
  tLo : Nat
  tHi : Nat
  dLo : Nat
  dHi : Nat
  deriving DecidableEq, Repr

structure Camera where
  running : Bool
  align : Alignment
  timer : Option Time
  frame : Option OpenFrame
  previous : Option Byte
  goodRun : Nat
  erroredRun : Nat
  writing : Option (Fin 3)
  newest : Option (Fin 3 × Time)
  displaying : Option (Fin 3)
  completing : Option Nat
  deferred : List CameraPacket
  gain : Nat
  candidate : Option Direction
  freshLock : Bool
  config : CameraConfig
  queue : List DeviceWrite
  deriving DecidableEq, Repr

/-! ### Chapter 6: vehicle signals and the reverse sequence -/

/-- An acceptance table entry (6.1, 11.8). -/
structure AcceptEntry where
  ident : Nat
  signal : Signal
  startByte : Nat
  width : Nat
  signed : Bool
  marker : Option Nat
  limitMs : Nat
  deriving DecidableEq, Repr

inductive SignalState where
  | never | fresh | stale
  deriving DecidableEq, Repr

/-- A signal record (6.2). For REVERSE the value is 0 RELEASED or 1 ASSERTED. -/
structure SignalRecord where
  value : Int
  state : SignalState
  deadline : Option Time
  staleSince : Option Time
  deriving DecidableEq, Repr

/-- The vehicle signal input. `candidate` is the REVERSE debounce candidate (some true is ASSERTED); its count is 1 when
one is held and 0 otherwise (R94). -/
structure Vehicle where
  receiving : Bool
  table : List AcceptEntry
  records : PerSignal SignalRecord
  candidate : Option Bool
  stalePeriodOver : Bool
  pinLevel : Bool
  pinAccepted : Bool
  pinChanged : Time
  deriving DecidableEq, Repr

inductive ReverseState where
  | off | engaged | holdOff | manual
  deriving DecidableEq, Repr

inductive ReverseSource where
  | pin | bus | either
  deriving DecidableEq, Repr

structure Reverse where
  running : Bool
  state : ReverseState
  timer : Option Time
  source : ReverseSource
  holdOffMs : Nat
  exitSpeed : Int
  deriving DecidableEq, Repr

/-- A park band: upper limit and beep interval in milliseconds, none for CONTINUOUS (6.4). -/
structure Band where
  limit : Int
  interval : Option Nat
  deriving DecidableEq, Repr

structure Park where
  active : Bool
  band : Option Nat
  lastOffer : Option Time
  nextOffer : Option Time
  table : List Band
  deriving DecidableEq, Repr

/-! ### Chapter 7: the guide engine -/

/-- Span bands by rank: NEAR above MID above FAR. -/
inductive SpanBand where
  | near | mid | far
  deriving DecidableEq, Repr

structure Span where
  row : Nat
  startCol : Nat
  endCol : Nat
  band : SpanBand
  deriving DecidableEq, Repr

inductive TableName where
  | zero | one
  deriving DecidableEq, Repr

structure GuideFlags where
  isStatic : Bool
  unavailable : Bool
  behind : Bool
  offscreen : Bool
  spansDropped : Bool
  deriving DecidableEq, Repr

/-- The nine homography coefficients (R120). -/
structure Homography where
  h11 : Int
  h12 : Int
  h13 : Int
  h21 : Int
  h22 : Int
  h23 : Int
  h31 : Int
  h32 : Int
  h33 : Int
  deriving DecidableEq, Repr

structure GuideConfig where
  halfWidth : Int
  overhang : Int
  curve : List (Int × Int)
  marks : List Int
  b1 : Int
  b2 : Int
  homography : Homography
  lineHalf : Int
  near : Colour
  mid : Colour
  far : Colour
  deriving DecidableEq, Repr

/-- The guide engine. `ready` is the pending selector; `building` names the table a build works on and the curvature it
took at its boundary (R117). A table lists its spans by row, start, end and band. -/
structure Guide where
  kappa : Int
  flags : GuideFlags
  tableZero : List Span
  tableOne : List Span
  shown : Option TableName
  ready : Option TableName
  building : Option (TableName × Int)
  config : Option GuideConfig
  deriving DecidableEq, Repr

/-! ### Chapters 8 and 9: views, layers, presentation, scan-out -/

inductive Owner where
  | system | camera
  deriving DecidableEq, Repr

/-- A view record (8.1). A CAMERA view's layer set is camera and guide; `video` and `menu` are clear for it. -/
structure View where
  owner : Owner
  tag : Byte
  video : Bool
  menu : Bool
  background : Colour
  pinned : Bool
  deriving DecidableEq, Repr

inductive PixelFormat where
  | argb8888 | nv12
  deriving DecidableEq, Repr

inductive Cadence where
  | stream | still
  deriving DecidableEq, Repr

/-- A layer setting record (8.4). -/
structure LayerSetting where
  enable : Bool
  format : PixelFormat
  sourceWidth : Nat
  sourceHeight : Nat
  stride : Nat
  x : Nat
  y : Nat
  w : Nat
  h : Nat
  alpha : Nat
  fill : Colour
  cadence : Cadence
  deriving DecidableEq, Repr

/-- An entry of a presentation queue (9.1). -/
structure QueueEntry where
  region : Nat
  offset : Nat
  time : Time
  deriving DecidableEq, Repr

/-- A system layer: setting records and presentation queue. The current frame carries its shown count. -/
structure LayerState where
  applied : LayerSetting
  staged : Option LayerSetting
  queue : List QueueEntry
  current : Option (QueueEntry × Nat)
  lastSelection : Time
  armed : Bool
  releasedShown : BitVec 32
  dropped : BitVec 32
  deriving DecidableEq, Repr

/-- What a system layer contributes to the frame begun at a boundary (R155): nothing, its fill colour, or its current
frame, whose bytes lie from `base` in DRAM. -/
inductive Contribution where
  | nothing
  | fill (setting : LayerSetting)
  | frame (setting : LayerSetting) (base : Nat)
  deriving DecidableEq, Repr

/-- The camera part of a FRONT frame (R161, R163): no CAMERA view, the fallback, or a fresh picture in the capture buffer
at `base` shown with `gain`. -/
inductive CameraScene where
  | absent
  | fallback
  | fresh (base : Nat) (gain : Nat)
  deriving DecidableEq, Repr

/-- A scan-out fetch of at most one 64-byte block, for a layer's part of a row of a frame (R164). -/
structure ScanFetch where
  layer : ScanLayer
  frameNo : Nat
  row : Nat
  addr : Nat
  len : Nat
  deriving DecidableEq, Repr

/-- Source data granted to scan-out. -/
structure ScanData where
  layer : ScanLayer
  row : Nat
  addr : Nat
  bytes : List Byte
  deriving DecidableEq, Repr

/-- A row of pixels as sent: red, green and blue of each column. -/
structure SentRow where
  row : Nat
  pixels : List (Byte × Byte × Byte)
  deriving DecidableEq, Repr

/-- Scan-out of one display: what the boundary took for the frame, the row being sent (none during the vertical
blanking), the layers late in that row with the column from which they are late, the data granted, the fetches waiting,
and the last row sent. -/
structure Scan where
  frameNo : Nat
  view : Option View
  video : Contribution
  menu : Contribution
  camera : CameraScene
  row : Option Nat
  late : List (ScanLayer × Nat)
  data : List ScanData
  queue : List ScanFetch
  sent : Option SentRow
  deriving DecidableEq, Repr

/-- One display: view stack (bottom first), change hold, its two system layers, its next frame boundary, its scan-out. -/
structure DisplayState where
  stack : List View
  hold : Bool
  video : LayerState
  menu : LayerState
  nextBoundary : Time
  scan : Scan
  deriving DecidableEq, Repr

/-- The compositor's own state: fallback-shown flag, applied gain, on-chip copy of the fallback picture (R59, R87, R163). -/
structure Compositor where
  fallbackShown : Bool
  appliedGain : Nat
  fallbackIndices : List Byte
  fallbackPalette : List Colour
  deriving DecidableEq, Repr

/-! ### Chapter 10: audio -/

/-- A stereo sample pair: left and right. -/
structure Stereo where
  left : BitVec 16
  right : BitVec 16
  deriving DecidableEq, Repr

/-- The ring a stream plays from: region id, base, and size in frames. -/
structure Ring where
  region : Nat
  base : Nat
  size : Nat
  deriving DecidableEq, Repr

/-- A media stream (10.1). `buffer` holds the frames from the consumer index on that have been fetched. -/
structure Stream where
  running : Bool
  ring : Option Ring
  consumer : Nat
  held : BitVec 32
  producer : Nat
  buffer : List Stereo
  setGain : Nat
  gEff : Nat
  startDelay : Option Time
  underrun : Bool
  deriving DecidableEq, Repr

/-- An audio fetch in flight for `count` frames at `addr`, of which the first `keep` still enter the buffer (R168, R169). -/
structure AudioFetch where
  stream : Display
  addr : Nat
  count : Nat
  keep : Nat
  deriving DecidableEq, Repr

inductive ChimeOwner where
  | system | part
  deriving DecidableEq, Repr

/-- A chime entry (10.3). -/
structure Chime where
  clip : Nat
  priority : Nat
  owner : ChimeOwner
  arrival : Nat
  deriving DecidableEq, Repr

/-- Where a playing chime's samples come from; the substitute tone has a length in samples and a gain (R172). -/
inductive ChimeSource where
  | cache
  | staging
  | tone (samples gain : Nat)
  deriving DecidableEq, Repr

inductive Player where
  | idle
  | starting (chime : Chime)
  | playing (chime : Chime) (source : ChimeSource) (position : Nat)
  deriving DecidableEq, Repr

/-- A pair's chime queue (head first), its arrival number and its player. -/
structure PairChimes where
  queue : List Chime
  arrivals : Nat
  player : Player
  deriving DecidableEq, Repr

/-- The staging buffer (10.4): whole clip held, its bytes, user, staging asked, wait list. -/
structure StagingBuffer where
  content : Option Nat
  bytes : List Byte
  user : Option Display
  asked : Option Nat
  waiters : List Display
  deriving DecidableEq, Repr

/-- A clip of the live chime table (10.2). `wanted` is the layout's request for residency, used by load step 4. -/
structure Clip where
  offset : Nat
  length : Nat
  wanted : Bool
  resident : Bool
  gain : Nat
  deriving DecidableEq, Repr

structure Audio where
  running : Bool
  streams : PerDisplay Stream
  fetchQueue : List AudioFetch
  chimes : PerDisplay PairChimes
  buffer : StagingBuffer
  clips : List Clip
  cache : List (Nat × List Byte)
  duck : Nat
  sampleCount : Nat
  tickDue : Bool
  tdm : Option (PerDisplay Stereo)
  deriving DecidableEq, Repr

/-! ### The machine -/

/-- The KD-620. -/
structure State where
  time : Time
  pending : List Instr
  dram : Mem
  startup : Startup
  link : LinkPort
  regions : List Region
  roles : Option Roles
  arb : Arbiter
  taker : Taker
  rw : ReportWriter
  store : Store
  camera : Camera
  vehicle : Vehicle
  reverse : Reverse
  park : Park
  guide : Guide
  displays : PerDisplay DisplayState
  compositor : Compositor
  audio : Audio
  deriving DecidableEq, Repr

/-- Why a command stops the model. The manual gives this block no exception entry and no behaviour that stops it. -/
inductive Fault where
  /-- Raised by LINK_READ, LINK_WRITE, CAN_FRAME, OTHER_CAMERA_PACKET and LATE_PIXEL for operands that the manual says
  cannot arrive (`Instr.WellFormed` is false; R3, R89, R190). Safe: the hardware never meets such a command (log 34). -/
  | cannotArrive
  deriving DecidableEq, Repr

/-- Why the model has no meaning for a command. -/
inductive Refusal where
  /-- The command's arm of `exec` has no meaning yet. Safe: nothing can be proved of it. -/
  | notModelled (mnemonic : String)
  deriving DecidableEq, Repr

/-! ### Reset values -/

def LinkPort.reset : LinkPort := { up := false, responses := [], held := [], path := [], answered := [] }

def Arbiter.reset : Arbiter := { window := [], storeGap := 0, posA := 0, posB := 0 }

def Taker.reset : Taker := { consumer := 0, producer := 0, fetch := .idle }

def FaultRecord.reset : FaultRecord := { flag := false, masked := true, counter := 0, detail := 0 }

def ReportWriter.reset : ReportWriter :=
  { producer := 0, consumer := 0, lost := 0, faults := Vector.replicate 16 FaultRecord.reset, updateCount := 0
    queue := [] }

/-- The store as delivered: every byte erased, every mark ERASED, the lock clear (R37). -/
def Store.delivered : Store :=
  { cells := [], background := Vector.replicate 32 none, interruptions := 0, marks := Vector.replicate 32 .erased
    lockMark := false, table := Vector.replicate 32 .erased, lockCopy := false, state := .idle, queue := []
    op := none, staging := none, transfers := [], lastTag := 0, lastKind := 0, lastCode := .ok }

/-- The camera settings of DEGRADED (R60, R82). -/
def CameraConfig.default : CameraConfig :=
  { cropCol := 32, cropRow := 20, mirror := false, tLo := 100, tHi := 124, dLo := 64, dHi := 176 }

def Camera.reset : Camera :=
  { running := false, align := .noSignal, timer := none, frame := none, previous := none, goodRun := 0, erroredRun := 0
    writing := none, newest := none, displaying := none, completing := none, deferred := [], gain := 16
    candidate := none, freshLock := false, config := CameraConfig.default, queue := [] }

def SignalRecord.reset : SignalRecord := { value := 0, state := .never, deadline := none, staleSince := none }

def Vehicle.reset (pinLevel : Bool) : Vehicle :=
  { receiving := false, table := []
    records := { reverse := .reset, steering := .reset, speed := .reset, parkDistance := .reset }
    candidate := none, stalePeriodOver := false, pinLevel := pinLevel, pinAccepted := false, pinChanged := 0 }

def Reverse.reset : Reverse :=
  { running := false, state := .off, timer := none, source := .pin, holdOffMs := 5000, exitSpeed := 0 }

/-- The park pattern after reset (R110). The last offer time, for which R110 gives no value, is absent (DESIGN CHOICE, log 5). -/
def Park.reset : Park := { active := false, band := none, lastOffer := none, nextOffer := none, table := [] }

def GuideFlags.clear : GuideFlags :=
  { isStatic := false, unavailable := false, behind := false, offscreen := false, spansDropped := false }

def Guide.reset : Guide :=
  { kappa := 0, flags := .clear, tableZero := [], tableOne := [], shown := none, ready := none, building := none
    config := none }

/-- The default layer record of R145. -/
def LayerSetting.default : LayerSetting :=
  { enable := false, format := .argb8888, sourceWidth := 16, sourceHeight := 16, stride := 64, x := 0, y := 0, w := 16
    h := 16, alpha := 255, fill := 0xFF000000#32, cadence := .still }

def LayerState.reset : LayerState :=
  { applied := .default, staged := none, queue := [], current := none, lastSelection := 0, armed := true
    releasedShown := 0, dropped := 0 }

/-- Before a display's first boundary the composed view is none, the contributions nothing and the camera scene absent (DESIGN
CHOICE, log 5; 8.6 gives them from the first boundary on). -/
def Scan.reset : Scan :=
  { frameNo := 0, view := none, video := .nothing, menu := .nothing, camera := .absent, row := none, late := []
    data := [], queue := [], sent := none }

def DisplayState.reset : DisplayState :=
  { stack := [], hold := false, video := .reset, menu := .reset, nextBoundary := 0, scan := .reset }

def Compositor.reset : Compositor :=
  { fallbackShown := false, appliedGain := 16, fallbackIndices := [], fallbackPalette := [] }

def Stream.reset : Stream :=
  { running := false, ring := none, consumer := 0, held := 0, producer := 0, buffer := [], setGain := 0, gEff := 0
    startDelay := none, underrun := false }

def PairChimes.reset : PairChimes := { queue := [], arrivals := 0, player := .idle }

def StagingBuffer.reset : StagingBuffer := { content := none, bytes := [], user := none, asked := none, waiters := [] }

def Audio.reset : Audio :=
  { running := false, streams := { front := .reset, rearLeft := .reset, rearRight := .reset }, fetchQueue := []
    chimes := { front := .reset, rearLeft := .reset, rearRight := .reset }, buffer := .reset, clips := [], cache := []
    duck := 16, sampleCount := 0, tickDue := false, tdm := none }

def Startup.reset : Startup :=
  { state := .loading, step := 1, layoutValid := false, calibrationValid := false, fallbackOffset := 0 }

/-- The state right after a power-on reset of a device as delivered (R18, R36, R51, R54, R88, R110, R128, R145, R165,
R184): LOADING, load step 1 begun, the link DOWN, nothing waiting. -/
def State.reset : State :=
  { time := 0, pending := [], dram := [], startup := .reset, link := .reset, regions := [], roles := none
    arb := .reset, taker := .reset, rw := .reset, store := .delivered, camera := .reset, vehicle := .reset false
    reverse := .reset, park := .reset, guide := .reset
    displays := { front := .reset, rearLeft := .reset, rearRight := .reset }, compositor := .reset, audio := .reset }

end Sys2Proof.Machine
end

