-- ==== Sys2Proof/WellFormed.lean ====
section
/-! DEFINITION. Which commands can arrive: operands that the link, the CAN input, the camera input or a display can
carry. -/

namespace Sys2Proof

/-- Columns of a display (00, Ports). -/
def Display.columns : Display → Nat
  | .front => 1280
  | .rearLeft => 1024
  | .rearRight => 1024

/-- Active rows of a display (R155). -/
def Display.rows : Display → Nat
  | .front => 720
  | .rearLeft => 600
  | .rearRight => 600

/-- The operands can arrive: a link transaction has 1 to 64 bytes (R3), a CAN data frame has as many data bytes as its
length code gives, at most 8 (R89), an OTHER_CAMERA_PACKET is none of the three kinds (R190), and a late pixel lies on its
display, the camera layer on FRONT only (R164). -/
def Instr.WellFormed : Instr → Bool
  | .linkRead _ len => decide (1 ≤ len ∧ len ≤ 64)
  | .linkWrite _ lanes => decide (1 ≤ lanes.length ∧ lanes.length ≤ 64)
  | .canFrame _ dlc data => decide (data.length = min dlc.toNat 8)
  | .otherCameraPacket bytes => isOtherPacket bytes
  | .latePixel d layer column => decide (column < d.columns ∧ (layer = .camera → d = .front))
  | .powerOnReset | .pinReset | .loadStepComplete | .linkTraining | .lossOfLink | .requestProducerIndex _
  | .reportConsumerIndex _ | .mediaProducerIndex _ _ | .dramGrant | .unknownRequestKind | .publish | .setLayer
  | .holdChanges | .releaseChanges | .pushView | .popView | .showCamera | .closeCamera | .defineRegion | .deleteRegion
  | .audioStart | .audioStop | .audioGain | .playChime | .stopChimes | .storeRead | .storeProgram | .storeErase
  | .storeLockCalibration | .setFaultMask | .clearFaults | .systemRestart | .storeProgramComplete | .storeEraseComplete
  | .storeReadComplete | .lockWriteComplete | .suspensionAsk | .suspensionTakesEffect | .stagingComplete | .frameStart _
  | .line _ _ | .frameEnd _ _ | .signalTimerExpiry | .captureComplete | .freshnessExpiry _ | .stalePeriodEnd
  | .reversePinChange _ | .pinDebounceExpiry | .holdOffExpiry | .parkOfferTime | .displayFrameBoundary _
  | .guideBuildComplete | .sampleTime | .startDelayExpiry _ | .millisecondTick | .chimeEnd _ | .activeRowFetch _ => true

end Sys2Proof
end

