-- ==== Sys2Proof/Machine/Ops.lean ====
section
/-! DEFINITION. The named operations over memory, the store's bytes, part time and the displays, that every family uses. -/

namespace Sys2Proof.Machine

/-! ### Sparse memories -/

/-- The byte at `a`: the listed one, else what an unlisted address reads as. -/
def cellRead (unlisted : Nat → Byte) : Mem → Nat → Byte
  | [], a => unlisted a
  | (b, v) :: rest, a => if b = a then v else cellRead unlisted rest a

/-- Write `v` at `a` and keep the canonical form: addresses strictly rising, no entry equal to what an unlisted address
reads as. -/
def cellWrite (unlisted : Nat → Byte) : Mem → Nat → Byte → Mem
  | [], a, v => if v = unlisted a then [] else [(a, v)]
  | (b, w) :: rest, a, v =>
    if a < b then (if v = unlisted a then (b, w) :: rest else (a, v) :: (b, w) :: rest)
    else if a = b then (if v = unlisted a then rest else (a, v) :: rest)
    else (b, w) :: cellWrite unlisted rest a v

/-- The canonical form: addresses strictly rising from `low` on, no entry equal to what an unlisted address reads as. -/
def cellsFrom (unlisted : Nat → Byte) : Nat → Mem → Bool
  | _, [] => true
  | low, (b, v) :: rest => decide (low ≤ b) && decide (v ≠ unlisted b) && cellsFrom unlisted (b + 1) rest

/-- What a byte of DRAM that nothing has written reads as (log 3). -/
def dramUnlisted (_a : Nat) : Byte := Config.unwrittenByte

/-- Read one byte of DRAM. -/
def Mem.read (m : Mem) (a : Nat) : Byte := cellRead dramUnlisted m a

/-- Write one byte of DRAM. -/
def Mem.write (m : Mem) (a : Nat) (v : Byte) : Mem := cellWrite dramUnlisted m a v

/-- DRAM is in canonical form. -/
def Mem.wf (m : Mem) : Bool := cellsFrom dramUnlisted 0 m

/-- Read `n` bytes of DRAM from `a` on. -/
def Mem.readBytes (m : Mem) (a n : Nat) : List Byte := (List.range n).map fun i => m.read (a + i)

/-- Write bytes to DRAM from `a` on. -/
def Mem.writeBytes : Mem → Nat → List Byte → Mem
  | m, _, [] => m
  | m, a, v :: rest => Mem.writeBytes (m.write a v) (a + 1) rest

/-- Write the enabled bytes of a link write (R3: a byte whose enable is clear is not written). -/
def Mem.writeLanes : Mem → Nat → List (Option Byte) → Mem
  | m, _, [] => m
  | m, a, none :: rest => Mem.writeLanes m (a + 1) rest
  | m, a, some v :: rest => Mem.writeLanes (m.write a v) (a + 1) rest

/-- Cut `len` bytes at `addr` into accesses that each lie within one 64-byte aligned block (1.4): address and length, in
ascending order and in the fewest pieces (DESIGN CHOICE, log 43). The first argument bounds the number of pieces. -/
def blockPieces : Nat → Nat → Nat → List (Nat × Nat)
  | 0, _, _ => []
  | fuel + 1, addr, len =>
    if len = 0 then []
    else (addr, min len (64 - addr % 64)) ::
      blockPieces fuel (addr + min len (64 - addr % 64)) (len - min len (64 - addr % 64))

/-- Cut a run of bytes at `addr` into block-sized writes, in ascending order (log 43). -/
def blockWrites (addr : Nat) (bytes : List Byte) : List (Nat × List Byte) :=
  (blockPieces bytes.length addr bytes.length).map fun p => (p.1, (bytes.drop (p.1 - addr)).take p.2)

/-! ### The store's bytes (03, 3.1) -/

/-- The block that a store offset lies in. -/
def blockOf (offset : Nat) : Nat := offset / Config.blockSize

/-- What an unlisted byte of the store reads as: 0xFF where its block is erased, the free value of its interruption where
a reset ended a program or erase of it (R51, log 16). -/
def storeUnlisted (background : Vector (Option Nat) 32) (offset : Nat) : Byte :=
  match background.toList.getD (blockOf offset) none with
  | none => 0xFF
  | some n => Config.interruptedByte n offset

/-- Read one byte of the store. -/
def Store.byte (st : Store) (offset : Nat) : Byte := cellRead (storeUnlisted st.background) st.cells offset

/-- Read `n` bytes of the store from `offset` on. -/
def Store.bytes (st : Store) (offset n : Nat) : List Byte := (List.range n).map fun i => st.byte (offset + i)

/-- Set bytes of the store from `offset` on. -/
def Store.setBytes (st : Store) (offset : Nat) : List Byte → Store
  | [] => st
  | v :: rest =>
    Store.setBytes { st with cells := cellWrite (storeUnlisted st.background) st.cells offset v } (offset + 1) rest

/-- Drop every listed byte of block `b` and give the block's unlisted bytes a new meaning. -/
def Store.wipeBlock (st : Store) (b : Nat) (meaning : Option Nat) : Store :=
  { st with
    cells := st.cells.filter fun c => blockOf c.1 != b
    background := st.background.setIfInBounds b meaning }

/-- The status of block `b` (R37). -/
def Store.status (st : Store) (b : Nat) : BlockStatus := st.table.toList.getD b .erased

/-- Write a block's condition mark and its table entry together (R37: the two agree). -/
def Store.setStatus (st : Store) (b : Nat) (v : BlockStatus) : Store :=
  { st with marks := st.marks.setIfInBounds b v, table := st.table.setIfInBounds b v }

/-- The blocks that a run of store bytes lies in: every block from that of its first byte to that of its last. -/
def blocksOf (offset length : Nat) : List Nat :=
  (List.range (blockOf (offset + length - 1) + 1 - blockOf offset)).map fun i => blockOf offset + i

/-! ### Part time (00, Conventions) -/

/-- Part time has reached `deadline`, by the signed 32-bit difference. -/
def reached (now deadline : Time) : Bool := decide (0 ≤ (now - deadline).toInt)

/-- Part time has gone past `deadline`. -/
def passed (now deadline : Time) : Bool := decide (0 < (now - deadline).toInt)

/-- Microseconds from `since` to `now`, for an interval shorter than the wrap. -/
def elapsed (now since : Time) : Nat := (now - since).toNat

/-- The part time `us` microseconds after `t`. -/
def later (t : Time) (us : Nat) : Time := t + BitVec.ofNat 32 us

/-- The deadline, where one is set, has been reached. -/
def dueNow (now : Time) : Option Time → Bool
  | none => false
  | some t => reached now t

/-! ### Displays, pairs, signals -/

/-- The number of a display, pair or stream (11.1). -/
def displayNumber : Display → Nat
  | .front => 0
  | .rearLeft => 1
  | .rearRight => 2

/-- The three displays in the order of their numbers. -/
def allDisplays : List Display := [.front, .rearLeft, .rearRight]

/-- The number of a signal (11.1). -/
def signalNumber : Signal → Nat
  | .reverse => 0
  | .steering => 1
  | .speed => 2
  | .parkDistance => 3

/-- The number of a layer; 2 is the camera in a SCANOUT_UNDERRUN detail (11.1). -/
def layerNumber : ScanLayer → Nat
  | .video => 0
  | .menu => 1
  | .camera => 2

/-- Change one display's state. -/
def State.updateDisplay (s : State) (d : Display) (f : DisplayState → DisplayState) : State :=
  { s with displays := s.displays.put d (f (s.displays.get d)) }

/-- A display's system layer; the camera layer has no setting record and reads as the menu layer here, which no caller asks. -/
def DisplayState.layer (ds : DisplayState) : ScanLayer → LayerState
  | .video => ds.video
  | .menu => ds.menu
  | .camera => ds.menu

/-- Replace a display's system layer. -/
def DisplayState.putLayer (ds : DisplayState) (l : ScanLayer) (v : LayerState) : DisplayState :=
  match l with
  | .video => { ds with video := v }
  | .menu => { ds with menu := v }
  | .camera => ds

/-- Change one stream. -/
def State.updateStream (s : State) (d : Display) (f : Stream → Stream) : State :=
  { s with audio.streams := s.audio.streams.put d (f (s.audio.streams.get d)) }

/-- Change one pair's chime queue and player. -/
def State.updateChimes (s : State) (d : Display) (f : PairChimes → PairChimes) : State :=
  { s with audio.chimes := s.audio.chimes.put d (f (s.audio.chimes.get d)) }

end Sys2Proof.Machine
end

