-- ==== Sys2Proof/Machine/Operands.lean ====
section
/-! DEFINITION. Operands: fields of records, enumerated fields, and the encodings of chapter 11. -/

namespace Sys2Proof.Machine

/-! ### Little-endian fields (11) -/

/-- Byte `i` of a record as a number; 0 beyond its end. -/
def byteAt (r : List Byte) (i : Nat) : Nat := (r.getD i 0).toNat

/-- The `n`-byte little-endian field at offset `i` of a record. -/
def fieldAt (r : List Byte) (i : Nat) : Nat → Nat
  | 0 => 0
  | n + 1 => byteAt r i + 256 * fieldAt r (i + 1) n

/-- A `bits`-bit field value read as two's complement. -/
def signedOf (bits v : Nat) : Int := if v < 2 ^ (bits - 1) then v else (v : Int) - 2 ^ bits

/-- The low `n` bytes of `v`, least significant first. -/
def bytesOf : Nat → Nat → List Byte
  | 0, _ => []
  | n + 1, v => BitVec.ofNat 8 v :: bytesOf n (v / 256)

/-- A signed value as `n` bytes of two's complement. -/
def bytesOfInt (n : Nat) (v : Int) : List Byte := bytesOf n (v % (2 ^ (8 * n) : Int)).toNat

/-- `n` bytes of 0. -/
def zeroBytes (n : Nat) : List Byte := List.replicate n 0

/-! ### The request record (11.2) -/

/-- Kind, report-wanted, tag and reserved field of the common header. -/
def reqKind (r : List Byte) : Nat := byteAt r 0
def reqWanted (r : List Byte) : Nat := byteAt r 1
def reqTag (r : List Byte) : Nat := fieldAt r 2 2
def reqReserved (r : List Byte) : Nat := fieldAt r 4 2

/-- Every parameter byte (offsets 6 to 31) that the kind does not name is 0 (R186). -/
def reservedClear (r : List Byte) (named : List Nat) : Bool :=
  (List.range 26).all fun i => named.contains (i + 6) || byteAt r (i + 6) == 0

/-- A display or output pair field (11.1). -/
def displayField : Nat → Option Display
  | 0 => some .front
  | 1 => some .rearLeft
  | 2 => some .rearRight
  | _ => none

/-- A layer field: video or menu (11.1). -/
def layerField : Nat → Option ScanLayer
  | 0 => some .video
  | 1 => some .menu
  | _ => none

/-- A 0 or 1 field. -/
def flagField : Nat → Option Bool
  | 0 => some false
  | 1 => some true
  | _ => none

def formatField : Nat → Option PixelFormat
  | 0 => some .argb8888
  | 1 => some .nv12
  | _ => none

def cadenceField : Nat → Option Cadence
  | 0 => some .stream
  | 1 => some .still
  | _ => none

def regionKindField : Nat → Option RegionKind
  | 1 => some .locked
  | 2 => some .status
  | 3 => some .control
  | 4 => some .requestRing
  | 5 => some .frame
  | 6 => some .audioRing
  | _ => none

def signalField : Nat → Option Signal
  | 0 => some .reverse
  | 1 => some .steering
  | 2 => some .speed
  | 3 => some .parkDistance
  | _ => none

def sourceField : Nat → Option ReverseSource
  | 0 => some .pin
  | 1 => some .bus
  | 2 => some .either
  | _ => none

/-! ### Encodings (11.1) -/

def codeNumber : Code → Nat
  | .ok => 0
  | .badKind => 1
  | .badField => 2
  | .noRegion => 3
  | .regionOverlap => 4
  | .regionTableFull => 5
  | .regionBusy => 6
  | .regionTooSmall => 7
  | .layerOff => 8
  | .queueFull => 9
  | .viewOverflow => 10
  | .viewUnderflow => 11
  | .viewPinned => 12
  | .storeBusy => 13
  | .storeLocked => 14
  | .verifyFail => 15
  | .blockIncomplete => 16
  | .serviceMode => 17
  | .badAddress => 18

/-- Position of a fault kind in the fault kind table (2.3, 11.1). -/
def FaultKind.index : FaultKind → Fin 16
  | .writeGuard => 0
  | .badAddress => 1
  | .requestInvalid => 2
  | .viewOverflow => 3
  | .viewUnderflow => 4
  | .queueFull => 5
  | .layerStarved => 6
  | .scanoutUnderrun => 7
  | .cameraLost => 8
  | .cameraErrored => 9
  | .signalStale => 10
  | .guideClipped => 11
  | .audioUnderrun => 12
  | .audioClip => 13
  | .chimeUnavailable => 14
  | .storeFail => 15

/-- The sixteen kinds in the order of the fault kind table. -/
def allFaultKinds : List FaultKind :=
  [.writeGuard, .badAddress, .requestInvalid, .viewOverflow, .viewUnderflow, .queueFull, .layerStarved,
    .scanoutUnderrun, .cameraLost, .cameraErrored, .signalStale, .guideClipped, .audioUnderrun, .audioClip,
    .chimeUnavailable, .storeFail]

def startupNumber : StartupState → Nat
  | .loading => 0
  | .normal => 1
  | .degraded => 2
  | .service => 3

def reverseNumber : ReverseState → Nat
  | .off => 0
  | .engaged => 1
  | .holdOff => 2
  | .manual => 3

def alignNumber : Alignment → Nat
  | .noSignal => 0
  | .search => 1
  | .verify => 2
  | .locked => 3

def signalStateNumber : SignalState → Nat
  | .never => 0
  | .fresh => 1
  | .stale => 2

def storeStateNumber : StoreState → Nat
  | .idle => 0
  | .reading => 1
  | .programming => 2
  | .erasing => 3
  | .suspendedProgram => 4
  | .suspendedErase => 5

def blockStatusNumber : BlockStatus → Nat
  | .erased => 0
  | .written => 1
  | .incomplete => 2

/-- Request kind number of a store request (11.2). -/
def storeWorkKind : StoreWork → Nat
  | .read _ _ _ => 16
  | .program _ _ _ => 17
  | .erase _ => 18
  | .lock => 19

def boolNumber (b : Bool) : Nat := if b then 1 else 0

/-- Bit `k` of a set, for each flag of a list in order. -/
def bitSet : List Bool → Nat
  | [] => 0
  | b :: rest => boolNumber b + 2 * bitSet rest

/-- The guide flags as a detail and as the status block shows them (R187): bit 0 STATIC, 1 UNAVAILABLE, 2 BEHIND, 3
OFFSCREEN, 4 SPANS_DROPPED. -/
def guideFlagsNumber (g : GuideFlags) : Nat :=
  bitSet [g.isStatic, g.unavailable, g.behind, g.offscreen, g.spansDropped]

/-- A display and layer detail: display in byte 0, layer in byte 1 (R187). -/
def displayLayerDetail (d : Display) (l : ScanLayer) : Nat := displayNumber d + 256 * layerNumber l

/-! ### The report record (11.3, R187) -/

/-- A report as a block posts it. -/
inductive Report where
  | done (tag : Nat) (code : Code) (newId : Nat)
  | refused (tag : Nat) (code : Code) (kind : Nat)
  | fault (kind : FaultKind) (counter detail : Nat)
  | released (d : Display) (l : ScanLayer) (entry : QueueEntry) (shown : Nat)
  | reverse (state : ReverseState)
  | camera (state : Alignment)
  | reportsLost (count : Nat)
  deriving DecidableEq, Repr

/-- Bytes 0 to 11 of a report record. -/
def reportHeader (kind tag : Nat) (now : Time) (code : Code) : List Byte :=
  bytesOf 1 kind ++ zeroBytes 1 ++ bytesOf 2 tag ++ bytesOf 4 now.toNat ++ bytesOf 1 (codeNumber code) ++ zeroBytes 3

/-- The 32 bytes of a report record posted at part time `now`. -/
def encodeReport (now : Time) : Report → List Byte
  | .done tag code newId => reportHeader 1 tag now code ++ bytesOf 1 newId ++ zeroBytes 19
  | .refused tag code kind => reportHeader 2 tag now code ++ bytesOf 1 kind ++ zeroBytes 19
  | .fault kind counter detail =>
    reportHeader 3 0 now .ok ++ bytesOf 1 kind.index.val ++ zeroBytes 1 ++ bytesOf 2 counter ++ bytesOf 4 detail
      ++ zeroBytes 12
  | .released d l e shown =>
    reportHeader 4 0 now .ok ++ bytesOf 1 (displayNumber d) ++ bytesOf 1 (layerNumber l) ++ bytesOf 1 e.region
      ++ zeroBytes 1 ++ bytesOf 4 e.offset ++ bytesOf 4 e.time.toNat ++ bytesOf 4 shown ++ zeroBytes 4
  | .reverse st => reportHeader 5 0 now .ok ++ bytesOf 1 (reverseNumber st) ++ zeroBytes 19
  | .camera st => reportHeader 6 0 now .ok ++ bytesOf 1 (alignNumber st) ++ zeroBytes 19
  | .reportsLost count => reportHeader 7 0 now .ok ++ bytesOf 2 count ++ zeroBytes 18

/-! ### Rounding (00, Conventions; R113) -/

/-- p/q to the nearest integer, halves away from zero (R113). -/
def rndDiv (p q : Int) : Int :=
  if 0 ≤ p * q then ((2 * p.natAbs + q.natAbs) / (2 * q.natAbs) : Nat)
  else -(((2 * p.natAbs + q.natAbs) / (2 * q.natAbs) : Nat) : Int)

/-- Clamp to a range. -/
def clampInt (lo hi v : Int) : Int := if v < lo then lo else if hi < v then hi else v

/-- Clamp a number to a range. -/
def clampNat (lo hi v : Nat) : Nat := if v < lo then lo else if hi < v then hi else v

end Sys2Proof.Machine
end

