-- ==== Sys2Proof/Machine/Flags.lean ====
section
/-! DEFINITION. The report writer (chapter 2): placing reports, and the fault flags, masks and counters. -/

namespace Sys2Proof.Machine

/-- Present a write of the report writer, class B, behind those it has presented (R26, R34). -/
def State.present (s : State) (addr : Nat) (bytes : List Byte) (bringUp : Bool := false) : State :=
  { s with rw.queue := s.rw.queue ++ [{ addr := addr, bytes := bytes, bringUp := bringUp }] }

/-- Write a field of the status block at once (R21, R26, R34, R46). -/
def State.statusNow (s : State) (offset : Nat) (bytes : List Byte) : State :=
  match s.roles with
  | none => s
  | some r => s.present (r.statusBlock + offset) bytes

/-- A slot of the report ring is free (R26). -/
def ReportWriter.slotFree (rw : ReportWriter) : Bool := (rw.producer + 128 - rw.consumer) % 128 < 127

/-- Place a report in the slot at the producer index, advance the index and write it into the status block (R26). -/
def State.placeReport (s : State) (r : Report) : State :=
  match s.roles with
  | none => s
  | some roles =>
    let s1 := s.present (roles.reportRing + 32 * s.rw.producer) (encodeReport s.time r)
    let s2 := { s1 with rw.producer := (s.rw.producer + 1) % 128 }
    s2.present (roles.statusBlock + 0x028) (bytesOf 4 s2.rw.producer)

/-- Post a report: discarded while the link is DOWN (R27), lost where no slot is free or reports have been lost and not
yet told of (R28), else placed (R26). -/
def State.post (s : State) (r : Report) : State :=
  if s.link.up = false then s
  else if s.rw.lost = 0 ∧ s.rw.slotFree = true then s.placeReport r
  else { s with rw.lost := min (s.rw.lost + 1) 65535 }

/-- What the report writer holds for a fault kind. -/
def ReportWriter.fault (rw : ReportWriter) (k : FaultKind) : FaultRecord := rw.faults[k.index]

/-- Replace what the report writer holds for a fault kind. -/
def ReportWriter.putFault (rw : ReportWriter) (k : FaultKind) (v : FaultRecord) : ReportWriter :=
  { rw with faults := rw.faults.set k.index v }

/-- The kind is masked (R31). -/
def State.isMasked (s : State) (k : FaultKind) : Bool := (s.rw.fault k).masked

/-- A fault record after one occurrence (R30): counter up by one, stopping at 65,535; a clear flag is set with the detail. -/
def FaultRecord.occur (f : FaultRecord) (detail : Nat) : FaultRecord :=
  if f.flag then { f with counter := min (f.counter + 1) 65535 }
  else { f with counter := min (f.counter + 1) 65535, flag := true, detail := detail }

/-- Raise one occurrence of a fault kind (R30). A FAULT report is posted where the flag was clear and the kind is
unmasked. -/
def State.raise (s : State) (k : FaultKind) (detail : Nat) : State :=
  let before := s.rw.fault k
  let after := before.occur detail
  let s1 := { s with rw := s.rw.putFault k after }
  if before.flag = false ∧ before.masked = false then s1.post (.fault k after.counter detail) else s1

/-- Hand the report writer a value of the report consumer index (R29, R28). -/
def State.takeReportConsumer (s : State) (v : BitVec 32) : State :=
  if 128 ≤ v.toNat then s.raise .requestInvalid 0x004
  else if (s.rw.producer + 128 - s.rw.consumer) % 128 < (v.toNat + 128 - s.rw.consumer) % 128 then
    s.raise .requestInvalid 0x004
  else
    let s1 := { s with rw.consumer := v.toNat }
    if 0 < s1.rw.lost ∧ s1.rw.slotFree = true then
      { s1 with rw.lost := 0 }.placeReport (.reportsLost s1.rw.lost)
    else s1

/-- Replace the whole mask, then post for each newly unmasked kind whose flag is set, in table order (R32). -/
def State.setFaultMask (s : State) (mask : Nat) : State :=
  let posted := fun (acc : State) (k : FaultKind) =>
    if (s.rw.fault k).masked = true ∧ mask.testBit k.index.val = false ∧ (s.rw.fault k).flag = true then
      acc.post (.fault k (s.rw.fault k).counter (s.rw.fault k).detail)
    else acc
  let masked := allFaultKinds.foldl
    (fun rw k => rw.putFault k { rw.fault k with masked := mask.testBit k.index.val }) s.rw
  allFaultKinds.foldl posted { s with rw := masked }

/-- Clear flag, recorded detail and counter of each selected kind (R33). -/
def State.clearFaults (s : State) (selection : Nat) : State :=
  { s with
    rw := allFaultKinds.foldl
      (fun rw k =>
        if selection.testBit k.index.val then
          rw.putFault k { rw.fault k with flag := false, detail := 0, counter := 0 }
        else rw) s.rw }

/-- The report writer's part of a system restart (R36): ring indices and lost count 0, flags and details clear, every kind
masked; counters and update count kept. -/
def ReportWriter.restart (rw : ReportWriter) : ReportWriter :=
  allFaultKinds.foldl
    (fun rw k => rw.putFault k { rw.fault k with flag := false, detail := 0, masked := true })
    { rw with producer := 0, consumer := 0, lost := 0 }

end Sys2Proof.Machine
end

