-- ==== Sys2Proof/Machine/Camera.lean ====
section
/-! DEFINITION. The camera receiver (chapter 5): alignment, capture with crop, mirror and concealment, buffer roles, level
control. -/

namespace Sys2Proof.Machine

/-! ### The CRC of a line (R66) -/

/-- Shift a CRC-16 register left `n` times, combining 0x1021 where a 1 is shifted out. -/
def crc16Shift : Nat → BitVec 16 → BitVec 16
  | 0, c => c
  | n + 1, c => crc16Shift n (if c.msb then (c <<< 1) ^^^ 0x1021#16 else c <<< 1)

/-- Take one byte into the CRC-16 register. -/
def crc16Byte (c : BitVec 16) (b : Byte) : BitVec 16 := crc16Shift 8 (c ^^^ (b.setWidth 16 <<< 8))

/-- The CRC-16 of a run of bytes. -/
def crc16 (bytes : List Byte) : BitVec 16 := bytes.foldl crc16Byte 0xFFFF#16

/-- The payload of a LINE where the line is not bad: what follows the line number is 2688 payload bytes and the CRC over
line number and payload, high byte first (R65, R66, R190). -/
def linePayload (number : Nat) (rest : List Byte) : Option (List Byte) :=
  if rest.length = 2690 ∧
      crc16 (bytesOf 2 number ++ rest.take 2688) = BitVec.ofNat 16 (256 * byteAt rest 2688 + byteAt rest 2689) then
    some (rest.take 2688)
  else none

/-! ### Rows (R75, R76, R77) -/

/-- Pixel pairs in reverse order, each with its two Y bytes exchanged (R75). -/
def mirrorPairs : List Byte → List Byte → List Byte
  | acc, y0 :: u :: y1 :: v :: rest => mirrorPairs (y1 :: u :: y0 :: v :: acc) rest
  | acc, _ => acc

/-- The output row a raw line gives (R75). -/
def CameraConfig.cropRowBytes (c : CameraConfig) (payload : List Byte) : List Byte :=
  let cut := (payload.drop (2 * c.cropCol)).take 2560
  if c.mirror then mirrorPairs [] cut else cut

/-- A black output row: every pair Y 16, U 128, Y 16, V 128 (R76). -/
def blackRow : List Byte := (List.replicate 640 [16, 128, 16, 128]).flatten

/-- The sum of the luma bytes of a run of YUYV bytes. -/
def lumaSumOf : List Byte → Nat
  | y :: _ :: rest => y.toNat + lumaSumOf rest
  | _ => 0

/-- What an output row adds to the luma sum: rows 180 to 539, columns 320 to 959 (R77). -/
def measuredLuma (row : Nat) (bytes : List Byte) : Nat :=
  if 180 ≤ row ∧ row ≤ 539 then lumaSumOf ((bytes.drop 640).take 1280) else 0

/-- The lowest buffer that is neither newest nor displaying (R78). -/
def Camera.freeBuffer (c : Camera) : Fin 3 :=
  let used := fun k => decide (c.newest.map Prod.fst = some k ∨ c.displaying = some k)
  if used 0 = false then 0 else if used 1 = false then 1 else 2

/-- The writes of output row `row` into capture buffer `k`, cut into class A accesses (R77), in ascending order
(DESIGN CHOICE, log 43). -/
def captureWrites (area : Nat) (k : Fin 3) (row : Nat) (bytes : List Byte) : List DeviceWrite :=
  (blockWrites (area + k.val * Config.captureBufferSize + 2560 * row) bytes).map fun p =>
    { addr := p.1, bytes := p.2, bringUp := false }

/-- Put raw line `raw` into the capture buffer: its bytes, or, for a concealed line, the row above it, or black (R75,
R76). A line outside the crop rows writes nothing. -/
def Camera.putLine (c : Camera) (area : Option Nat) (f : OpenFrame) (raw : Nat) (bytes : Option (List Byte)) : Camera :=
  if c.config.cropRow ≤ raw ∧ raw < c.config.cropRow + 720 then
    let row := raw - c.config.cropRow
    let out := match bytes with
      | some payload => c.config.cropRowBytes payload
      | none => f.rowAbove.getD blackRow
    let writes := match area, c.writing with
      | some a, some k => captureWrites a k row out
      | _, _ => []
    { c with
      queue := c.queue ++ writes
      frame := some { f with lumaSum := f.lumaSum + measuredLuma row out, rowAbove := some out } }
  else { c with frame := some f }

/-- Conceal `n` raw lines from `e` on, in ascending order; each counts (R69, R70, R76). -/
def Camera.concealLines : Nat → Option Nat → Nat → Camera → Camera
  | 0, _, _, c => c
  | n + 1, area, e, c =>
    match c.frame with
    | none => c
    | some f => Camera.concealLines n area (e + 1)
        (c.putLine area { f with concealed := f.concealed + 1, expected := e + 1 } e none)

/-- Take a LINE in an open frame (R69). -/
def Camera.takeLine (c : Camera) (area : Option Nat) (f : OpenFrame) (n : Nat) (rest : List Byte) : Camera :=
  if n > 759 ∨ n < f.expected then { c with frame := some { f with inOrder := false } }
  else
    let c1 := Camera.concealLines (n - f.expected) area f.expected c
    match linePayload n rest, c1.frame with
    | some payload, some g => c1.putLine area { g with expected := n + 1 } n (some payload)
    | none, some _ => Camera.concealLines 1 area n c1
    | _, none => c1

/-! ### Level control (5.8) -/

/-- The predicted displayed mean (R83). -/
def predictedMean (mean gain : Int) : Int := clampInt 16 235 (16 + ((mean - 16) * gain + 8) / 16)

/-- Fast mode (R84). -/
def fastGain (cfg : CameraConfig) (mean : Nat) : Nat :=
  if mean ≤ 16 then 63
  else clampNat 16 63 ((32 * ((cfg.tLo + cfg.tHi) / 2 - 16) + (mean - 16)) / (2 * (mean - 16)))

/-- One step of the gain in delta mode (R85). -/
def stepGain (gain : Nat) : Direction → Nat
  | .up => clampNat 16 63 (gain + 1)
  | .down => clampNat 16 63 (gain - 1)

/-- Delta mode for a frame that indicates `dir` (R85). -/
def deltaLevel (gain : Nat) (candidate : Option Direction) (dir : Direction) : Nat × Option Direction :=
  if candidate = some dir then (stepGain gain dir, none) else (gain, some dir)

/-- The gain and direction candidate that a measurement of raw mean `mean` leaves (R83 to R86). -/
def levelAfter (cfg : CameraConfig) (fresh : Bool) (gain : Nat) (candidate : Option Direction) (mean : Nat) :
    Nat × Option Direction :=
  let p := predictedMean mean gain
  if fresh = true ∨ p < cfg.dLo ∨ (cfg.dHi : Int) < p then (fastGain cfg mean, none)
  else if p < cfg.tLo then deltaLevel gain candidate .up
  else if (cfg.tHi : Int) < p then deltaLevel gain candidate .down
  else (gain, none)

/-- Run level control on a frame's luma sum (R83, R86). -/
def Camera.level (c : Camera) (lumaSum : Nat) : Camera :=
  let r := levelAfter c.config c.freshLock c.gain c.candidate (lumaSum / 230400)
  { c with gain := r.1, candidate := r.2, freshLock := false }

/-! ### Alignment (5.3) -/

/-- The base of the camera area. -/
def State.cameraArea (s : State) : Option Nat := s.roles.bind Roles.cameraArea

/-- Change the alignment state and post the CAMERA report (R74). -/
def State.toAlign (s : State) (a : Alignment) : State := { s with camera.align := a }.post (.camera a)

/-- What entering SEARCH from LOCKED, or NO_SIGNAL, makes of the runs, the previous frame number and the direction candidate
(R67). -/
def Camera.forget (c : Camera) : Camera := { c with previous := none, goodRun := 0, erroredRun := 0, candidate := none }

/-- Close the open frame as errored: CAMERA_ERRORED is raised and the buffer freed (R70, R71, R79). Its rows' writes that still wait
at the arbiter stay queued and are granted into the freed buffer (DESIGN CHOICE, log 55: R77 to R79 do not say whether they are
withdrawn). -/
def State.closeErrored (s : State) (number : Byte) : State :=
  { s with camera.frame := none, camera.writing := none }.raise .cameraErrored number.toNat

/-- An errored frame counts in LOCKED or VERIFY (R72, R73, R86). -/
def State.countErrored (s : State) : State :=
  match s.camera.align with
  | .locked =>
    if 4 ≤ s.camera.erroredRun + 1 then { s with camera := s.camera.forget }.toAlign .search
    else { s with camera.erroredRun := s.camera.erroredRun + 1, camera.candidate := none }
  | .verify => { s with camera.goodRun := 0 }
  | .search => s
  | .noSignal => s

/-- Open a frame (R68, R78). -/
def Camera.openFrame (c : Camera) (number : Byte) : Camera :=
  { c with
    writing := some c.freeBuffer
    frame := some
      { number := number, expected := 0, concealed := 0, inOrder := true, lumaSum := 0
        jumped := match c.previous with
          | none => false
          | some p => decide (number ≠ p + 1)
        rowAbove := none }
    previous := some number }

/-- End an open frame whose FRAME_END is missing (R68, R71). -/
def State.endOpenFrame (s : State) : State :=
  match s.camera.frame with
  | none => s
  | some f => (s.closeErrored f.number).countErrored

/-- Take a FRAME_START in SEARCH, VERIFY or LOCKED (R67, R68, R73). -/
def State.takeFrameStart (s : State) (number : Byte) : State :=
  let s1 := s.endOpenFrame
  let s2 := if s1.camera.align = .search then { s1 with camera.goodRun := 0 }.toAlign .verify else s1
  { s2 with camera := s2.camera.openFrame number }

/-- The class of a closed frame: good, usable (R70). A good frame is also usable. -/
def OpenFrame.usable (f : OpenFrame) (number : Byte) (count : Nat) : Bool :=
  decide (number = f.number ∧ count = 760 ∧ f.jumped = false ∧ f.concealed ≤ 16)

def OpenFrame.good (f : OpenFrame) (number : Byte) (count : Nat) : Bool :=
  f.usable number count && decide (f.concealed = 0) && f.inOrder

/-- A usable frame closes (R72, R73, R79). In LOCKED it waits for its capture to complete. In VERIFY its buffer is freed, and its
writes that still wait stay queued (DESIGN CHOICE, log 55). -/
def State.closeUsable (s : State) (f : OpenFrame) (good : Bool) : State :=
  match s.camera.align with
  | .locked => { s with camera.frame := none, camera.erroredRun := 0, camera.completing := some f.lumaSum }
  | .verify =>
    let s1 := { s with camera.frame := none, camera.writing := none }
    if good = false then { s1 with camera.goodRun := 0 }
    else if s1.camera.goodRun + 1 < 2 then { s1 with camera.goodRun := s1.camera.goodRun + 1 }
    else { s1 with camera.goodRun := 2, camera.erroredRun := 0, camera.freshLock := true }.toAlign .locked
  | .search => s
  | .noSignal => s

/-- Take a FRAME_END with a frame open (R70). -/
def State.takeFrameEnd (s : State) (f0 : OpenFrame) (number : Byte) (count : Nat) : State :=
  let s1 := { s with camera := Camera.concealLines (760 - f0.expected) s.cameraArea f0.expected s.camera }
  match s1.camera.frame with
  | none => s1
  | some f =>
    if f.usable number count then s1.closeUsable f (f.good number count)
    else (s1.closeErrored f.number).countErrored

/-- Take a packet in SEARCH, VERIFY or LOCKED (R67 to R70). -/
def State.takeAligned (s : State) : CameraPacket → State
  | .frameStart number => s.takeFrameStart number
  | .line n rest =>
    match s.camera.frame with
    | none => s
    | some f => { s with camera := s.camera.takeLine s.cameraArea f n rest }
  | .frameEnd number count =>
    match s.camera.frame with
    | none => s
    | some f => s.takeFrameEnd f number count
  | .other => s

/-- The signal timer's new deadline: 20 ms (R65). -/
def State.startSignalTimer (s : State) : State := { s with camera.timer := some (later s.time 20000) }

/-- A packet is heard (R65, R67): it ends NO_SIGNAL, with no direction candidate on entering SEARCH (R86), and it restarts the
signal timer. -/
def State.hearPacket (s : State) : State :=
  (if s.camera.align = .noSignal then { s with camera.candidate := none }.toAlign .search else s).startSignalTimer

/-- Take a packet that waited: in NO_SIGNAL the receiver first moves to SEARCH again (R67, log 25). -/
def State.takePacket (s : State) (p : CameraPacket) : State :=
  if s.camera.align = .noSignal then s.hearPacket.takeAligned p else s.takeAligned p

/-- A frame start waits while the capture of the last usable frame is not complete (R79). -/
def CameraPacket.isStart : CameraPacket → Bool
  | .frameStart _ => true
  | .line _ _ => false
  | .frameEnd _ _ => false
  | .other => false

/-- Take the packets that waited for a capture to complete, until one must wait again (R79, log 25). -/
def State.takeDeferred : List CameraPacket → State → State
  | [], s => s
  | p :: rest, s =>
    if s.camera.completing.isSome ∧ p.isStart = true then { s with camera.deferred := p :: rest }
    else State.takeDeferred rest (s.takePacket p)

/-- A packet arrives (R65, R67, R79): it is heard at once, and is taken or waits. Before the receiver starts, and in SERVICE,
packets are not received. -/
def State.packetArrives (s : State) (p : CameraPacket) : State :=
  if s.camera.running = false then s
  else
    let s1 := s.hearPacket
    if s1.camera.deferred ≠ [] ∨ (s1.camera.completing.isSome ∧ p.isStart = true) then
      { s1 with camera.deferred := s1.camera.deferred ++ [p] }
    else s1.takeAligned p

/-- The capture of the last usable frame completes (R79, R83): its buffer becomes newest and level control runs. -/
def Camera.complete (c : Camera) (now : Time) (lumaSum : Nat) : Camera :=
  { c with newest := c.writing.map fun k => (k, now), writing := none, completing := none }.level lumaSum

/-- FRAME_START. -/
def execFrameStart (frame : Byte) (s : State) : Host.Outcome State Fault Refusal :=
  .next (s.packetArrives (.frameStart frame))

/-- LINE: the line number and the bytes after it. -/
def execLine (number : BitVec 16) (rest : List Byte) (s : State) : Host.Outcome State Fault Refusal :=
  .next (s.packetArrives (.line number.toNat rest))

/-- FRAME_END. -/
def execFrameEnd (frame : Byte) (count : BitVec 16) (s : State) : Host.Outcome State Fault Refusal :=
  .next (s.packetArrives (.frameEnd frame count.toNat))

/-- OTHER_CAMERA_PACKET (R190). Bytes that are a packet of one of the three kinds do not arrive as this command (log 34). -/
def execOtherCameraPacket (bytes : List Byte) (s : State) : Host.Outcome State Fault Refusal :=
  if isOtherPacket bytes then .next (s.packetArrives .other) else .fault .cannotArrive

/-- SIGNAL_TIMER_EXPIRY (R67, R71, R79): no effect unless 20 ms have passed without a packet (log 1). -/
def execSignalTimerExpiry (s : State) : Host.Outcome State Fault Refusal :=
  if s.camera.running = true ∧ s.camera.align ≠ .noSignal ∧ dueNow s.time s.camera.timer = true then
    let s1 := match s.camera.frame with
      | none => s
      | some f => s.closeErrored f.number
    .next ({ s1 with camera := { s1.camera.forget with timer := none } }.toAlign .noSignal)
  else .next s

/-- CAPTURE_COMPLETE (R79, R83): no effect unless a usable frame has closed in LOCKED and all its writes have been granted
(log 1). -/
def execCaptureComplete (s : State) : Host.Outcome State Fault Refusal :=
  match s.camera.completing with
  | none => .next s
  | some lumaSum =>
    if s.camera.queue = [] then
      let waiting := s.camera.deferred
      .next (State.takeDeferred waiting
        { s with camera := { s.camera.complete s.time lumaSum with deferred := [] } })
    else .next s

end Sys2Proof.Machine
end

