-- ==== Sys2Proof/Machine/Regions.lean ====
section
/-! DEFINITION. The region table (chapter 1, R6 to R13): look-up, hold counts, attachments, the address check. -/

namespace Sys2Proof.Machine

/-- Address `a` lies in the region. -/
def Region.covers (r : Region) (a : Nat) : Bool := decide (r.base ≤ a ∧ a < r.base + r.size)

/-- Two ranges overlap. -/
def rangesMeet (base1 size1 base2 size2 : Nat) : Bool := decide (base1 < base2 + size2 ∧ base2 < base1 + size1)

/-- The entry with an id. -/
def findRegion (t : List Region) (ident : Nat) : Option Region := t.find? fun r => r.ident == ident

/-- The entry that covers an address. -/
def regionAt (t : List Region) (a : Nat) : Option Region := t.find? fun r => r.covers a

/-- What the write guard decides (R7). -/
inductive GuardDecision where
  | pass
  | drop (ident : Nat)
  deriving DecidableEq, Repr

/-- The write guard's decision for a write at an address (R7). -/
def guardDecision (t : List Region) (a : Nat) : GuardDecision :=
  match regionAt t a with
  | none => .pass
  | some r =>
    match r.kind with
    | .locked => .drop r.ident
    | .status => .drop r.ident
    | .control => .pass
    | .requestRing => .pass
    | .frame => if r.hold = 0 then .pass else .drop r.ident
    | .audioRing => .pass

/-- Base and size are multiples of 4 KiB and the size lies in 4 KiB to 256 MiB (R6, R9 order 1). -/
def regionShapeOk (base size : Nat) : Bool :=
  decide (base % 4096 = 0 ∧ size % 4096 = 0 ∧ 4096 ≤ size ∧ size ≤ Config.maxRegionSize)

/-- The lowest id that no entry holds (R9); 64 when every id is held. -/
def lowestFreeId (t : List Region) : Nat :=
  ((List.range 64).find? fun i => (findRegion t i).isNone).getD 64

/-- The address check of R13: the range leaves DRAM, or touches a LOCKED or STATUS region. -/
def rangeBad (t : List Region) (addr len : Nat) : Bool :=
  decide (Config.dramSize < addr + len) ||
    t.any fun r => (r.kind == .locked || r.kind == .status) && rangesMeet addr len r.base r.size

/-- Change the entry with an id. -/
def updateRegion (t : List Region) (ident : Nat) (f : Region → Region) : List Region :=
  t.map fun r => if r.ident = ident then f r else r

/-- A frame that names the region joins a presentation queue (R11). -/
def holdUp (t : List Region) (ident : Nat) : List Region := updateRegion t ident fun r => { r with hold := r.hold + 1 }

/-- A frame that names the region is released (R11). -/
def holdDown (t : List Region) (ident : Nat) : List Region := updateRegion t ident fun r => { r with hold := r.hold - 1 }

/-- Attach a stream to a region (R12). -/
def attachRegion (t : List Region) (ident : Nat) (d : Display) : List Region :=
  updateRegion t ident fun r => { r with stream := some d }

/-- A stream's region is attached no longer (R12). -/
def detachRegion (t : List Region) (ident : Nat) : List Region := updateRegion t ident fun r => { r with stream := none }

/-- The region table after a system restart (R19): DYNAMIC entries removed, hold counts 0, attachments absent. -/
def restartRegions (t : List Region) : List Region :=
  (t.filter fun r => r.origin == .layout).map fun r => { r with hold := 0, stream := none }

/-- The four default regions of SERVICE (R60). -/
def serviceRegions : List Region :=
  [{ ident := 0, base := 0x0000, size := 4096, kind := .control, origin := .layout, hold := 0, stream := none },
   { ident := 1, base := 0x1000, size := 4096, kind := .status, origin := .layout, hold := 0, stream := none },
   { ident := 2, base := 0x2000, size := 4096, kind := .status, origin := .layout, hold := 0, stream := none },
   { ident := 3, base := 0x4000, size := 8192, kind := .requestRing, origin := .layout, hold := 0, stream := none }]

/-- The roles in SERVICE (R60). -/
def serviceRoles : Roles :=
  { requestRing := 0x4000, reportRing := 0x2000, controlPage := 0x0000, statusBlock := 0x1000, cameraArea := none }

end Sys2Proof.Machine
end

