-- ==== Sys2Proof/Machine/Store.lean ====
section
/-! DEFINITION. The store controller (chapter 3): placing and starting operations, stagings, suspension, completion. -/

namespace Sys2Proof.Machine

/-! ### Staging (R47 to R49) -/

/-- The target block of the program or erase in progress, if there is one, suspended or not (R47). -/
def StoreOp.target (op : StoreOp) : Option Nat :=
  match op.request.work with
  | .read _ _ _ => none
  | .program offset _ _ => some (blockOf offset)
  | .erase block => some block
  | .lock => none

/-- The clip is unstageable: a block of it is INCOMPLETE or the target of the operation in progress (R47). -/
def Store.unstageable (st : Store) (offset length : Nat) : Bool :=
  (blocksOf offset length).any fun b => st.status b == .incomplete || (st.op.bind StoreOp.target) == some b

/-- Microseconds a staging of `length` bytes takes (R48). -/
def stagingTime (length : Nat) : Nat := 40 + 4 * ((length + 255) / 256)

/-- Suspension may be asked for now: the operation has not been resumed, or has run 2 ms since its last resume (R49). All part
time since the resume is taken as run, also while a program still awaits its source (DESIGN CHOICE, log 42). -/
def StoreOp.mayAsk (op : StoreOp) (now : Time) : Bool :=
  match op.lastResume with
  | none => true
  | some t => decide (2000 ≤ elapsed now t)

/-- Accept a staging (R47, R48): it runs at once in IDLE, waits for a read, and has suspension asked for at once where the
program or erase in progress allows it (R49). -/
def State.acceptStaging (s : State) (clip offset length : Nat) : State :=
  let waiting : Staging := { clip := clip, offset := offset, length := length, phase := .waiting }
  match s.store.state with
  | .idle => { s with store.staging := some { waiting with phase := .running s.time }, store.state := .reading }
  | .reading => { s with store.staging := some waiting }
  | .programming | .erasing =>
    match s.store.op with
    | some op =>
      if op.mayAsk s.time then { s with store.staging := some { waiting with phase := .asked s.time } }
      else { s with store.staging := some waiting }
    | none => { s with store.staging := some waiting }
  | .suspendedProgram | .suspendedErase => { s with store.staging := some waiting }

/-! ### Starting an operation (R39) -/

/-- The content of the staging buffer becomes empty when a program or erase starts on a block of the clip it holds (R179). -/
def State.invalidateStaged (s : State) (block : Nat) : State :=
  match s.audio.buffer.content with
  | none => s
  | some c =>
    match s.audio.clips[c]? with
    | none => s
    | some clip =>
      if (blocksOf clip.offset clip.length).contains block then { s with audio.buffer.content := none } else s

/-- The destination bytes of a STORE_READ: a byte inside an INCOMPLETE block is 0 (R44). -/
def Store.readOut (st : Store) (offset length : Nat) : List Byte :=
  (List.range length).map fun i => if st.status (blockOf (offset + i)) = .incomplete then 0 else st.byte (offset + i)

/-- The operation just begun, its running time counting from `now` or, for a program, from the arrival of its source. -/
def StoreOp.begin (r : StoreRequest) (counting : Option Time) : StoreOp :=
  { request := r, source := [], counting := counting, ran := 0, lastResume := none }

/-- Record a completed store operation, write the completion fields into the status block at once, and post its DONE (R46).
The fields lie on both sides of a 64-byte boundary, so their write is two accesses (1.4), which R46 and R188 do not order:
kind and code at 0x07E come before the tag at 0x080 (DESIGN CHOICE, log 43). -/
def State.completeStore (s : State) (r : StoreRequest) (code : Code) : State :=
  let s1 := { s with
    store.lastTag := r.tag, store.lastKind := storeWorkKind r.work, store.lastCode := code, store.op := none }
  ((s1.statusNow 0x07E (bytesOf 1 (storeWorkKind r.work) ++ bytesOf 1 (codeNumber code))).statusNow 0x080
    (bytesOf 2 r.tag)).post (.done r.tag code 0)

/-- Start a store request (R39, R42 to R45). A program's source is read in ascending address order, in the fewest accesses
(DESIGN CHOICE, log 43); of a read's destination writes R44 gives the order, and only their cut is the model's. All of a read's
writes, and all of a program's reads, are presented to the arbiter at the start (R44, R42; DESIGN CHOICE, log 57). A lock request
whose lock is already set completes at once (R45): the answer then says so with `true`. -/
def State.startStore (s : State) (r : StoreRequest) : State × Bool :=
  match r.work with
  | .read offset length dest =>
    let out := blockWrites dest (s.store.readOut offset length)
    ({ s with
        store.state := .reading, store.op := some (.begin r none)
        store.transfers := s.store.transfers ++ out.map fun (p : Nat × List Byte) => Transfer.write p.1 p.2 }, false)
  | .program offset length source =>
    let reads := blockPieces length source length
    let s1 := { s with
      store.state := .programming, store.op := some (.begin r none)
      store.transfers := s.store.transfers ++ reads.map fun (p : Nat × Nat) => Transfer.source p.1 p.2 }
    ({ s1 with store := s1.store.setStatus (blockOf offset) .incomplete }.invalidateStaged (blockOf offset), false)
  | .erase block =>
    let s1 := { s with store.state := .erasing, store.op := some (.begin r (some s.time)) }
    ({ s1 with store := s1.store.setStatus block .incomplete }.invalidateStaged block, false)
  | .lock =>
    if s.store.lockCopy then (s.completeStore r .ok, true)
    else ({ s with store.state := .programming, store.op := some (.begin r (some s.time)) }, false)

/-- Start the oldest queued request, and the next where it completes at once; with none left the store is IDLE (R39). -/
def State.startQueued : List StoreRequest → State → State
  | [], s => { s with store.queue := [], store.state := .idle }
  | r :: rest, s =>
    match { s with store.queue := rest }.startStore r with
    | (s1, true) => State.startQueued rest s1
    | (s1, false) => s1

/-- What follows a completion (R39, R48, R50): a waiting staging starts first, else the queue continues. -/
def State.continueStore (s : State) : State :=
  match s.store.staging with
  | some g => { s with store.staging := some { g with phase := .running s.time }, store.state := .reading }
  | none => State.startQueued s.store.queue s

/-- Place a store request that has passed its checks (R40): at once where the store is IDLE and no staging waits, else at the
tail of the queue. A request that completes at once leaves the store IDLE. -/
def State.placeStore (s : State) (r : StoreRequest) : State :=
  if s.store.state = .idle ∧ s.store.staging = none then State.startQueued (r :: s.store.queue) s
  else { s with store.queue := s.store.queue ++ [r] }

/-- Finish an operation: completion fields and DONE, then whatever comes next. -/
def State.finishStore (s : State) (r : StoreRequest) (code : Code) : State := (s.completeStore r code).continueStore

/-! ### Running time (R42, R43, R45, R49) -/

/-- Running time of the operation in progress at part time `now`. -/
def StoreOp.runningTime (op : StoreOp) (now : Time) : Nat :=
  match op.counting with
  | none => op.ran
  | some t => op.ran + elapsed now t

/-- Source bytes of a program that have not arrived yet. -/
def StoreOp.awaits (op : StoreOp) : Nat :=
  match op.request.work with
  | .program _ length _ => length - op.source.length
  | _ => 0

/-- The running time of a program starts when its last source byte has arrived (R42); while it is suspended it does not
count (R49). -/
def Store.takeSource (st : Store) (bytes : List Byte) (now : Time) : Store :=
  match st.op with
  | none => st
  | some op =>
    let op1 := { op with source := op.source ++ bytes }
    if op1.awaits = 0 ∧ st.state = .programming then { st with op := some { op1 with counting := some now } }
    else { st with op := some op1 }

/-- The operation in progress is suspended (R49). -/
def Store.suspended (st : Store) : Bool := st.state == .suspendedProgram || st.state == .suspendedErase

/-- The operation stops where it is (R49): its running time stops counting, the staging runs. -/
def Store.suspend (st : Store) (op : StoreOp) (g : Staging) (now : Time) : Store :=
  { st with
    op := some { op with ran := op.runningTime now, counting := none }
    staging := some { g with phase := .running now }
    state := if st.state = .erasing then .suspendedErase else .suspendedProgram }

/-- The suspended operation resumes (R49): its running time counts again, where it had begun, and the time is recorded. -/
def Store.resume (st : Store) (op : StoreOp) (now : Time) : Store :=
  { st with
    op := some { op with counting := if op.awaits = 0 then some now else none, lastResume := some now }
    staging := none
    state := if st.state = .suspendedErase then .erasing else .programming }

/-! ### The store requests (R41, R43 to R45) -/

/-- A lock request is in progress or waits (R41, R43). -/
def Store.lockComing (st : Store) : Bool :=
  (match st.op with
    | some op => op.request.work == .lock
    | none => false) || st.queue.any fun r => r.work == .lock

/-- Block 0 is locked, or will be (R41, R43). -/
def Store.locked (st : Store) : Bool := st.lockCopy || st.lockComing

/-- Four requests wait in the queue (R40). -/
def Store.full (st : Store) : Bool := decide (4 ≤ st.queue.length)

/-- The checks of STORE_PROGRAM (R41). -/
def checkProgram (s : State) (rec : List Byte) : Option Code :=
  let offset := fieldAt rec 8 4
  let length := fieldAt rec 12 4
  if offset % 256 ≠ 0 ∨ 0x1FFF00 < offset ∨ length = 0 ∨ 256 < length ∨
      reservedClear rec [8, 9, 10, 11, 12, 13, 14, 15, 16, 17, 18, 19] = false then some .badField
  else if rangeBad s.regions (fieldAt rec 16 4) length then some .badAddress
  else if blockOf offset = 0 ∧ s.store.locked = true then some .storeLocked
  else if s.store.full then some .storeBusy
  else none

/-- The checks of STORE_ERASE (R43). -/
def checkErase (s : State) (rec : List Byte) : Option Code :=
  if 31 < byteAt rec 6 ∨ reservedClear rec [6] = false then some .badField
  else if byteAt rec 6 = 0 ∧ s.store.locked = true then some .storeLocked
  else if s.store.full then some .storeBusy
  else none

/-- The checks of STORE_READ (R44). -/
def checkRead (s : State) (rec : List Byte) : Option Code :=
  let offset := fieldAt rec 8 4
  let length := fieldAt rec 12 4
  if length = 0 ∨ 4096 < length ∨ Config.storeSize < offset + length ∨
      reservedClear rec [8, 9, 10, 11, 12, 13, 14, 15, 16, 17, 18, 19] = false then some .badField
  else if rangeBad s.regions (fieldAt rec 16 4) length then some .badAddress
  else if s.store.full then some .storeBusy
  else none

/-- The checks of STORE_LOCK_CALIBRATION (R45). -/
def checkLock (s : State) (rec : List Byte) : Option Code :=
  if reservedClear rec [] = false then some .badField
  else if s.store.full then some .storeBusy
  else none

/-! ### Completions -/

/-- The result of a page program (R42): each byte the AND of the old content and the source, and whether every byte equals
its source byte. -/
def Store.programResult (st : Store) (offset : Nat) (source : List Byte) : List Byte × Bool :=
  let old := st.bytes offset source.length
  let now := List.zipWith (fun a b => a &&& b) old source
  (now, now == source)

/-- A page program ends (R42, R46). STORE_FAIL is raised before the completion fields are written (DESIGN CHOICE, log 45). -/
def State.endProgram (s : State) (op : StoreOp) (offset : Nat) : State :=
  let result := s.store.programResult offset op.source
  let block := blockOf offset
  let s1 := { s with store := (s.store.setBytes offset result.1).setStatus block .written }
  if result.2 then s1.finishStore op.request .ok
  else (s1.raise .storeFail block).finishStore op.request .verifyFail

/-- An erase ends (R43, R46). -/
def State.endErase (s : State) (op : StoreOp) (block : Nat) : State :=
  { s with store := (s.store.wipeBlock block none).setStatus block .erased }.finishStore op.request .ok

/-- The first INCOMPLETE block that a read's range lies in (R44). -/
def Store.firstIncomplete (st : Store) (offset length : Nat) : Option Nat :=
  (blocksOf offset length).find? fun b => st.status b == .incomplete

/-- A read ends (R44, R46). STORE_FAIL is raised before the completion fields are written (DESIGN CHOICE, log 45). -/
def State.endRead (s : State) (op : StoreOp) (offset length : Nat) : State :=
  match s.store.firstIncomplete offset length with
  | none => s.finishStore op.request .ok
  | some b => (s.raise .storeFail b).finishStore op.request .blockIncomplete

/-- The lock mark's write ends (R45, R46). -/
def State.endLock (s : State) (op : StoreOp) : State :=
  { s with store.lockMark := true, store.lockCopy := true }.finishStore op.request .ok

/-- STORE_PROGRAM_COMPLETE (R42): the page program in progress has its source and 600 µs of running time. -/
def execStoreProgramComplete (s : State) : Host.Outcome State Fault Refusal :=
  match s.store.op with
  | none => .next s
  | some op =>
    match op.request.work with
    | .program offset _ _ =>
      if s.store.state = .programming ∧ op.awaits = 0 ∧ 600 ≤ op.runningTime s.time then .next (s.endProgram op offset)
      else .next s
    | .read _ _ _ | .erase _ | .lock => .next s

/-- STORE_ERASE_COMPLETE (R43): the erase in progress has 120 ms of running time. -/
def execStoreEraseComplete (s : State) : Host.Outcome State Fault Refusal :=
  match s.store.op with
  | none => .next s
  | some op =>
    match op.request.work with
    | .erase block =>
      if s.store.state = .erasing ∧ 120000 ≤ op.runningTime s.time then .next (s.endErase op block) else .next s
    | .read _ _ _ | .program _ _ _ | .lock => .next s

/-- STORE_READ_COMPLETE (R44): the last destination write of the read in progress has been granted. -/
def execStoreReadComplete (s : State) : Host.Outcome State Fault Refusal :=
  match s.store.op with
  | none => .next s
  | some op =>
    match op.request.work with
    | .read offset length _ =>
      if s.store.state = .reading ∧ s.store.transfers = [] then .next (s.endRead op offset length) else .next s
    | .program _ _ _ | .erase _ | .lock => .next s

/-- LOCK_WRITE_COMPLETE (R45): the lock mark's write has 600 µs of running time. -/
def execLockWriteComplete (s : State) : Host.Outcome State Fault Refusal :=
  match s.store.op with
  | none => .next s
  | some op =>
    match op.request.work with
    | .lock =>
      if s.store.state = .programming ∧ 600 ≤ op.runningTime s.time then .next (s.endLock op) else .next s
    | .read _ _ _ | .program _ _ _ | .erase _ => .next s

/-- The store runs a program, lock write or erase that a staging could suspend (R49). -/
def Store.suspendable (st : Store) : Bool := st.state == .programming || st.state == .erasing

/-- SUSPENSION_ASK (R49): a staging waits and the operation has run 2 ms since its last resume. -/
def execSuspensionAsk (s : State) : Host.Outcome State Fault Refusal :=
  match s.store.op, s.store.staging with
  | some op, some g =>
    if s.store.suspendable = true ∧ g.phase = .waiting ∧ op.mayAsk s.time = true then
      .next { s with store.staging := some { g with phase := .asked s.time } }
    else .next s
  | _, _ => .next s

/-- SUSPENSION_TAKES_EFFECT (R49): suspension has been asked for; the moment is the command's own. -/
def execSuspensionTakesEffect (s : State) : Host.Outcome State Fault Refusal :=
  match s.store.op, s.store.staging with
  | some op, some g =>
    match g.phase with
    | .asked _ =>
      if s.store.suspendable then .next { s with store := s.store.suspend op g s.time } else .next s
    | .waiting | .running _ => .next s
  | _, _ => .next s

end Sys2Proof.Machine
end

