-- ==== Sys2Proof/Machine/Chimes.lean ====
section
/-! DEFINITION. Chime queues, players, the staging buffer and the resident cache (chapter 10, 10.2 to 10.4). -/

namespace Sys2Proof.Machine

/-- The chime in a player, STARTING or PLAYING. -/
def Player.chime : Player → Option Chime
  | .idle => none
  | .starting c => some c
  | .playing c _ _ => some c

/-- The player is PLAYING (R183: a STARTING chime does not duck). -/
def Player.isPlaying : Player → Bool
  | .playing _ _ _ => true
  | .idle | .starting _ => false

/-- A PARK_BEEP: the part's own chime of clip 1 (R171). -/
def Chime.isParkBeep (c : Chime) : Bool := c.owner == .part && c.clip == 1

/-- A REVERSE_TONE: the part's own chime of clip 0 (R171). -/
def Chime.isReverseTone (c : Chime) : Bool := c.owner == .part && c.clip == 0

/-- The buffer is given up by a pair's chime: it is no longer user and no longer waits; the content is kept (R179). -/
def StagingBuffer.release (b : StagingBuffer) (d : Display) : StagingBuffer :=
  { b with user := if b.user = some d then none else b.user, waiters := b.waiters.filter fun w => w ≠ d }

/-- The chime in a pair's player leaves it: the player is IDLE, the buffer is given up (R176, R177, R181). -/
def State.leavePlayer (s : State) (d : Display) : State :=
  let s1 := s.updateChimes d fun p => { p with player := .idle }
  { s1 with audio.buffer := s1.audio.buffer.release d }

/-- Put a chime into a pair's player. -/
def State.setPlayer (s : State) (d : Display) (p : Player) : State := s.updateChimes d fun pc => { pc with player := p }

/-- No chime uses the buffer and no staging is unanswered (R179). -/
def StagingBuffer.free (b : StagingBuffer) : Bool := b.user.isNone && b.asked.isNone

/-- Samples of the substitute tone for an own chime whose clip is absent from the table (R171). -/
def absentToneSamples (c : Chime) : Nat := if c.clip = 0 then 24000 else 12000

/-- The store has answered "unstageable" (R180): the own chime plays the substitute tone, the SYSTEM chime is discarded. -/
def State.unstageableAnswer (s : State) (d : Display) (c : Chime) (clip : Clip) : State :=
  let s1 := s.raise .chimeUnavailable c.clip
  match c.owner with
  | .part => s1.setPlayer d (.playing c (.tone (clip.length / 2) clip.gain) 0)
  | .system => s1.setPlayer d .idle

/-- A STARTING chime takes the free staging buffer (R179): it plays the clip held, or asks the store for its own (R47). -/
def State.claimBuffer (s : State) (d : Display) (c : Chime) (clip : Clip) : State :=
  if s.audio.buffer.content = some c.clip then
    { s with audio.buffer.user := some d }.setPlayer d (.playing c .staging 0)
  else if s.store.unstageable clip.offset clip.length then s.unstageableAnswer d c clip
  else
    ({ s with audio.buffer.user := some d, audio.buffer.asked := some c.clip }.setPlayer d (.starting c)).acceptStaging
      c.clip clip.offset clip.length

/-- A chime that has entered the player is started by the source of its clip (R178): the cache, the substitute tone where
the table has no such clip (R171), or the staging buffer, for which it waits where the buffer is in use (R179). -/
def State.startChime (s : State) (d : Display) (c : Chime) : State :=
  match s.audio.clips[c.clip]? with
  | none => (s.raise .chimeUnavailable c.clip).setPlayer d (.playing c (.tone (absentToneSamples c) 64) 0)
  | some clip =>
    if clip.resident then s.setPlayer d (.playing c .cache 0)
    else if s.audio.buffer.free then s.claimBuffer d c clip
    else { s.setPlayer d (.starting c) with audio.buffer.waiters := s.audio.buffer.waiters ++ [d] }

/-- The first chime on the wait list leaves it and takes the buffer (R179). -/
def State.serveWaiter (s : State) (d : Display) (rest : List Display) : State :=
  let s1 := { s with audio.buffer.waiters := rest }
  match (s.audio.chimes.get d).player with
  | .starting c =>
    match s.audio.clips[c.clip]? with
    | some clip => s1.claimBuffer d c clip
    | none => s1
  | .idle | .playing _ _ _ => s1

/-- The head of a pair's queue leaves it and enters the player (R173). -/
def State.enterHead (s : State) (d : Display) (c : Chime) (rest : List Chime) : State :=
  (s.updateChimes d fun p => { p with queue := rest }).startChime d c

/-- A pair whose player is IDLE with an entry pending. Of several at one event the lowest-numbered starts its head first (DESIGN
CHOICE, log 49). -/
def Audio.idlePair (a : Audio) : Option Display :=
  allDisplays.find? fun d => (a.chimes.get d).player == .idle && !(a.chimes.get d).queue.isEmpty

/-- Let the free buffer go to the first waiter, and each IDLE player take its head, until neither can happen (R173, R179,
R180). A waiter comes before a new head (log 13). The number bounds the rounds. -/
def State.settleChimes : Nat → State → State
  | 0, s => s
  | n + 1, s =>
    if s.audio.buffer.free = true ∧ s.audio.buffer.waiters ≠ [] then
      match s.audio.buffer.waiters with
      | [] => s
      | d :: rest => State.settleChimes n (s.serveWaiter d rest)
    else
      match s.audio.idlePair with
      | none => s
      | some d =>
        match (s.audio.chimes.get d).queue with
        | [] => s
        | c :: rest => State.settleChimes n (s.enterHead d c rest)

/-- Rounds that always suffice: three queues of four entries, each of which may wait once, and three waiters. -/
def settleRounds : Nat := 32

/-- Let every player and the buffer move on (R173, R179). -/
def State.settle (s : State) : State := State.settleChimes settleRounds s

/-- Place a chime in descending priority, behind those of its own priority (R175). -/
def insertChime (c : Chime) : List Chime → List Chime
  | [] => [c]
  | q :: rest => if q.priority < c.priority then c :: q :: rest else q :: insertChime c rest

/-- The lowest priority pending. -/
def lowestPriority (q : List Chime) : Nat := q.foldl (fun m c => min m c.priority) 7

/-- The queue takes an entry, or refuses it (R175): a full queue gives up the oldest entry of its lowest priority to a
newcomer above it. -/
def PairChimes.take (p : PairChimes) (clip priority : Nat) (owner : ChimeOwner) : Option PairChimes :=
  let c : Chime := { clip := clip, priority := priority, owner := owner, arrival := p.arrivals }
  if p.queue.length < 4 then some { p with queue := insertChime c p.queue, arrivals := p.arrivals + 1 }
  else if lowestPriority p.queue < priority then
    some { p with
      queue := insertChime c (p.queue.eraseP fun q => q.priority == lowestPriority p.queue), arrivals := p.arrivals + 1 }
  else none

/-- What became of an offered chime: the state, whether the queue took it, and whether a PARK_BEEP on FRONT was preempted. -/
structure Offer where
  state : State
  taken : Bool
  beepStopped : Bool

/-- Offer a chime to a pair (R175, R176): it preempts the chime in the player where it ranks above it, is placed, and the
players and the buffer move on. -/
def State.offerChime (s : State) (d : Display) (clip priority : Nat) (owner : ChimeOwner) : Offer :=
  let inPlayer := (s.audio.chimes.get d).player.chime
  let preempts := match inPlayer with
    | none => false
    | some c => decide (c.priority < priority)
  let stopped := preempts && d == .front && (match inPlayer with
    | none => false
    | some c => c.isParkBeep)
  let s1 := if preempts then s.leavePlayer d else s
  match (s1.audio.chimes.get d).take clip priority owner with
  | none => { state := s1.settle, taken := false, beepStopped := stopped }
  | some p => { state := (s1.updateChimes d fun _ => p).settle, taken := true, beepStopped := stopped }

/-- Take out a pair's SYSTEM chimes, pending and in the player (R177, R185). -/
def State.dropSystemChimes (s : State) (d : Display) : State :=
  let s1 := s.updateChimes d fun p => { p with queue := p.queue.filter fun c => c.owner == .part }
  match (s.audio.chimes.get d).player.chime with
  | none => s1
  | some c => if c.owner = .system then s1.leavePlayer d else s1

/-! ### Samples (R181) -/

/-- Sample times a playing chime lasts. -/
def chimeSamples (clips : List Clip) (c : Chime) : ChimeSource → Nat
  | .tone samples _ => samples
  | .cache | .staging => (clips[c.clip]?.map fun k => k.length / 2).getD 0

/-- Sample `j` of a clip's bytes, signed 16-bit little-endian. -/
def clipSample (bytes : List Byte) (j : Nat) : Int := signedOf 16 (fieldAt bytes (2 * j) 2)

/-- The substitute tone: a 1 kHz square wave of amplitude 8192 (R172). -/
def toneSample (k : Nat) : Int := if k % 48 < 24 then 8192 else -8192

/-- A clip's bytes in the resident cache. -/
def cachedBytes (cache : List (Nat × List Byte)) (clip : Nat) : List Byte :=
  ((cache.find? fun e => e.1 == clip).map Prod.snd).getD []

/-- The sample of a pair's player at this sample time; 0 where it is IDLE or STARTING, or past its last sample (R181, R182). -/
def Audio.chimeSample (a : Audio) : Player → Int
  | .idle => 0
  | .starting _ => 0
  | .playing c src pos =>
    if chimeSamples a.clips c src ≤ pos then 0
    else match src with
      | .cache => clipSample (cachedBytes a.cache c.clip) pos
      | .staging => clipSample a.buffer.bytes pos
      | .tone _ _ => toneSample pos

/-- g_chime of the playing clip, or of the substitute (R171, R182). -/
def Audio.chimeGain (a : Audio) : Player → Nat
  | .idle => 0
  | .starting _ => 0
  | .playing c src _ =>
    match src with
    | .cache | .staging => (a.clips[c.clip]?.map Clip.gain).getD 0
    | .tone _ gain => gain

/-- The player after this sample time: the position has moved on, up to the last sample (R181). -/
def Audio.advancePlayer (a : Audio) : Player → Player
  | .idle => .idle
  | .starting c => .starting c
  | .playing c src pos => .playing c src (if chimeSamples a.clips c src ≤ pos then pos else pos + 1)

/-! ### The end of a staging (R48, R49, R179) -/

/-- "staged": the content is the clip read from the store, no staging is asked, and the chime that asked plays if it is
still the user (R179). -/
def State.stagedAnswer (s : State) (g : Staging) : State :=
  let s1 := { s with
    audio.buffer.content := some g.clip, audio.buffer.bytes := s.store.bytes g.offset g.length
    audio.buffer.asked := none }
  match s.audio.buffer.user with
  | none => s1
  | some d =>
    match (s.audio.chimes.get d).player with
    | .starting c => s1.setPlayer d (.playing c .staging 0)
    | .idle | .playing _ _ _ => s1

/-- The store goes on after a staging: a suspended operation resumes, else the queue continues (R48, R49). -/
def State.afterStaging (s : State) : State :=
  match s.store.state, s.store.op with
  | .suspendedProgram, some op => { s with store := s.store.resume op s.time }
  | .suspendedErase, some op => { s with store := s.store.resume op s.time }
  | _, _ => State.startQueued s.store.queue { s with store.staging := none }

/-- STAGING_COMPLETE (R48): the staging has run its time. Staged is answered, the store goes on, and then a waiting chime may
take the buffer (log 14). -/
def execStagingComplete (s : State) : Host.Outcome State Fault Refusal :=
  match s.store.staging with
  | none => .next s
  | some g =>
    match g.phase with
    | .running since =>
      if stagingTime g.length ≤ elapsed s.time since then .next ((s.stagedAnswer g).afterStaging).settle else .next s
    | .waiting | .asked _ => .next s

end Sys2Proof.Machine
end

