-- ==== Sys2Proof/Machine/Streams.lean ====
section
/-! DEFINITION. Media streams, ramps and the mixer (chapter 10, 10.1 and 10.5). -/

namespace Sys2Proof.Machine

/-- Frames pending: from the consumer index up to the producer copy, round the ring (R168). -/
def Stream.pendingFrames (st : Stream) : Nat :=
  match st.ring with
  | none => 0
  | some r => (st.producer + r.size - st.consumer) % r.size

/-- Frames of a stream's fetches in flight that will still enter its buffer. Those to be discarded on arrival are not among
them, so they do not count toward the 48 of R169, which says only 'counting fetches in flight' (DESIGN CHOICE, log 53). -/
def inFlightFrames (q : List AudioFetch) (d : Display) : Nat :=
  q.foldl (fun n f => if f.stream = d then n + f.keep else n) 0

/-- Frames fetched ahead, those in flight counted (R169). -/
def Audio.fetchedFrames (a : Audio) (d : Display) : Nat :=
  (a.streams.get d).buffer.length + inFlightFrames a.fetchQueue d

/-- A further fetch is wanted: 48 frames or fewer, and pending frames beyond them (R169). -/
def Audio.wantsFetch (a : Audio) (d : Display) : Bool :=
  (a.streams.get d).running && decide (a.fetchedFrames d ≤ 48 ∧ a.fetchedFrames d < (a.streams.get d).pendingFrames)

/-- The next fetch of a stream (R169): from the next unfetched frame to the end of its 64-byte block or to the last pending
frame, and never across the ring's end. -/
def Audio.nextFetch (a : Audio) (d : Display) (r : Ring) : AudioFetch :=
  let st := a.streams.get d
  let first := (st.consumer + a.fetchedFrames d) % r.size
  let count := min (16 - first % 16) (min (st.pendingFrames - a.fetchedFrames d) (r.size - first))
  { stream := d, addr := r.base + 4 * first, count := count, keep := count }

/-- Present a stream's fetches while it wants more. The number bounds the fetches. -/
def presentFetches : Nat → Display → Audio → Audio
  | 0, _, a => a
  | n + 1, d, a =>
    if a.wantsFetch d then
      match (a.streams.get d).ring with
      | none => a
      | some r => presentFetches n d { a with fetchQueue := a.fetchQueue ++ [a.nextFetch d r] }
    else a

/-- Keep a stream's fetch buffer filled (R169). -/
def State.refill (s : State) (d : Display) : State := { s with audio := presentFetches 64 d s.audio }

/-- Cut the frames in flight for stream `d` down to the `room` frames that still lie in the pending span (R168). Of a
fetch that holds frames inside the span and outside it only those outside are dropped (DESIGN CHOICE, log 52). -/
def trimInFlight (d : Display) : Nat → List AudioFetch → List AudioFetch
  | _, [] => []
  | room, f :: rest =>
    if f.stream = d then { f with keep := min f.keep room } :: trimInFlight d (room - min f.keep room) rest
    else f :: trimInFlight d room rest

/-- Remove the fetched frames that no longer lie in the pending span (R168). -/
def Audio.trim (a : Audio) (d : Display) : Audio :=
  let st := a.streams.get d
  let kept := st.buffer.take st.pendingFrames
  { a with
    streams := a.streams.put d { st with buffer := kept }
    fetchQueue := trimInFlight d (st.pendingFrames - kept.length) a.fetchQueue }

/-- Control page offset of a stream's producer word (R14). -/
def producerOffset (d : Display) : Nat := 0x010 + 4 * displayNumber d

/-- A producer value applies, at the grant of the write that carried it (R168). -/
def State.applyProducer (s : State) (d : Display) (v : BitVec 32) : State :=
  let st := s.audio.streams.get d
  match st.running, st.ring with
  | true, some r =>
    if r.size ≤ v.toNat then s.raise .requestInvalid (producerOffset d)
    else
      let s1 := s.updateStream d fun x => { x with producer := v.toNat }
      { s1 with audio := s1.audio.trim d }.refill d
  | _, _ => s

/-- The duck factor applies to stream 0 while the FRONT player is PLAYING (R183). -/
def Audio.targetGain (a : Audio) (d : Display) : Nat :=
  let st := a.streams.get d
  if d = .front ∧ a.chimes.front.player.isPlaying = true then st.setGain * a.duck / 64 else st.setGain

/-- Stop a running stream (R167): its region is attached no longer, the fetch buffer and the fetches in flight are
discarded, g_eff is 0. The consumer index and the held value are kept. The start delay and the stream's record of its ring, which
R167's list does not name, become absent (DESIGN CHOICE, log 54). -/
def State.stopStream (s : State) (d : Display) : State :=
  let st := s.audio.streams.get d
  if st.running then
    let s1 := match st.ring with
      | none => s
      | some r => { s with regions := detachRegion s.regions r.region }
    { s1 with
      audio.streams := s1.audio.streams.put d
        { st with running := false, ring := none, buffer := [], gEff := 0, startDelay := none }
      audio.fetchQueue := trimInFlight d 0 s1.audio.fetchQueue }
  else s

/-- Start a stream on a region (R166). -/
def State.startStream (s : State) (d : Display) (reg : Region) (gain : Nat) : State :=
  let s1 := s.stopStream d
  let size := reg.size / 4
  let held := (s1.audio.streams.get d).held
  let s2 := { s1 with regions := attachRegion s1.regions reg.ident d }
  let s3 := s2.updateStream d fun x =>
    { x with
      running := true, ring := some { region := reg.ident, base := reg.base, size := size }, consumer := 0
      producer := if held.toNat < size then held.toNat else 0, buffer := [], setGain := gain
      startDelay := some (later s.time 1000), underrun := false }
  let s4 := s3.updateStream d fun x => { x with gEff := s3.audio.targetGain d }
  let s5 := if held.toNat < size then s4 else s4.raise .requestInvalid (producerOffset d)
  s5.refill d

/-! ### The sample time (R170, R182) -/

/-- The start delay has passed (R166, R170). -/
def Stream.delayPassed (st : Stream) (now : Time) : Bool :=
  match st.startDelay with
  | none => true
  | some t => reached now t

/-- What a stream does at a sample time (R170): the stream after it, its samples, and whether an underrun run begins. -/
def Stream.sample (st : Stream) (now : Time) : Stream × Stereo × Bool :=
  let silence : Stereo := { left := 0, right := 0 }
  if st.running = true ∧ st.delayPassed now = true then
    match st.ring, st.buffer with
    | some r, frame :: rest =>
      if st.consumer = st.producer then ({ st with underrun := true }, silence, !st.underrun)
      else ({ st with buffer := rest, consumer := (st.consumer + 1) % r.size, underrun := false }, frame, false)
    | _, _ => ({ st with underrun := true }, silence, !st.underrun)
  else (st, silence, false)

/-- A stream takes its frame, or underruns (R170); its fetches follow (R169). -/
def State.sampleStream (s : State) (d : Display) : State :=
  let r := (s.audio.streams.get d).sample s.time
  let s1 := s.updateStream d fun _ => r.1
  let s2 := if r.2.2 then s1.raise .audioUnderrun (displayNumber d) else s1
  s2.refill d

/-- One mixed channel before the clamp (R182). -/
def mixSum (x : Int) (gEff : Nat) (c : Int) (gChime : Nat) : Int := rndDiv (x * gEff) 64 + rndDiv (c * gChime) 64

/-- One mixed channel (R182). -/
def mixOut (x : Int) (gEff : Nat) (c : Int) (gChime : Nat) : BitVec 16 :=
  BitVec.ofInt 16 (clampInt (-32768) 32767 (mixSum x gEff c gChime))

/-- The sum leaves the range of a sample. -/
def mixClips (x : Int) (gEff : Nat) (c : Int) (gChime : Nat) : Bool :=
  decide (mixSum x gEff c gChime < -32768 ∨ 32767 < mixSum x gEff c gChime)

/-- The two samples of a pair at a sample time and whether either was clamped (R182). -/
def Audio.mixPair (a : Audio) (d : Display) (x : Stereo) (gEff : Nat) : Stereo × Bool :=
  let p := (a.chimes.get d).player
  let c := a.chimeSample p
  let g := a.chimeGain p
  ({ left := mixOut x.left.toInt gEff c g, right := mixOut x.right.toInt gEff c g },
    mixClips x.left.toInt gEff c g || mixClips x.right.toInt gEff c g)

/-- Raise AUDIO_CLIP for a pair that clamped (R182). -/
def State.raiseClip (s : State) (d : Display) (clipped : Bool) : State :=
  if clipped then s.raise .audioClip (displayNumber d) else s

/-- The sample counter moves on; every 48th sample time is a millisecond tick (R183). It stands at 0 until the
close of the load, since no sample time counts before the audio engine runs. -/
def Audio.countSample (a : Audio) : Audio :=
  if a.sampleCount + 1 < 48 then { a with sampleCount := a.sampleCount + 1 }
  else { a with sampleCount := 0, tickDue := true }

/-- SAMPLE_TIME (R170, R181, R182): streams take frames or underrun, the six samples are mixed, playing chimes advance. Streams and
pairs go in the order FRONT, REAR_LEFT, REAR_RIGHT, every AUDIO_UNDERRUN before the first AUDIO_CLIP (DESIGN CHOICE, log 48). The
48th sample is mixed with the gains before that tick's move: the tick becomes due only after the mix (R183; DESIGN CHOICE,
log 30). -/
def State.sampleTime (s : State) : State :=
  let x := fun d => ((s.audio.streams.get d).sample s.time).2.1
  let mix := fun d => s.audio.mixPair d (x d) (s.audio.streams.get d).gEff
  let s1 := allDisplays.foldl State.sampleStream s
  let s2 := allDisplays.foldl (fun acc d => acc.updateChimes d fun p => { p with player := s.audio.advancePlayer p.player }) s1
  let s3 := allDisplays.foldl (fun acc d => acc.raiseClip d (mix d).2) s2
  { s3 with
    audio := { s3.audio with
      tdm := some { front := (mix .front).1, rearLeft := (mix .rearLeft).1, rearRight := (mix .rearRight).1 } }.countSample }

def execSampleTime (s : State) : Host.Outcome State Fault Refusal :=
  if s.audio.running then .next s.sampleTime else .next s

/-- START_DELAY_EXPIRY (R166): the stream begins to take frames. -/
def execStartDelayExpiry (d : Display) (s : State) : Host.Outcome State Fault Refusal :=
  if dueNow s.time (s.audio.streams.get d).startDelay then
    .next (s.updateStream d fun x => { x with startDelay := none })
  else .next s

/-- g_eff moves by 4 toward the target and lands on it (R183). -/
def rampStep (gEff target : Nat) : Nat :=
  if gEff < target then min (gEff + 4) target else max (gEff - 4) target

/-- A running stream's ramp at a tick (R183). -/
def Audio.rampStream (a : Audio) (d : Display) : Audio :=
  let st := a.streams.get d
  if st.running then { a with streams := a.streams.put d { st with gEff := rampStep st.gEff (a.targetGain d) } } else a

/-- MILLISECOND_TICK (R183): a tick that is due is taken once (log 30). -/
def execMillisecondTick (s : State) : Host.Outcome State Fault Refusal :=
  if s.audio.tickDue then .next { s with audio := allDisplays.foldl Audio.rampStream { s.audio with tickDue := false } }
  else .next s

/-! ### The audio requests (R166, R167) -/

/-- The checks of AUDIO_START (R166): the code that refuses it, or the pair and region it names. -/
def checkAudioStart (s : State) (rec : List Byte) : Except Code (Display × Region) :=
  match displayField (byteAt rec 6), reservedClear rec [6, 7, 8] with
  | some d, true =>
    match findRegion s.regions (byteAt rec 7) with
    | some r =>
      if r.kind ≠ .audioRing then .error .noRegion
      else if r.stream ≠ none ∧ r.stream ≠ some d then .error .regionBusy
      else .ok (d, r)
    | none => .error .noRegion
  | _, _ => .error .badField

/-- The checks of AUDIO_STOP and STOP_CHIMES (R167, R177). -/
def checkPair (rec : List Byte) (named : List Nat) : Option Display :=
  if reservedClear rec named then displayField (byteAt rec 6) else none

end Sys2Proof.Machine
end

