-- ==== Sys2Proof/Machine/Link.lean ====
section
/-! DEFINITION. The memory link (chapter 1, 1.1 and 1.3): transactions, the response list, watched words, and the request
taker's fetching (2.1). -/

namespace Sys2Proof.Machine

/-! ### The request taker's fetch (R20, R21) -/

/-- Records pending: from the consumer index up to the producer copy (2.1). -/
def Taker.pendingCount (t : Taker) : Nat := (t.producer + 256 - t.consumer) % 256

/-- Start fetching the record at the consumer index, where records are pending and no fetch is under way (R20, R21). The
fetch enters class C behind every transaction already entered. -/
def State.startFetch (s : State) : State :=
  match s.roles with
  | none => s
  | some roles =>
    if 0 < s.taker.pendingCount ∧ s.taker.fetch = .idle then
      { s with
        taker.fetch := .inFlight
        link.path := s.link.path ++ [.record (roles.requestRing + 32 * s.taker.consumer) true] }
    else s

/-- Hand the request taker a value of the request producer index (R20). A value equal to the consumer index while that slot's
fetch is in flight makes the pending count 0: R20 says that the taker then stops after the record being fetched, R22 that the
count is computed after the advance (DESIGN CHOICE, log 56: R22). -/
def State.takeRequestProducer (s : State) (v : BitVec 32) : State :=
  if 256 ≤ v.toNat then s.raise .requestInvalid 0x000
  else { s with taker.producer := v.toNat }.startFetch

/-! ### Watched words (R14, R15) -/

/-- Control page offsets of the watched words, ascending. -/
def watchedWords : List Nat := [0x000, 0x004, 0x010, 0x014, 0x018]

/-- What a write does to one watched word. -/
inductive WordTouch where
  | untouched
  | part
  | whole (v : BitVec 32)
  deriving DecidableEq, Repr

/-- The four lanes of a write that fall on the word at `w`. -/
def wordLanes (addr : Nat) (lanes : List (Option Byte)) (w : Nat) : List (Option Byte) :=
  (List.range 4).map fun k => if addr ≤ w + k then lanes.getD (w + k - addr) none else none

/-- What a write at `addr` does to the word at `w` (R14, R15). -/
def touchWord (addr : Nat) (lanes : List (Option Byte)) (w : Nat) : WordTouch :=
  match wordLanes addr lanes w with
  | [some a, some b, some c, some d] => .whole (BitVec.ofNat 32 (fieldAt [a, b, c, d] 0 4))
  | [none, none, none, none] => .untouched
  | _ => .part

/-- The stream whose producer word lies at a control page offset. -/
def streamOfWord (offset : Nat) : Option Display :=
  if offset = 0x010 then some .front
  else if offset = 0x014 then some .rearLeft
  else if offset = 0x018 then some .rearRight
  else none

/-- Hand a watched word's value to its owner at once (R14); a media producer value becomes the held one (R168). -/
def State.handWord (s : State) (offset : Nat) (v : BitVec 32) : State :=
  if offset = 0x000 then s.takeRequestProducer v
  else if offset = 0x004 then s.takeReportConsumer v
  else
    match streamOfWord offset with
    | none => s
    | some d => s.updateStream d fun x => { x with held := v }

/-- One watched word of a passing write into the control page (R14, R15). -/
def State.captureWord (page addr : Nat) (lanes : List (Option Byte)) (s : State) (offset : Nat) : State :=
  match touchWord addr lanes (page + offset) with
  | .untouched => s
  | .part => s.raise .requestInvalid offset
  | .whole v => s.handWord offset v

/-- The media producer values that a write carries, applied at its grant (R168). Several of one write apply in ascending offset
(DESIGN CHOICE, log 35). -/
def mediaValues (page addr : Nat) (lanes : List (Option Byte)) : List (Display × BitVec 32) :=
  watchedWords.filterMap fun offset =>
    match streamOfWord offset, touchWord addr lanes (page + offset) with
    | some d, .whole v => some (d, v)
    | _, _ => none

/-! ### Taking a transaction (R3 to R5) -/

/-- A transaction is out of range (R4). -/
def outOfRange (addr len : Nat) : Bool := decide (Config.dramSize < addr + len ∨ 64 < addr % 64 + len)

/-- Answer every read at the head of the response list that is ready (R5). -/
def answerReady : List AwaitedRead → List Response → List AwaitedRead × List Response
  | [], sent => ([], sent)
  | r :: rest, sent =>
    match r.answer with
    | none => (r :: rest, sent)
    | some data => answerReady rest (sent ++ [{ data := data, error := r.error }])

/-- Send the responses that are ready. -/
def LinkPort.sendReady (p : LinkPort) : LinkPort :=
  let r := answerReady p.responses p.answered
  { p with responses := r.1, answered := r.2 }

/-- Take a READ (R3, R4). -/
def State.takeRead (s : State) (addr : BitVec 32) (len : Nat) : State :=
  if outOfRange addr.toNat len then
    let s1 := s.raise .badAddress (addr.toNat / 64)
    let joined := s1.link.responses ++ [{ answer := some (zeroBytes len), error := true }]
    { s1 with link := { s1.link with responses := joined }.sendReady }
  else
    { s with
      link.responses := s.link.responses ++ [{ answer := none, error := false }]
      link.path := s.link.path ++ [.read addr.toNat len true] }

/-- A passing WRITE enters class C, and the watched words it covers are handed in ascending order (R7, R14, log 35). -/
def State.passWrite (s : State) (addr : Nat) (lanes : List (Option Byte)) : State :=
  match s.roles with
  | none => { s with link.path := s.link.path ++ [.write addr lanes []] }
  | some roles =>
    watchedWords.foldl (State.captureWord roles.controlPage addr lanes)
      { s with link.path := s.link.path ++ [.write addr lanes (mediaValues roles.controlPage addr lanes)] }

/-- Take a WRITE (R3, R4, R7). -/
def State.takeWrite (s : State) (addr : BitVec 32) (lanes : List (Option Byte)) : State :=
  if outOfRange addr.toNat lanes.length then s.raise .badAddress (addr.toNat / 64)
  else
    match guardDecision s.regions addr.toNat with
    | .drop ident => s.raise .writeGuard ident
    | .pass => s.passWrite addr.toNat lanes

/-- Take a transaction. -/
def State.takeTransaction (s : State) : Transaction → State
  | .read addr len => s.takeRead addr len
  | .write addr lanes => s.takeWrite addr lanes

/-- The link port may take a transaction: the link is UP, the response list has room (R3), and the identity record and the
first full rewrite have been granted (R62), also where the link was lost meanwhile and has been trained again, although R64
speaks of no status-block wait after a restart (DESIGN CHOICE, log 46). -/
def State.mayTake (s : State) : Bool :=
  s.link.up && decide (s.link.responses.length < 16) && !(s.rw.queue.any DeviceWrite.bringUp)

/-- Take the transactions held at the processor, while the link port may (R3). -/
def State.drainHeld : List Transaction → State → State
  | [], s => { s with link.held := [] }
  | t :: rest, s =>
    if s.mayTake then State.drainHeld rest (s.takeTransaction t) else { s with link.held := t :: rest }

/-- Take the held transactions for which there is room again. -/
def State.drain (s : State) : State := State.drainHeld s.link.held s

/-- A transaction comes down the link (R3). While the link is DOWN none arrives; flow control holds one that cannot be taken
yet behind those already held (log 7). -/
def State.receive (s : State) (t : Transaction) : State :=
  if s.link.up = false then s
  else if s.link.held ≠ [] ∨ s.mayTake = false then { s with link.held := s.link.held ++ [t] }
  else s.takeTransaction t

/-- A full write of the control page word at an offset (R14, log 24). -/
def State.writeWord (s : State) (offset : Nat) (v : BitVec 32) : State :=
  match s.roles with
  | none => s
  | some roles =>
    s.receive (.write (BitVec.ofNat 32 (roles.controlPage + offset)) ((bytesOf 4 v.toNat).map some))

/-- LINK_TRAINING (R1): refused while LOADING. -/
def execLinkTraining (s : State) : Host.Outcome State Fault Refusal :=
  if s.startup.state = .loading ∨ s.link.up = true then .next s else .next { s with link.up := true }

/-- LINK_READ (R3, R4). A length outside 1 to 64 cannot arrive (R3, log 34). -/
def execLinkRead (addr : BitVec 32) (len : Nat) (s : State) : Host.Outcome State Fault Refusal :=
  if 1 ≤ len ∧ len ≤ 64 then .next (s.receive (.read addr len)) else .fault .cannotArrive

/-- LINK_WRITE (R3, R4, R7, R14, R15). A length outside 1 to 64 cannot arrive (R3, log 34). -/
def execLinkWrite (addr : BitVec 32) (lanes : List (Option Byte)) (s : State) : Host.Outcome State Fault Refusal :=
  if 1 ≤ lanes.length ∧ lanes.length ≤ 64 then .next (s.receive (.write addr lanes)) else .fault .cannotArrive

/-- REQUEST_PRODUCER_INDEX (R20). -/
def execRequestProducerIndex (value : BitVec 32) (s : State) : Host.Outcome State Fault Refusal :=
  .next (s.writeWord 0x000 value)

/-- REPORT_CONSUMER_INDEX (R29). -/
def execReportConsumerIndex (value : BitVec 32) (s : State) : Host.Outcome State Fault Refusal :=
  .next (s.writeWord 0x004 value)

/-- MEDIA_PRODUCER_INDEX (R168). -/
def execMediaProducerIndex (stream : Display) (value : BitVec 32) (s : State) : Host.Outcome State Fault Refusal :=
  .next (s.writeWord (producerOffset stream) value)

end Sys2Proof.Machine
end

