-- ==== Sys2Proof/Machine/Views.lean ====
section
/-! DEFINITION. View stacks (chapter 8, 8.1 and 8.2). A stack is listed from slot 0 up. -/

namespace Sys2Proof.Machine

/-- The view on top of a stack. -/
def topView (st : List View) : Option View := st.getLast?

/-- The top is a pinned CAMERA view. -/
def topPinned (st : List View) : Bool :=
  match topView st with
  | none => false
  | some v => v.owner == .camera && v.pinned

/-- Push on top (8.2). -/
def pushTop (st : List View) (v : View) : List View := st ++ [v]

/-- Insert beneath the top (8.2). -/
def insertBeneath (st : List View) (v : View) : List View :=
  match st.getLast? with
  | none => [v]
  | some t => st.dropLast ++ [v, t]

/-- The bottom-most SYSTEM view is removed and the stack closes up (R132). -/
def dropBottomSystem (st : List View) : List View := st.eraseP fun v => v.owner == .system

/-- The CAMERA view is removed wherever it stands and the stack closes up (R100). -/
def dropCamera (st : List View) : List View := st.filter fun v => v.owner == .system

/-- The CAMERA view of a stack. -/
def cameraView (st : List View) : Option View := st.find? fun v => v.owner == .camera

/-- Place a SYSTEM view: beneath a pinned CAMERA view, else on top (R131). -/
def placeSystem (st : List View) (v : View) : List View := if topPinned st then insertBeneath st v else pushTop st v

/-- A CAMERA view: layer set camera and guide, background opaque black (8.1, R98, R102). -/
def cameraViewOf (tag : Byte) (pinned : Bool) : View :=
  { owner := .camera, tag := tag, video := false, menu := false, background := 0xFF000000#32, pinned := pinned }

/-- Promote the CAMERA view to the top and pin it, keeping its tag (R104). -/
def promoteCamera (st : List View) : List View :=
  match cameraView st with
  | none => st
  | some v => dropCamera st ++ [{ v with pinned := true }]

/-- The stack after a system restart: only a pinned CAMERA view stays (R146). -/
def restartStack (st : List View) : List View := st.filter fun v => v.owner == .camera && v.pinned

/-- A stack is full (R130). -/
def stackFull (st : List View) : Bool := decide (4 ≤ st.length)

/-- A display's view stack. -/
def State.stack (s : State) (d : Display) : List View := (s.displays.get d).stack

/-- Replace a display's view stack. -/
def State.setStack (s : State) (d : Display) (st : List View) : State := s.updateDisplay d fun x => { x with stack := st }

end Sys2Proof.Machine
end

