-- ==== Sys2Proof/Machine/Park.lean ====
section
/-! DEFINITION. The park beep pattern (chapter 6, 6.4), and the end of a chime, of which it is told. -/

namespace Sys2Proof.Machine

/-- Offer one PARK_BEEP on FRONT (R108): dropped where one is already pending. A PARK_BEEP outranks no other own chime, so
its offer never stops a PARK_BEEP. -/
def State.offerBeep (s : State) : State :=
  if s.audio.chimes.front.queue.any Chime.isParkBeep then s else (s.offerChime .front 1 5 .part).state

/-- The interval of a band of the table; none for CONTINUOUS, or for no band. -/
def Park.intervalOf (p : Park) (b : Option Nat) : Option Nat := (b.bind fun i => p.table[i]?).bind Band.interval

/-- The band's position names a CONTINUOUS band. -/
def Park.isContinuous (p : Park) (b : Option Nat) : Bool :=
  match b.bind fun i => p.table[i]? with
  | none => false
  | some band => band.interval.isNone

/-- The first band whose limit is at least the distance, while the pattern is active and PARK_DISTANCE is FRESH (R107). -/
def State.currentBand (s : State) : Option Nat :=
  let r := s.vehicle.records.parkDistance
  if s.park.active = true ∧ r.state = .fresh then s.park.table.findIdx? fun b => decide (r.value ≤ b.limit) else none

/-- Enter an interval band: a beep is offered at once and the next one set (R107). -/
def State.enterInterval (s : State) (band ms : Nat) : State :=
  { s with
    park.band := some band, park.lastOffer := some s.time
    park.nextOffer := some (later s.time (1000 * ms)) }.offerBeep

/-- Choose the band anew (R107). -/
def State.chooseBand (s : State) : State :=
  let old := s.park.band
  match s.currentBand with
  | none => { s with park.band := none, park.nextOffer := none }
  | some band =>
    if old = some band then s
    else
      match s.park.intervalOf (some band) with
      | none => { s with park.band := some band, park.nextOffer := none }.offerBeep
      | some ms =>
        match s.park.intervalOf old, s.park.lastOffer with
        | some _, some last =>
          let next := later last (1000 * ms)
          if passed s.time next then s.enterInterval band ms
          else { s with park.band := some band, park.nextOffer := some next }
        | _, _ => s.enterInterval band ms

/-- The pattern is told that a PARK_BEEP on FRONT has stopped playing: the CONTINUOUS band offers the next (R108). -/
def State.beepStopped (s : State) : State :=
  if s.park.active = true ∧ s.park.isContinuous s.park.band = true then s.offerBeep else s

/-- Offer a chime, and tell the pattern where a PARK_BEEP was preempted by it (R108, R176). -/
def State.offerAndTell (s : State) (d : Display) (clip priority : Nat) (owner : ChimeOwner) : State × Bool :=
  let o := s.offerChime d clip priority owner
  (if o.beepStopped then o.state.beepStopped else o.state, o.taken)

/-- Offer a REVERSE_TONE on FRONT: dropped where one is already pending (R173). -/
def State.offerTone (s : State) : State :=
  if s.audio.chimes.front.queue.any Chime.isReverseTone then s else (s.offerAndTell .front 0 6 .part).1

/-- The acceptance table has a PARK_DISTANCE entry (R109). -/
def Vehicle.hasPark (v : Vehicle) : Bool := v.table.any fun e => e.signal == .parkDistance

/-- Start the pattern on entering ENGAGED (R109). -/
def State.startPattern (s : State) : State :=
  if s.vehicle.hasPark then { s with park.active := true, park.band := none, park.nextOffer := none }.chooseBand else s

/-- Stop the pattern on entering HOLDOFF (R109). -/
def State.stopPattern (s : State) : State := { s with park.active := false, park.band := none, park.nextOffer := none }

/-- PARK_OFFER_TIME (R108): part time has reached the next offer time of an interval band. -/
def execParkOfferTime (s : State) : Host.Outcome State Fault Refusal :=
  match s.park.intervalOf s.park.band, s.park.nextOffer with
  | some ms, some t =>
    if s.park.active = true ∧ reached s.time t = true then
      .next { s with park.lastOffer := some t, park.nextOffer := some (later t (1000 * ms)) }.offerBeep
    else .next s
  | _, _ => .next s

/-- A pair's chime has passed its last sample (R181): the player is IDLE, the buffer given up, the next head starts, and the
pattern is told of a PARK_BEEP's end (log 15). -/
def State.endChime (s : State) (d : Display) (c : Chime) : State :=
  let s1 := (s.leavePlayer d).settle
  if d = .front ∧ c.isParkBeep = true then s1.beepStopped else s1

/-- CHIME_END (R181). -/
def execChimeEnd (d : Display) (s : State) : Host.Outcome State Fault Refusal :=
  match (s.audio.chimes.get d).player with
  | .playing c src pos => if chimeSamples s.audio.clips c src ≤ pos then .next (s.endChime d c) else .next s
  | .idle | .starting _ => .next s

end Sys2Proof.Machine
end

