-- ==== Sys2Proof/Machine/ReverseControl.lean ====
section
/-! DEFINITION. Asserted reverse and the reverse controller (chapter 6, 6.2 and 6.3). -/

namespace Sys2Proof.Machine

/-- Bus reverse is asserted (R95). -/
def Vehicle.busReverse (v : Vehicle) : Bool :=
  v.records.reverse.value != 0 &&
    (v.records.reverse.state == .fresh || (v.records.reverse.state == .stale && !v.stalePeriodOver))

/-- Asserted reverse by the reverse source (R97). -/
def State.assertedReverse (s : State) : Bool :=
  match s.reverse.source with
  | .pin => s.vehicle.pinAccepted
  | .bus => s.vehicle.busReverse
  | .either => s.vehicle.pinAccepted || s.vehicle.busReverse

/-- Change the reverse state and post its REVERSE report. -/
def State.toReverse (s : State) (r : ReverseState) : State := { s with reverse.state := r }.post (.reverse r)

/-- Remove the CAMERA view from the FRONT stack wherever it stands and go to OFF (R100, R101, R103). -/
def State.cameraOff (s : State) : State :=
  { s.setStack .front (dropCamera (s.stack .front)) with reverse.timer := none }.toReverse .off

/-- The forced push of a pinned CAMERA view (R98): a full stack gives up its bottom-most SYSTEM view, whatever the mask. -/
def State.forcedPush (s : State) : State :=
  let v := cameraViewOf 0 true
  if stackFull (s.stack .front) then
    let s1 := (s.setStack .front (dropBottomSystem (s.stack .front))).raise .viewOverflow (displayNumber .front)
    s1.setStack .front (pushTop (s1.stack .front) v)
  else s.setStack .front (pushTop (s.stack .front) v)

/-- Reverse asserted (R98, R100, R104). In ENGAGED it does not arise. -/
def State.reverseAsserted (s : State) : State :=
  match s.reverse.state with
  | .off => (s.forcedPush.toReverse .engaged).offerTone.startPattern
  | .holdOff => { s with reverse.timer := none, reverse.state := .engaged }.startPattern.post (.reverse .engaged)
  | .manual => ((s.setStack .front (promoteCamera (s.stack .front))).toReverse .engaged).offerTone.startPattern
  | .engaged => s

/-- Reverse released (R99): HOLDOFF with its timer, and with a hold-off of 0 on to OFF at the same event. -/
def State.reverseReleased (s : State) : State :=
  match s.reverse.state with
  | .engaged =>
    let s1 := { s.stopPattern with reverse.timer := some (later s.time (1000 * s.reverse.holdOffMs)) }.toReverse .holdOff
    if s.reverse.holdOffMs = 0 then s1.cameraOff else s1
  | .off | .holdOff | .manual => s

/-- Evaluate asserted reverse (R97): the controller takes a change as its event. ENGAGED is where reverse was asserted. -/
def State.evaluateReverse (s : State) : State :=
  if s.reverse.running then
    if s.assertedReverse = true ∧ s.reverse.state ≠ .engaged then s.reverseAsserted
    else if s.assertedReverse = false ∧ s.reverse.state = .engaged then s.reverseReleased
    else s
  else s

/-- The exit test at a SPEED refresh (R101). -/
def State.speedExit (s : State) (speed : Int) : State :=
  if s.reverse.running = true ∧ s.reverse.exitSpeed < speed ∧ (s.reverse.state = .holdOff ∨ s.reverse.state = .manual) then
    s.cameraOff
  else s

/-- HOLD_OFF_EXPIRY (R100). -/
def execHoldOffExpiry (s : State) : Host.Outcome State Fault Refusal :=
  if s.reverse.state = .holdOff ∧ dueNow s.time s.reverse.timer = true then .next s.cameraOff else .next s

/-- REVERSE_PIN_CHANGE (R96): a change of the pin's level records its time. -/
def execReversePinChange (high : Bool) (s : State) : Host.Outcome State Fault Refusal :=
  if high = s.vehicle.pinLevel then .next s
  else .next { s with vehicle.pinLevel := high, vehicle.pinChanged := s.time }

/-- PIN_DEBOUNCE_EXPIRY (R96, R97): the pin has kept for 20 ms a level that is not the accepted one. -/
def execPinDebounceExpiry (s : State) : Host.Outcome State Fault Refusal :=
  if s.vehicle.pinLevel ≠ s.vehicle.pinAccepted ∧ 20000 ≤ elapsed s.time s.vehicle.pinChanged then
    .next { s with vehicle.pinAccepted := s.vehicle.pinLevel }.evaluateReverse
  else .next s

/-- STALE_PERIOD_END (R95): a record holding ASSERTED has been STALE for 2000 ms. -/
def execStalePeriodEnd (s : State) : Host.Outcome State Fault Refusal :=
  match s.vehicle.records.reverse.staleSince with
  | none => .next s
  | some t =>
    if s.vehicle.records.reverse.state = .stale ∧ s.vehicle.records.reverse.value ≠ 0 ∧
        s.vehicle.stalePeriodOver = false ∧ reached s.time (later t 2000000) = true then
      .next { s with vehicle.stalePeriodOver := true }.evaluateReverse
    else .next s

end Sys2Proof.Machine
end

