-- ==== Sys2Proof/Machine/Layers.lean ====
section
/-! DEFINITION. Layer settings (chapter 8, 8.4 and 8.5) and presentation queues (chapter 9, 9.1 and 9.2). -/

namespace Sys2Proof.Machine

/-- A display's system layer. -/
def State.layer (s : State) (d : Display) (l : ScanLayer) : LayerState := (s.displays.get d).layer l

/-- Replace a display's system layer. -/
def State.setLayer (s : State) (d : Display) (l : ScanLayer) (v : LayerState) : State :=
  s.updateDisplay d fun x => x.putLayer l v

/-! ### SET_LAYER (R136, R137) -/

/-- Bytes per pixel of a format (8.4). -/
def bytesPerPixel : PixelFormat → Nat
  | .argb8888 => 4
  | .nv12 => 1

/-- Destination x or y: rounded down to even, then clamped to the display's extent (R137). -/
def roundPosition (v extent : Nat) : Nat := min (v - v % 2) extent

/-- Destination w or h: rounded up to even, raised to 16, then clamped to the display's extent (R137). -/
def roundExtent (v extent : Nat) : Nat := min (max (v + v % 2) 16) extent

/-- The parameter offsets that SET_LAYER names (11.2). -/
def setLayerNamed : List Nat :=
  [6, 7, 8, 9, 10, 12, 13, 14, 15, 16, 17, 18, 19, 20, 21, 22, 23, 24, 25, 26, 27, 28, 29, 30, 31]

/-- The setting record that a SET_LAYER carries, its destination brought to the display's grid (R136, R137); none where a
field refuses it. -/
def settingOf (d : Display) (l : ScanLayer) (rec : List Byte) : Option LayerSetting :=
  match flagField (byteAt rec 8), formatField (byteAt rec 9), cadenceField (byteAt rec 10) with
  | some enable, some format, some cadence =>
    let sw := fieldAt rec 18 2
    let sh := fieldAt rec 20 2
    let stride := fieldAt rec 22 2
    let alpha := fieldAt rec 16 2
    if (format = .nv12 ∧ l = .menu) ∨ sw < 16 ∨ 1920 < sw ∨ sw % 2 ≠ 0 ∨ sh < 16 ∨ 1080 < sh ∨ sh % 2 ≠ 0 ∨
        stride < sw * bytesPerPixel format ∨ 255 < alpha then none
    else
      some
        { enable := enable, format := format, sourceWidth := sw, sourceHeight := sh, stride := stride
          x := roundPosition (fieldAt rec 24 2) d.columns, y := roundPosition (fieldAt rec 26 2) d.rows
          w := roundExtent (fieldAt rec 28 2) d.columns, h := roundExtent (fieldAt rec 30 2) d.rows
          alpha := alpha, fill := BitVec.ofNat 32 (fieldAt rec 12 4), cadence := cadence }
  | _, _, _ => none

/-- The checks of SET_LAYER (R136): display, layer and setting. -/
def checkSetLayer (rec : List Byte) : Option (Display × ScanLayer × LayerSetting) :=
  match displayField (byteAt rec 6), layerField (byteAt rec 7), reservedClear rec setLayerNamed with
  | some d, some l, true => (settingOf d l rec).map fun v => (d, l, v)
  | _, _, _ => none

/-! ### Releases (R153) -/

/-- A frame of a layer's queue is released (R153): its region's hold count falls, RELEASED is posted, and the released-shown
or the dropped count rises. -/
def State.release (s : State) (d : Display) (l : ScanLayer) (e : QueueEntry) (shown : Nat) : State :=
  let v := s.layer d l
  let counted := if 0 < shown then { v with releasedShown := v.releasedShown + 1 } else { v with dropped := v.dropped + 1 }
  ({ s with regions := holdDown s.regions e.region }.setLayer d l counted).post (.released d l e shown)

/-- Release the current frame, if there is one, with its shown count. -/
def State.releaseCurrent (s : State) (d : Display) (l : ScanLayer) : Option (QueueEntry × Nat) → State
  | none => s
  | some (e, shown) => s.release d l e shown

/-- Release entries in order, each with shown count 0. -/
def State.releaseAll (s : State) (d : Display) (l : ScanLayer) (es : List QueueEntry) : State :=
  es.foldl (fun acc e => acc.release d l e 0) s

/-! ### PUBLISH (R148 to R150) -/

/-- The frame size in bytes of a setting (R148). -/
def LayerSetting.frameSize (v : LayerSetting) : Nat :=
  match v.format with
  | .argb8888 => v.stride * v.sourceHeight
  | .nv12 => v.stride * v.sourceHeight * 3 / 2

/-- The checks of PUBLISH (R148): display, layer and entry, or the code that refuses it. -/
def checkPublish (s : State) (rec : List Byte) : Except Code (Display × ScanLayer × QueueEntry) :=
  let offset := fieldAt rec 12 4
  match displayField (byteAt rec 6), layerField (byteAt rec 7),
      reservedClear rec [6, 7, 8, 12, 13, 14, 15, 16, 17, 18, 19] && offset % 4 == 0 with
  | some d, some l, true =>
    if (s.layer d l).applied.enable = false then .error .layerOff
    else
      match findRegion s.regions (byteAt rec 8) with
      | none => .error .noRegion
      | some r =>
        if r.kind ≠ .frame then .error .noRegion
        else if r.size < offset + (s.layer d l).applied.frameSize then .error .regionTooSmall
        else if 15 ≤ r.hold then .error .regionBusy
        else .ok (d, l, { region := r.ident, offset := offset, time := BitVec.ofNat 32 (fieldAt rec 16 4) })
  | _, _, _ => .error .badField

/-- A new entry joins the tail of its queue and its region's hold count rises (R149). -/
def State.enqueue (s : State) (d : Display) (l : ScanLayer) (e : QueueEntry) : State :=
  let v := s.layer d l
  { s with regions := holdUp s.regions e.region }.setLayer d l { v with queue := v.queue ++ [e] }

/-- The entry at the head of a full queue is removed and released at once (R150). -/
def State.dropHead (s : State) (d : Display) (l : ScanLayer) : State :=
  let v := s.layer d l
  match v.queue with
  | [] => s
  | head :: rest => (s.setLayer d l { v with queue := rest }).release d l head 0

/-- A PUBLISH that has passed its checks (R149, R150): the code that refuses it, or none. -/
def State.publish (s : State) (d : Display) (l : ScanLayer) (e : QueueEntry) : State × Option Code :=
  if (s.layer d l).queue.length < 4 then (s.enqueue d l e, none)
  else
    let s1 := s.raise .queueFull (displayLayerDetail d l)
    if s.isMasked .queueFull then ((s1.dropHead d l).enqueue d l e, none) else (s1, some .queueFull)

/-! ### The frame boundary: settings and selection (R139, R142, R151 to R154) -/

/-- A source change: enable, format, source width, height or stride differ (R142). -/
def sourceChange (old new : LayerSetting) : Bool :=
  decide (old.enable ≠ new.enable ∨ old.format ≠ new.format ∨ old.sourceWidth ≠ new.sourceWidth ∨
    old.sourceHeight ≠ new.sourceHeight ∨ old.stride ≠ new.stride)

/-- The watch for starvation begins anew: the record enables a disabled layer, or changes the cadence to STREAM (R154). -/
def rearms (old new : LayerSetting) : Bool :=
  (!old.enable && new.enable) || (old.cadence != .stream && new.cadence == .stream)

/-- A staged record becomes applied (R139, R142, R154). -/
def State.applyRecord (s : State) (d : Display) (l : ScanLayer) (new : LayerSetting) : State :=
  let v := s.layer d l
  let v1 := { v with applied := new, staged := none }
  let v2 := if rearms v.applied new then { v1 with lastSelection := s.time, armed := true } else v1
  if sourceChange v.applied new then
    let s1 := s.setLayer d l { v2 with current := none, queue := [] }
    (s1.releaseCurrent d l v.current).releaseAll d l v.queue
  else s.setLayer d l v2

/-- At a boundary a layer applies its staged record where the display's change hold is clear (R139). -/
def State.applyStaged (s : State) (d : Display) (l : ScanLayer) : State :=
  match (s.layer d l).staged with
  | none => s
  | some new => if (s.displays.get d).hold then s else s.applyRecord d l new

/-- The record that applies at this boundary is a source change: the layer is a bad frame (R143). -/
def State.badFrame (s : State) (d : Display) (l : ScanLayer) : Bool :=
  match (s.layer d l).staged with
  | none => false
  | some new => !(s.displays.get d).hold && sourceChange (s.layer d l).applied new

/-- An entry is due at a boundary (R151): at most half a frame period ahead, by the signed difference. -/
def entryDue (now : Time) (e : QueueEntry) : Bool := decide ((e.time - now).toInt ≤ 8333)

/-- A layer is starved at a boundary where no frame is selected (R154). -/
def LayerState.starved (v : LayerState) (now : Time) : Bool :=
  v.applied.enable && v.applied.cadence == .stream && v.armed && v.queue.isEmpty &&
    decide (500000 ≤ (now - v.lastSelection).toInt)

/-- No frame is selected (R151, R154): the current frame's shown count rises, and the layer may be starved. -/
def State.keepFrame (s : State) (d : Display) (l : ScanLayer) : State :=
  let v := s.layer d l
  let v1 := { v with current := v.current.map fun c => (c.1, min (c.2 + 1) 4294967295) }
  if v.starved s.time then
    (s.setLayer d l { v1 with armed := false }).raise .layerStarved (displayLayerDetail d l)
  else s.setLayer d l v1

/-- Frame selection of a layer's queue at a boundary (R151, R152): the last entry of the due run becomes current; the former
current frame and then the other due entries are released. -/
def State.selectFrame (s : State) (d : Display) (l : ScanLayer) : State :=
  let v := s.layer d l
  let run := v.queue.takeWhile (entryDue s.time)
  match run.getLast? with
  | none => s.keepFrame d l
  | some chosen =>
    let s1 := s.setLayer d l
      { v with
        queue := v.queue.drop run.length, current := some (chosen, 1), lastSelection := s.time, armed := true }
    (s1.releaseCurrent d l v.current).releaseAll d l run.dropLast

/-- What a layer contributes to the frame the boundary begins (R155). -/
def State.contribution (s : State) (d : Display) (l : ScanLayer) (bad : Bool) : Contribution :=
  let v := s.layer d l
  if v.applied.enable = false then .nothing
  else if bad then .fill v.applied
  else
    match v.current with
    | none => .fill v.applied
    | some (e, _) =>
      match findRegion s.regions e.region with
      | none => .fill v.applied
      | some r => .frame v.applied (r.base + e.offset)

/-! ### System restart (R147, R165) -/

/-- A layer after a system restart: default record, no staged record, queue and current frame emptied with no release. -/
def LayerState.restart (v : LayerState) (now : Time) : LayerState :=
  { v with
    applied := .default, staged := none, queue := [], current := none, lastSelection := now, armed := true }

/-- A display after a system restart (R146, R147). -/
def DisplayState.restart (x : DisplayState) (now : Time) : DisplayState :=
  { x with stack := restartStack x.stack, hold := false, video := x.video.restart now, menu := x.menu.restart now }

end Sys2Proof.Machine
end

