-- ==== Sys2Proof/Machine/GuideEngine.lean ====
section
/-! DEFINITION. The guide engine (chapter 7): curvature, path, projection, rasterising, the span table. -/

namespace Sys2Proof.Machine

/-! ### Curvature (R114, R115) -/

/-- The curvature between two breakpoints (R114). -/
def curveBetween (a0 k0 a1 k1 a : Int) : Int := k0 + rndDiv ((k1 - k0) * (a - a0)) (a1 - a0)

/-- The curvature from a list of breakpoints, for an angle above the first one's (R114). -/
def curveFrom (a : Int) : Int × Int → List (Int × Int) → Int
  | p, [] => p.2
  | p, q :: rest => if a < q.1 then curveBetween p.1 p.2 q.1 q.2 a else curveFrom a q rest

/-- The curvature that the calibration table gives a steering value, clamped at both ends (R114). -/
def curvature (table : List (Int × Int)) (a : Int) : Int :=
  match table with
  | [] => 0
  | p :: rest => if a ≤ p.1 then p.2 else curveFrom a p rest

/-! ### Path and projection (R119, R120) -/

/-- The lateral offset of the path at distance d, clamped to 8000 mm (R119). -/
def pathOffset (kappa d overhang : Int) : Int :=
  clampInt (-8000) 8000 (rndDiv (kappa * d * (d + 2 * overhang)) 33554432)

/-- A point in the picture frame. -/
structure PicturePoint where
  u : Int
  v : Int
  deriving DecidableEq, Repr

/-- A projected edge point: none where it is behind the camera, and whether a coordinate was clamped (R120). -/
structure Projected where
  point : Option PicturePoint
  clamped : Bool
  deriving DecidableEq, Repr

/-- Project a ground point (R120). -/
def project (m : Homography) (x y : Int) : Projected :=
  let w := m.h31 * x + m.h32 * y + m.h33
  if w ≤ 0 then { point := none, clamped := false }
  else
    let u := rndDiv (m.h11 * x + m.h12 * y + m.h13) w
    let v := rndDiv (m.h21 * x + m.h22 * y + m.h23) w
    let uc := clampInt (-4096) 8191 u
    let vc := clampInt (-4096) 8191 v
    { point := some { u := uc, v := vc }, clamped := decide (uc ≠ u ∨ vc ≠ v) }

/-- The distances a build works on: the bumper, then the marks (R119). -/
def GuideConfig.distances (c : GuideConfig) : List Int := 0 :: c.marks

/-- An edge: `side` is -1 for the left and 1 for the right (R119). Each distance with its projected point. -/
def GuideConfig.edge (c : GuideConfig) (kappa side : Int) : List (Int × Projected) :=
  c.distances.map fun d => (d, project c.homography (side * c.halfWidth + pathOffset kappa d c.overhang) d)

/-- The band of a segment or crossbar, from the distance of its farther point (R121). -/
def GuideConfig.bandOf (c : GuideConfig) (d : Int) : SpanBand := if d ≤ c.b1 then .near else if d ≤ c.b2 then .mid else .far

/-! ### The span table (R124, R125) -/

/-- Rank of a band: NEAR above MID above FAR. -/
def SpanBand.rank : SpanBand → Nat
  | .near => 2
  | .mid => 1
  | .far => 0

/-- Table order: row, start, end (R125); of spans equal in all three, the higher band first (DESIGN CHOICE, log 39). -/
def spanBefore (a b : Span) : Bool :=
  if a.row ≠ b.row then decide (a.row < b.row)
  else if a.startCol ≠ b.startCol then decide (a.startCol < b.startCol)
  else if a.endCol ≠ b.endCol then decide (a.endCol < b.endCol)
  else decide (b.band.rank < a.band.rank)

/-- Put a span in its place. -/
def insertSpan (x : Span) : List Span → List Span
  | [] => [x]
  | y :: rest => if spanBefore x y then x :: y :: rest else y :: insertSpan x rest

/-- Of two candidates of a full row, the one that is dropped: lowest band, then largest start, then largest end (R125). -/
def dropsFirst (a b : Span) : Bool :=
  if a.band.rank ≠ b.band.rank then decide (a.band.rank < b.band.rank)
  else if a.startCol ≠ b.startCol then decide (b.startCol < a.startCol)
  else decide (b.endCol < a.endCol)

/-- The candidate that a full row drops. -/
def droppedOf : Span → List Span → Span
  | x, [] => x
  | x, y :: rest => if dropsFirst y x then droppedOf y rest else droppedOf x rest

/-- The spans of a row of a table. -/
def rowSpans (t : List Span) (r : Nat) : List Span := t.filter fun x => x.row == r

/-- A build as it goes: the table so far and whether a span was dropped. -/
structure BuildTable where
  spans : List Span
  dropped : Bool
  deriving DecidableEq, Repr

/-- Add a clipped span (R125): a row that holds six drops one of the seven candidates. -/
def BuildTable.add (b : BuildTable) (x : Span) : BuildTable :=
  if (rowSpans b.spans x.row).length < 6 then { b with spans := insertSpan x b.spans }
  else
    let out := droppedOf x (rowSpans b.spans x.row)
    { spans := (insertSpan x b.spans).erase out, dropped := true }

/-- Clip a span to the screen and add it (R124); a span off the screen is not added. -/
def BuildTable.addClipped (b : BuildTable) (row startCol endCol : Int) (band : SpanBand) : BuildTable :=
  if row < 0 ∨ 719 < row then b
  else
    let lo := max startCol 0
    let hi := min endCol 1279
    if hi < lo then b
    else b.add { row := row.toNat, startCol := lo.toNat, endCol := hi.toNat, band := band }

/-! ### Rasterising (R121 to R123) -/

/-- The column of a segment on row r (R123). -/
def segmentColumn (p q : PicturePoint) (r : Int) : Int := p.u + rndDiv ((q.u - p.u) * (p.v - r)) (p.v - q.v)

/-- The span of a segment on one of its rows (R123). -/
def BuildTable.segmentRow (b : BuildTable) (p q : PicturePoint) (h : Int) (band : SpanBand) (r : Int) : BuildTable :=
  let last := max p.v q.v
  let x0 := segmentColumn p q r
  let x1 := segmentColumn p q (if r = last then r else r + 1)
  b.addClipped r (min x0 x1 - h) (max x0 x1 + h) band

/-- A segment from its nearer point p to its farther point q (R123). -/
def BuildTable.segment (b : BuildTable) (p q : PicturePoint) (h : Int) (band : SpanBand) : BuildTable :=
  if p.v = q.v then b.addClipped p.v (min p.u q.u - h) (max p.u q.u + h) band
  else
    (List.range ((max p.v q.v - min p.v q.v).toNat + 1)).foldl
      (fun acc (i : Nat) => acc.segmentRow p q h band (min p.v q.v + (i : Int))) b

/-- The segments of an edge from a point on (R121): the edge stops at its first invalid point. -/
def BuildTable.edgeFrom (c : GuideConfig) : BuildTable → PicturePoint → List (Int × Projected) → BuildTable
  | b, _, [] => b
  | b, p, (d, q) :: rest =>
    match q.point with
    | none => b
    | some q1 => BuildTable.edgeFrom c (b.segment p q1 c.lineHalf (c.bandOf d)) q1 rest

/-- The segments of an edge (R121): none where the bumper point is invalid. -/
def BuildTable.edge (c : GuideConfig) (b : BuildTable) (e : List (Int × Projected)) : BuildTable :=
  match e with
  | [] => b
  | (_, p) :: rest =>
    match p.point with
    | none => b
    | some p1 => BuildTable.edgeFrom c b p1 rest

/-- A crossbar at a mark (R122). -/
def BuildTable.crossbar (b : BuildTable) (l r : PicturePoint) (h : Int) (band : SpanBand) : BuildTable :=
  let mid := rndDiv (l.v + r.v) 2
  (List.range (2 * h.toNat + 1)).foldl
    (fun acc (i : Nat) => acc.addClipped (mid - h + (i : Int)) (min l.u r.u) (max l.u r.u) band) b

/-- The crossbars from a mark on, as long as both edges are drawn (R122). -/
def BuildTable.crossbarsFrom (c : GuideConfig) : BuildTable → List (Int × Projected) → List (Int × Projected) → BuildTable
  | b, (d, l) :: ls, (_, r) :: rs =>
    match l.point, r.point with
    | some l1, some r1 => BuildTable.crossbarsFrom c (b.crossbar l1 r1 c.lineHalf (c.bandOf d)) ls rs
    | _, _ => b
  | b, _, _ => b

/-- The crossbars (R122): none at the bumper, and none where a bumper point is invalid. -/
def BuildTable.crossbars (c : GuideConfig) (b : BuildTable) (le ri : List (Int × Projected)) : BuildTable :=
  match le, ri with
  | (_, l) :: ls, (_, r) :: rs =>
    match l.point, r.point with
    | some _, some _ => BuildTable.crossbarsFrom c b ls rs
    | _, _ => b
  | _, _ => b

/-- What a build gives: the table and the three result flags. -/
structure BuildResult where
  spans : List Span
  behind : Bool
  offscreen : Bool
  dropped : Bool
  deriving DecidableEq, Repr

/-- A whole build from a curvature (R117 to R125). -/
def GuideConfig.build (c : GuideConfig) (kappa : Int) : BuildResult :=
  let le := c.edge kappa (-1)
  let ri := c.edge kappa 1
  let b0 : BuildTable := { spans := [], dropped := false }
  let b := (BuildTable.edge c (BuildTable.edge c b0 le) ri).crossbars c le ri
  { spans := b.spans
    behind := (le ++ ri).any fun p => p.2.point.isNone
    offscreen := (le ++ ri).any fun p => p.2.clamped
    dropped := b.dropped }

/-! ### The engine's events -/

/-- A table of the engine. -/
def Guide.table (g : Guide) : TableName → List Span
  | .zero => g.tableZero
  | .one => g.tableOne

/-- Replace a table of the engine. -/
def Guide.putTable (g : Guide) (n : TableName) (t : List Span) : Guide :=
  match n with
  | .zero => { g with tableZero := t }
  | .one => { g with tableOne := t }

/-- The table that the shown selector does not name, table 0 where it is none (R117). -/
def Guide.buildTarget (g : Guide) : TableName :=
  match g.shown with
  | none => .zero
  | some .zero => .one
  | some .one => .zero

/-- The handover at a FRONT frame boundary (R116). -/
def Guide.handover (g : Guide) : Guide := { g with shown := g.ready, ready := none }

/-- A build begins (R117): its table and the three result flags are cleared, the curvature is taken. -/
def Guide.startBuild (g : Guide) : Guide :=
  { g.putTable g.buildTarget [] with
    flags := { g.flags with behind := false, offscreen := false, spansDropped := false }
    building := some (g.buildTarget, g.kappa) }

/-- A build completes (R117): the pending selector names its table and the result flags stand. -/
def Guide.finishBuild (g : Guide) (n : TableName) (r : BuildResult) : Guide :=
  { g.putTable n r.spans with
    flags := { g.flags with behind := r.behind, offscreen := r.offscreen, spansDropped := r.dropped }
    building := none, ready := some n }

/-- GUIDE_BUILD_COMPLETE (R117, R118). -/
def execGuideBuildComplete (s : State) : Host.Outcome State Fault Refusal :=
  match s.guide.building, s.guide.config with
  | some (n, kappa), some c =>
    let r := c.build kappa
    let s1 := { s with guide := s.guide.finishBuild n r }
    if r.behind = true ∨ r.offscreen = true then .next (s1.raise .guideClipped (guideFlagsNumber s1.guide.flags))
    else .next s1
  | _, _ => .next s

/-- The engine follows the STEERING record from the end of load step 3, where it has a calibration (R115, R127). -/
def Guide.steer (g : Guide) (a : Int) : Guide :=
  match g.config with
  | none => g
  | some c => { g with kappa := curvature c.curve a, flags := { g.flags with isStatic := false } }

/-- STEERING is NEVER or has gone STALE: the lines go straight (R115). -/
def Guide.straighten (g : Guide) : Guide :=
  match g.config with
  | none => g
  | some _ => { g with kappa := 0, flags := { g.flags with isStatic := true } }

end Sys2Proof.Machine
end

