-- ==== Sys2Proof/Machine/Compose.lean ====
section
/-! DEFINITION. Composition (chapter 9, 9.4 and 9.5): every pixel of a row from the composed view, the layers'
contributions, the camera picture or the fallback, and the guide spans. -/

namespace Sys2Proof.Machine

/-! ### Colours, blending and conversion (R159, R160) -/

/-- Red, green and blue of a pixel. -/
structure Rgb where
  r : Nat
  g : Nat
  b : Nat
  deriving DecidableEq, Repr

/-- A layer pixel: its colour and its pixel alpha. -/
structure LayerPixel where
  rgb : Rgb
  alpha : Nat
  deriving DecidableEq, Repr

/-- Red, green and blue of a colour field. -/
def colourRgb (c : Colour) : Rgb :=
  { r := c.toNat / 0x10000 % 256, g := c.toNat / 0x100 % 256, b := c.toNat % 256 }

/-- The alpha of a colour field. -/
def colourAlpha (c : Colour) : Nat := c.toNat / 0x1000000

/-- A colour as a layer pixel. -/
def colourPixel (c : Colour) : LayerPixel := { rgb := colourRgb c, alpha := colourAlpha c }

/-- The effective alpha (R159). -/
def effectiveAlpha (pa ga : Nat) : Nat := (pa * ga + 127) / 255

/-- One channel of a blend (R159). -/
def blendChannel (a fg bg : Nat) : Nat := (a * fg + (255 - a) * bg + 127) / 255

/-- Blend a layer pixel over the pixel beneath, with global alpha `ga` (R159). -/
def blend (p : LayerPixel) (ga : Nat) (bg : Rgb) : Rgb :=
  let a := effectiveAlpha p.alpha ga
  { r := blendChannel a p.rgb.r bg.r, g := blendChannel a p.rgb.g bg.g, b := blendChannel a p.rgb.b bg.b }

/-- Convert luma and chroma to red, green and blue (R160). -/
def yuvRgb (y u v : Int) : Rgb :=
  { r := (clampInt 0 255 ((298 * (y - 16) + 409 * (v - 128) + 128) / 256)).toNat
    g := (clampInt 0 255 ((298 * (y - 16) - 100 * (u - 128) - 208 * (v - 128) + 128) / 256)).toNat
    b := (clampInt 0 255 ((298 * (y - 16) + 516 * (u - 128) + 128) / 256)).toNat }

/-- A luma with the applied gain (R87). -/
def gainedLuma (y gain : Int) : Int := clampInt 16 235 (16 + ((y - 16) * gain + 8) / 16)

/-! ### Layer pixels (R156, R157) -/

/-- A screen pixel lies in a layer's destination rectangle. -/
def LayerSetting.coversPixel (v : LayerSetting) (col row : Nat) : Bool :=
  decide (v.x ≤ col ∧ col < v.x + v.w ∧ v.y ≤ row ∧ row < v.y + v.h)

/-- A screen row meets a layer's destination rectangle. -/
def LayerSetting.coversRow (v : LayerSetting) (row : Nat) : Bool := decide (v.y ≤ row ∧ row < v.y + v.h)

/-- The source column and row of a screen pixel (R157). -/
def LayerSetting.sourceCol (v : LayerSetting) (col : Nat) : Nat := (col - v.x) * v.sourceWidth / v.w
def LayerSetting.sourceRow (v : LayerSetting) (row : Nat) : Nat := (row - v.y) * v.sourceHeight / v.h

/-- Where a source row's luma, or its ARGB pixels, begin. -/
def LayerSetting.rowBase (v : LayerSetting) (base sy : Nat) : Nat := base + sy * v.stride

/-- Where a source row's chroma begins (R157). -/
def LayerSetting.chromaBase (v : LayerSetting) (base sy : Nat) : Nat :=
  base + v.sourceHeight * v.stride + sy / 2 * v.stride

/-- A byte of the data granted for a layer's part of a row. -/
def Scan.byteFor (sc : Scan) (l : ScanLayer) (row addr : Nat) : Option Byte :=
  (sc.data.find? fun x =>
    x.layer == l && x.row == row && decide (x.addr ≤ addr ∧ addr < x.addr + x.bytes.length)).bind
      fun x => x.bytes[addr - x.addr]?

/-- The pixel of a current frame at a screen pixel; none while a byte of it has not been granted (R157). -/
def Scan.framePixel (sc : Scan) (l : ScanLayer) (v : LayerSetting) (base col row : Nat) : Option LayerPixel :=
  let sx := v.sourceCol col
  let sy := v.sourceRow row
  match v.format with
  | .argb8888 =>
    let at' := fun k => sc.byteFor l row (v.rowBase base sy + 4 * sx + k)
    match at' 0, at' 1, at' 2, at' 3 with
    | some b, some g, some r, some a =>
      some { rgb := { r := r.toNat, g := g.toNat, b := b.toNat }, alpha := a.toNat }
    | _, _, _, _ => none
  | .nv12 =>
    let chroma := v.chromaBase base sy + 2 * (sx / 2)
    match sc.byteFor l row (v.rowBase base sy + sx), sc.byteFor l row chroma, sc.byteFor l row (chroma + 1) with
    | some y, some u, some w => some { rgb := yuvRgb y.toNat u.toNat w.toNat, alpha := 255 }
    | _, _, _ => none

/-- A layer is late in the row being sent, from this column or before it (R164). -/
def Scan.isLate (sc : Scan) (l : ScanLayer) (col : Nat) : Bool := sc.late.any fun x => x.1 == l && decide (x.2 ≤ col)

/-- What a layer blends over a pixel, and its global alpha; none where it draws nothing (R156, R157, R164, log 21). -/
def Scan.layerPixel (sc : Scan) (l : ScanLayer) (c : Contribution) (col row : Nat) : Option (LayerPixel × Nat) :=
  match c with
  | .nothing => none
  | .fill v => if v.coversPixel col row then some (colourPixel v.fill, v.alpha) else none
  | .frame v base =>
    if v.coversPixel col row then
      if sc.isLate l col then some (colourPixel v.fill, v.alpha)
      else some ((sc.framePixel l v base col row).getD (colourPixel v.fill), v.alpha)
    else none

/-- Blend what a layer draws, if anything, over a pixel. -/
def blendOver (p : Option (LayerPixel × Nat)) (bg : Rgb) : Rgb :=
  match p with
  | none => bg
  | some (q, ga) => blend q ga bg

/-- A pixel of a composed SYSTEM view (R156): background, then video, then menu. -/
def Scan.systemPixel (sc : Scan) (v : View) (col row : Nat) : Rgb :=
  let onVideo := blendOver (if v.video then sc.layerPixel .video sc.video col row else none) (colourRgb v.background)
  blendOver (if v.menu then sc.layerPixel .menu sc.menu col row else none) onVideo

/-! ### The camera view (R161 to R163) -/

/-- RGB 32, 32, 32: a late camera pixel, and the ground of the fallback. -/
def cameraGrey : Rgb := { r := 32, g := 32, b := 32 }

/-- A pixel of the displaying buffer with the applied gain; none while a byte of it has not been granted (R161). -/
def Scan.cameraPixel (sc : Scan) (base gain col row : Nat) : Option Rgb :=
  let pair := base + 2560 * row + 4 * (col / 2)
  match sc.byteFor .camera row (pair + 2 * (col % 2)), sc.byteFor .camera row (pair + 1),
      sc.byteFor .camera row (pair + 3) with
  | some y, some u, some v => some (yuvRgb (gainedLuma y.toNat gain) u.toNat v.toNat)
  | _, _, _ => none

/-- The colour of a band (R162). -/
def GuideConfig.bandColour (c : GuideConfig) : SpanBand → Colour
  | .near => c.near
  | .mid => c.mid
  | .far => c.far

/-- The highest band among spans (R162). -/
def highestBand : List Span → Option SpanBand
  | [] => none
  | x :: rest =>
    match highestBand rest with
    | none => some x.band
    | some b => if b.rank ≤ x.band.rank then some x.band else some b

/-- Paint the shown span table over a camera pixel (R162). -/
def Guide.paint (g : Guide) (col row : Nat) (under : Rgb) : Rgb :=
  match g.shown, g.config with
  | some n, some c =>
    match highestBand ((rowSpans (g.table n) row).filter fun x => decide (x.startCol ≤ col ∧ col ≤ x.endCol)) with
    | none => under
    | some b => blend (colourPixel (c.bandColour b)) 255 under
  | _, _ => under

/-- The palette index of a pixel of the fallback picture (11.6): low four bits for an even column. -/
def Compositor.fallbackIndex (c : Compositor) (col row : Nat) : Nat :=
  let b := byteAt c.fallbackIndices (128 * row + col / 2)
  if col % 2 = 0 then b % 16 else b / 16

/-- A pixel of a fallback frame (R163). -/
def Compositor.fallbackPixel (c : Compositor) (col row : Nat) : Rgb :=
  if 512 ≤ col ∧ col < 768 ∧ 296 ≤ row ∧ row < 424 then
    blend (colourPixel (c.fallbackPalette.getD (c.fallbackIndex (col - 512) (row - 296)) 0)) 255 cameraGrey
  else cameraGrey

/-- A pixel of a composed CAMERA view (R161 to R164). -/
def State.cameraScenePixel (s : State) (sc : Scan) (col row : Nat) : Rgb :=
  match sc.camera with
  | .absent => cameraGrey
  | .fallback => s.compositor.fallbackPixel col row
  | .fresh base gain =>
    if sc.isLate .camera col then s.guide.paint col row cameraGrey
    else s.guide.paint col row ((sc.cameraPixel base gain col row).getD cameraGrey)

/-! ### Rows -/

/-- A pixel of a display as composed (R156, R161). -/
def State.screenPixel (s : State) (sc : Scan) (col row : Nat) : Rgb :=
  match sc.view with
  | none => { r := 0, g := 0, b := 0 }
  | some v =>
    match v.owner with
    | .system => sc.systemPixel v col row
    | .camera => s.cameraScenePixel sc col row

/-- A pixel as sent: 8 bits of each channel. -/
def Rgb.bits (p : Rgb) : Byte × Byte × Byte := (BitVec.ofNat 8 p.r, BitVec.ofNat 8 p.g, BitVec.ofNat 8 p.b)

/-- The row of pixels that a display sends. -/
def State.rowPixels (s : State) (d : Display) (row : Nat) : List (Byte × Byte × Byte) :=
  (List.range d.columns).map fun col => (s.screenPixel (s.displays.get d).scan col row).bits

end Sys2Proof.Machine
end

