-- ==== Sys2Proof/Machine/StatusBlock.lean ====
section
/-! DEFINITION. The status block (2.4, 11.5): the identity record and the full rewrite. -/

namespace Sys2Proof.Machine

/-- The identity record, 0x000 to 0x01F (11.5). -/
def identityRecord : List Byte :=
  bytesOf 4 0x620 ++ bytesOf 4 1 ++ bytesOf 2 64 ++ bytesOf 2 16 ++ bytesOf 2 256 ++ bytesOf 2 128
    ++ bytesOf 4 Config.storeSize ++ bytesOf 4 Config.blockSize ++ zeroBytes 8

/-- Picture age in milliseconds and the newest indication, 0x034 to 0x036 (R81, R188). A negative difference has no stated
value (log 17). -/
def pictureAgeBytes (now : Time) : Option (Fin 3 × Time) → List Byte
  | none => zeroBytes 3
  | some (_, since) =>
    let age := now - since
    if age.toInt < 0 then bytesOf 2 (Config.negativePictureAge age).toNat ++ bytesOf 1 1
    else bytesOf 2 (min (age.toNat / 1000) 65535) ++ bytesOf 1 1

/-- A signal's 8 bytes (11.5). -/
def signalBytes (r : SignalRecord) : List Byte :=
  bytesOfInt 4 r.value ++ bytesOf 1 (signalStateNumber r.state) ++ zeroBytes 3

/-- A slot of a view stack: slot tag, view tag, pinned, reserved (11.5, R188). -/
def slotBytes : Option View → List Byte
  | none => zeroBytes 4
  | some v =>
    [match v.owner with
      | .system => 1
      | .camera => 2, v.tag, BitVec.ofNat 8 (boolNumber v.pinned), 0]

/-- A system layer's 16 bytes (11.5, R188). -/
def layerBytes (v : LayerState) : List Byte :=
  (match v.current with
    | none => bytesOf 1 0xFF ++ zeroBytes 3 ++ bytesOf 4 0
    | some (e, _) => bytesOf 1 e.region ++ zeroBytes 3 ++ bytesOf 4 e.offset)
    ++ bytesOf 4 v.releasedShown.toNat ++ bytesOf 4 v.dropped.toNat

/-- A display's 64 bytes (11.5): the top index is 0xFF for none. -/
def displayBytes (x : DisplayState) : List Byte :=
  slotBytes x.stack[0]? ++ slotBytes x.stack[1]? ++ slotBytes x.stack[2]? ++ slotBytes x.stack[3]?
    ++ bytesOf 1 (if x.stack = [] then 0xFF else x.stack.length - 1) ++ zeroBytes 7
    ++ layerBytes x.video ++ layerBytes x.menu ++ zeroBytes 8

/-- The fault bytes, 0x058 to 0x07B (11.5). -/
def faultBytes (rw : ReportWriter) : List Byte :=
  bytesOf 2 (bitSet (rw.faults.toList.map FaultRecord.flag)) ++ bytesOf 2 (bitSet (rw.faults.toList.map FaultRecord.masked))
    ++ (rw.faults.toList.map fun f => bytesOf 2 f.counter).flatten

/-- The last store completion, 0x07E to 0x081 (11.5, R188). -/
def lastCompletionBytes (st : Store) : List Byte :=
  bytesOf 1 st.lastKind ++ bytesOf 1 (codeNumber st.lastCode) ++ bytesOf 2 st.lastTag

/-- The store bytes, 0x07C to 0x0BF (11.5). -/
def storeBytes (st : Store) : List Byte :=
  bytesOf 1 (storeStateNumber st.state) ++ bytesOf 1 st.queue.length ++ lastCompletionBytes st ++ zeroBytes 2
    ++ (st.table.toList.map fun b => BitVec.ofNat 8 (blockStatusNumber b)) ++ zeroBytes 28

/-- The snapshot: every byte of the status block from 0x024 to 0xFFF (R34, R188). -/
def State.snapshot (s : State) : List Byte :=
  bytesOf 4 s.taker.consumer ++ bytesOf 4 s.rw.producer ++ bytesOf 4 s.time.toNat
    ++ bytesOf 1 (startupNumber s.startup.state) ++ bytesOf 1 (reverseNumber s.reverse.state)
    ++ bytesOf 1 (alignNumber s.camera.align) ++ bytesOf 1 s.camera.gain ++ pictureAgeBytes s.time s.camera.newest
    ++ bytesOf 1 (guideFlagsNumber s.guide.flags)
    ++ signalBytes s.vehicle.records.reverse ++ signalBytes s.vehicle.records.steering
    ++ signalBytes s.vehicle.records.speed ++ signalBytes s.vehicle.records.parkDistance
    ++ faultBytes s.rw ++ storeBytes s.store
    ++ displayBytes s.displays.front ++ displayBytes s.displays.rearLeft ++ displayBytes s.displays.rearRight
    ++ bytesOf 4 s.audio.streams.front.consumer ++ bytesOf 4 s.audio.streams.rearLeft.consumer
    ++ bytesOf 4 s.audio.streams.rearRight.consumer ++ zeroBytes 3700

/-- Present a run of bytes as block-sized writes: the snapshot goes out in ascending order, in the fewest pieces (DESIGN CHOICE,
log 43; R34 orders only the two counts about it). -/
def State.presentAll (s : State) (addr : Nat) (bytes : List Byte) (bringUp : Bool) : State :=
  (blockWrites addr bytes).foldl (fun acc p => acc.present p.1 p.2 bringUp) s

/-- A full rewrite (R34): the update count made odd, the snapshot, the update count made even. -/
def State.fullRewrite (s : State) (bringUp : Bool) : State :=
  match s.roles with
  | none => s
  | some r =>
    let shot := s.snapshot
    let s1 := s.present (r.statusBlock + 0x020) (bytesOf 4 (s.rw.updateCount + 1).toNat) bringUp
    let s2 := s1.presentAll (r.statusBlock + 0x024) shot bringUp
    let s3 := s2.present (r.statusBlock + 0x020) (bytesOf 4 (s.rw.updateCount + 2).toNat) bringUp
    { s3 with rw.updateCount := s.rw.updateCount + 2 }

/-- Write the identity record (R35). -/
def State.writeIdentity (s : State) : State :=
  match s.roles with
  | none => s
  | some r => s.present r.statusBlock identityRecord true

end Sys2Proof.Machine
end

