-- ==== Sys2Proof/Machine/ScanOut.lean ====
section
/-! DEFINITION. Display timing and scan-out (chapter 9, 9.3 and 9.6): the frame boundary, row fetches, late pixels. -/

namespace Sys2Proof.Machine

/-! ### Row fetches (R164) -/

/-- Fetches of a run of source bytes for a layer's part of a row, one per 64-byte block, in ascending order (DESIGN CHOICE,
log 43). -/
def rowFetches (l : ScanLayer) (frameNo row addr len : Nat) : List ScanFetch :=
  (blockPieces len addr len).map fun p => { layer := l, frameNo := frameNo, row := row, addr := p.1, len := p.2 }

/-- The source data a system layer needs in a row: the source row's pixels (R157, R164, log 33), luma before chroma (DESIGN
CHOICE, log 44). -/
def Scan.layerFetches (sc : Scan) (d : Display) (l : ScanLayer) (row : Nat) : Contribution → List ScanFetch
  | .nothing => []
  | .fill _ => []
  | .frame v base =>
    if v.coversRow row = true ∧ v.x < d.columns then
      let sy := v.sourceRow row
      match v.format with
      | .argb8888 => rowFetches l sc.frameNo row (v.rowBase base sy) (4 * v.sourceWidth)
      | .nv12 =>
        rowFetches l sc.frameNo row (v.rowBase base sy) v.sourceWidth
          ++ rowFetches l sc.frameNo row (v.chromaBase base sy) v.sourceWidth
    else []

/-- The fetches of a row of the frame being scanned (R164), video before menu (DESIGN CHOICE, log 44). -/
def Scan.fetchesOf (sc : Scan) (d : Display) (row : Nat) : List ScanFetch :=
  match sc.view with
  | none => []
  | some v =>
    match v.owner with
    | .system =>
      (if v.video then sc.layerFetches d .video row sc.video else [])
        ++ (if v.menu then sc.layerFetches d .menu row sc.menu else [])
    | .camera =>
      match sc.camera with
      | .absent => []
      | .fallback => []
      | .fresh base _ => rowFetches .camera sc.frameNo row (base + 2560 * row) 2560

/-- Present the fetches of a row, where the display has that row. -/
def Scan.presentRow (sc : Scan) (d : Display) (row : Nat) : Scan :=
  if row < d.rows then { sc with queue := sc.queue ++ sc.fetchesOf d row } else sc

/-- Change a display's scan-out. -/
def State.updateScan (s : State) (d : Display) (f : Scan → Scan) : State :=
  s.updateDisplay d fun x => { x with scan := f x.scan }

/-- The row being sent ends: its pixels as they were sent (log 21). -/
def State.finishRow (s : State) (d : Display) : State :=
  match (s.displays.get d).scan.row with
  | none => s
  | some row => s.updateScan d fun sc => { sc with sent := some { row := row, pixels := s.rowPixels d row } }

/-- The row that follows the one being sent. -/
def Scan.nextRow (sc : Scan) : Nat :=
  match sc.row with
  | none => 0
  | some r => r + 1

/-- The next active row begins, and the fetches of the row after it are presented (R164), also for the rest of a frame in which a
system restart has been taken (R165; DESIGN CHOICE, log 47). R164 gives only the interval in which the fetches are presented; the
model presents all of row r + 1 as row r begins (DESIGN CHOICE, log 51). -/
def Scan.beginRow (sc : Scan) (d : Display) : Scan :=
  let row := sc.nextRow
  ({ sc with row := some row, late := [], data := sc.data.filter fun x => decide (row ≤ x.row) }).presentRow d (row + 1)

/-- ACTIVE_ROW_FETCH: no effect before a display's first frame, or after its last row (R155, R164, log 1). -/
def execActiveRowFetch (d : Display) (s : State) : Host.Outcome State Fault Refusal :=
  let sc := (s.displays.get d).scan
  if 0 < sc.frameNo ∧ sc.nextRow < d.rows then .next ((s.finishRow d).updateScan d fun x => x.beginRow d) else .next s

/-- Data granted to scan-out enters the row it was fetched for; data of a past row or frame is dropped (R164), its fetch having
stayed queued until its grant (DESIGN CHOICE, log 55). -/
def Scan.accept (sc : Scan) (f : ScanFetch) (bytes : List Byte) : Scan :=
  if f.frameNo = sc.frameNo ∧ sc.nextRow ≤ f.row + 1 then
    { sc with data := sc.data ++ [{ layer := f.layer, row := f.row, addr := f.addr, bytes := bytes }] }
  else sc

/-! ### Late pixels (R164) -/

/-- The layer draws source data at a pixel and that data has not been granted. -/
def Scan.missing (sc : Scan) (l : ScanLayer) (col row : Nat) : Bool :=
  let ofLayer := fun (c : Contribution) =>
    match c with
    | .nothing => false
    | .fill _ => false
    | .frame v base => v.coversPixel col row && (sc.framePixel l v base col row).isNone
  match l, sc.view.map View.owner with
  | .video, some .system => (sc.view.map View.video).getD false && ofLayer sc.video
  | .menu, some .system => (sc.view.map View.menu).getD false && ofLayer sc.menu
  | .camera, some .camera =>
    match sc.camera with
    | .absent => false
    | .fallback => false
    | .fresh base gain => (sc.cameraPixel base gain col row).isNone
  | _, _ => false

/-- LATE_PIXEL: no effect unless a row is being sent, the layer draws source data there that has not been granted, and the
layer is not late in that row already (R164, log 1). A pixel that is not on the display does not arrive (log 34). -/
def execLatePixel (d : Display) (l : ScanLayer) (col : Nat) (s : State) : Host.Outcome State Fault Refusal :=
  if col < d.columns ∧ (l = .camera → d = .front) then
    let sc := (s.displays.get d).scan
    match sc.row with
    | none => .next s
    | some row =>
      if sc.missing l col row = true ∧ (sc.late.any fun x => x.1 == l) = false then
        .next ((s.updateScan d fun x => { x with late := x.late ++ [(l, col)] }).raise .scanoutUnderrun
          (displayLayerDetail d l))
      else .next s
  else .fault .cannotArrive

/-! ### The frame boundary (R155) -/

/-- The camera receiver's displaying record after a FRONT boundary that composes `view` (R80). -/
def Camera.show (c : Camera) (view : Option View) : Camera :=
  { c with
    displaying := match view.map View.owner with
      | some .camera => c.newest.map Prod.fst
      | _ => none }

/-- The picture is at most 100,000 µs old, by the signed difference (R81, R161). -/
def pictureFresh (now : Time) : Option (Fin 3 × Time) → Bool
  | none => false
  | some (_, since) => decide ((now - since).toInt ≤ 100000)

/-- The camera part of the FRONT frame (R161, R163). -/
def State.cameraSceneNow (s : State) (view : Option View) : CameraScene :=
  match view.map View.owner with
  | some .camera =>
    match s.camera.displaying, s.cameraArea with
    | some k, some area =>
      if pictureFresh s.time s.camera.newest then
        .fresh (area + k.val * Config.captureBufferSize) s.compositor.appliedGain
      else .fallback
    | _, _ => .fallback
  | _ => .absent

/-- The fallback-shown flag and CAMERA_LOST (R163). -/
def State.fallbackWatch (s : State) (scene : CameraScene) : State :=
  match scene with
  | .fallback =>
    if s.compositor.fallbackShown then s else { s with compositor.fallbackShown := true }.raise .cameraLost 0
  | .absent => { s with compositor.fallbackShown := false }
  | .fresh _ _ => { s with compositor.fallbackShown := false }

/-- The layers of a display apply their staged records and then select (R139, R151, log 22), video before menu (DESIGN CHOICE,
log 40). -/
def State.boundaryLayers (s : State) (d : Display) : State :=
  ((((s.applyStaged d .video).applyStaged d .menu).selectFrame d .video).selectFrame d .menu)

/-- The display takes the frame that the boundary begins: view, contributions, camera scene; row 0 is fetched during the
vertical blanking (R135, R155, R164), its fetches being presented at the boundary itself (DESIGN CHOICE, log 51). -/
def State.beginFrame (s : State) (d : Display) (badVideo badMenu : Bool) (scene : CameraScene) : State :=
  let video := s.contribution d .video badVideo
  let menu := s.contribution d .menu badMenu
  let view := topView (s.stack d)
  s.updateScan d fun sc =>
    ({ sc with
      frameNo := sc.frameNo + 1, view := view, video := video, menu := menu, camera := scene, row := none, late := []
      data := [] } : Scan).presentRow d 0

/-- What a FRONT boundary does before its frame begins (R34, R80, R87, R116, R163). The fallback check is part of it, so CAMERA_LOST
shows in the snapshot of its own boundary (DESIGN CHOICE, log 22). -/
def State.frontWork (s : State) (view : Option View) : State :=
  let s1 := { s with camera := s.camera.show view, compositor.appliedGain := s.camera.gain }
  let s2 := s1.fallbackWatch (s1.cameraSceneNow view)
  { s2 with guide := s2.guide.handover }

/-- A build begins at a FRONT boundary that composes a CAMERA view, in NORMAL (R117, R127). -/
def State.boundaryBuild (s : State) (view : Option View) : State :=
  match view.map View.owner, s.guide.config, s.startup.state with
  | some .camera, some _, .normal => { s with guide := s.guide.startBuild }
  | _, _, _ => s

/-- A frame boundary of a display (R34, R155). `bringUp` marks the first full rewrite. At a FRONT boundary CAMERA_LOST (R163) is
raised after both layers have applied and selected, so after their RELEASED reports and LAYER_STARVED, which no rule orders
against it (DESIGN CHOICE, log 22). -/
def State.boundary (s : State) (d : Display) (bringUp : Bool) : State :=
  let s0 := s.finishRow d
  let badVideo := s0.badFrame d .video
  let badMenu := s0.badFrame d .menu
  let s1 := (s0.updateDisplay d fun x => { x with nextBoundary := later x.nextBoundary Config.framePeriod }).boundaryLayers d
  let view := topView (s1.stack d)
  match d with
  | .front =>
    let s2 := s1.frontWork view
    let s3 := (s2.fullRewrite bringUp).boundaryBuild view
    s3.beginFrame d badVideo badMenu (s3.cameraSceneNow view)
  | .rearLeft => s1.beginFrame d badVideo badMenu .absent
  | .rearRight => s1.beginFrame d badVideo badMenu .absent

/-- DISPLAY_FRAME_BOUNDARY: no effect before the close of the load, or before its time has come (R155, logs 1 and 19). -/
def execDisplayFrameBoundary (d : Display) (s : State) : Host.Outcome State Fault Refusal :=
  if s.startup.state ≠ .loading ∧ reached s.time (s.displays.get d).nextBoundary = true then
    .next (s.boundary d false)
  else .next s

end Sys2Proof.Machine
end

