-- ==== Sys2Proof/Machine/Grant.lean ====
section
/-! DEFINITION. The memory arbiter (chapter 1, 1.4): which client a grant goes to, and what the granted access does. -/

namespace Sys2Proof.Machine

/-- The clients of the arbiter. -/
inductive Client where
  | frontScan | camera | rearLeftScan | rearRightScan | audio | report | link | store
  deriving DecidableEq, Repr

/-- Class of a client (1.4). -/
def Client.cls : Client → ArbClass
  | .frontScan => .a
  | .camera => .a
  | .rearLeftScan => .b
  | .rearRightScan => .b
  | .audio => .b
  | .report => .b
  | .link => .c
  | .store => .d

/-- The clients of class A, in round-robin order (1.4). -/
def clientsA : List Client := [.frontScan, .camera]

/-- The clients of class B, in round-robin order (1.4). -/
def clientsB : List Client := [.rearLeftScan, .rearRightScan, .audio, .report]

/-- A client has presented an access that has not been granted. A suspended store operation has stopped where it is (R49), so
none of its accesses is presented until it resumes (log 41). -/
def State.waits (s : State) : Client → Bool
  | .frontScan => !s.displays.front.scan.queue.isEmpty
  | .camera => !s.camera.queue.isEmpty
  | .rearLeftScan => !s.displays.rearLeft.scan.queue.isEmpty
  | .rearRightScan => !s.displays.rearRight.scan.queue.isEmpty
  | .audio => !s.audio.fetchQueue.isEmpty
  | .report => !s.rw.queue.isEmpty
  | .link => !s.link.path.isEmpty
  | .store => !s.store.transfers.isEmpty && !s.store.suspended

/-- The first waiting client at or after a round-robin position (R16). -/
def firstFrom (clients : List Client) (pos : Nat) (waits : Client → Bool) : Option Client :=
  (clients.drop pos ++ clients.take pos).find? waits

/-- The position of the client after the one granted (R16). -/
def positionAfter (clients : List Client) (c : Client) : Nat := (clients.idxOf c + 1) % clients.length

/-- All three grants in the link-share window went to A or B (R17). -/
def windowFull (window : List ArbClass) : Bool :=
  decide (window.length = 3) && window.all fun k => k == .a || k == .b

/-- The client by priority: A above B above C above D (R16). -/
def byPriority (arb : Arbiter) (waits : Client → Bool) : Option Client :=
  match firstFrom clientsA arb.posA waits with
  | some c => some c
  | none =>
    match firstFrom clientsB arb.posB waits with
    | some c => some c
    | none => if waits .link then some .link else if waits .store then some .store else none

/-- The client that the next grant goes to (R16, R17); none where no client waits. -/
def chooseClient (arb : Arbiter) (waits : Client → Bool) : Option Client :=
  if waits .store = true ∧ arb.storeGap = 63 then some .store
  else if waits .link = true ∧ windowFull arb.window = true then some .link
  else byPriority arb waits

/-- The link-share window after a grant: the last three classes (R17). -/
def slideWindow (window : List ArbClass) (k : ArbClass) : List ArbClass :=
  if window.length < 3 then window ++ [k] else window.drop 1 ++ [k]

/-- The arbiter's records after a grant (R16, R17). -/
def Arbiter.granted (arb : Arbiter) (c : Client) : Arbiter :=
  { window := slideWindow arb.window c.cls
    storeGap := match c with
      | .store => 0
      | .frontScan | .camera | .rearLeftScan | .rearRightScan | .audio | .report | .link => min (arb.storeGap + 1) 63
    posA := match c.cls with
      | .a => positionAfter clientsA c
      | .b | .c | .d => arb.posA
    posB := match c.cls with
      | .b => positionAfter clientsB c
      | .a | .c | .d => arb.posB }

/-! ### What a granted access does -/

/-- A device write reaches DRAM. -/
def State.deviceWrite (s : State) (w : DeviceWrite) : State := { s with dram := s.dram.writeBytes w.addr w.bytes }

/-- A scan-out fetch is granted (R164). -/
def State.grantScan (s : State) (d : Display) : State :=
  match (s.displays.get d).scan.queue with
  | [] => s
  | f :: rest =>
    let bytes := s.dram.readBytes f.addr f.len
    s.updateScan d fun sc => { sc with queue := rest }.accept f bytes

/-- A capture write is granted (R77). -/
def State.grantCamera (s : State) : State :=
  match s.camera.queue with
  | [] => s
  | w :: rest => { s with camera.queue := rest }.deviceWrite w

/-- A write of the report writer is granted (R26, R34). -/
def State.grantReport (s : State) : State :=
  match s.rw.queue with
  | [] => s
  | w :: rest => { s with rw.queue := rest }.deviceWrite w

/-- Stereo frames from ring bytes: left, then right, each little-endian (R169). -/
def framesOf : List Byte → List Stereo
  | a :: b :: c :: d :: rest => { left := b ++ a, right := d ++ c } :: framesOf rest
  | _ => []

/-- An audio fetch is granted (R168, R169): the frames still wanted enter the buffer. -/
def State.grantAudio (s : State) : State :=
  match s.audio.fetchQueue with
  | [] => s
  | f :: rest =>
    let frames := (framesOf (s.dram.readBytes f.addr (4 * f.count))).take f.keep
    ({ s with audio.fetchQueue := rest }.updateStream f.stream fun x => { x with buffer := x.buffer ++ frames }).refill
      f.stream

/-- Give the first unanswered read of the response list its data (R5). -/
def answerFirst (data : List Byte) : List AwaitedRead → List AwaitedRead
  | [] => []
  | r :: rest =>
    match r.answer with
    | none => { r with answer := some data } :: rest
    | some _ => r :: answerFirst data rest

/-- An access of the link path is granted (R5, R7, R21, R168). -/
def State.grantLink (s : State) : State :=
  match s.link.path with
  | [] => s
  | .read addr len live :: rest =>
    let s1 := { s with link.path := rest }
    if live then
      let answered := answerFirst (s.dram.readBytes addr len) s.link.responses
      { s1 with link := { s1.link with responses := answered }.sendReady }
    else s1
  | .write addr lanes media :: rest =>
    media.foldl (fun acc m => acc.applyProducer m.1 m.2)
      { s with link.path := rest, dram := s.dram.writeLanes addr lanes }
  | .record addr live :: rest =>
    if live then { s with link.path := rest, taker.fetch := .arrived (s.dram.readBytes addr 32) }
    else { s with link.path := rest }

/-- A store transfer is granted (R42, R44). -/
def State.grantStore (s : State) : State :=
  match s.store.transfers with
  | [] => s
  | .write addr bytes :: rest => { s with store.transfers := rest, dram := s.dram.writeBytes addr bytes }
  | .source addr len :: rest =>
    let s1 := { s with store.transfers := rest }
    { s1 with store := s1.store.takeSource (s.dram.readBytes addr len) s.time }

/-- The granted client's access is made. -/
def State.grantTo (s : State) : Client → State
  | .frontScan => s.grantScan .front
  | .camera => s.grantCamera
  | .rearLeftScan => s.grantScan .rearLeft
  | .rearRightScan => s.grantScan .rearRight
  | .audio => s.grantAudio
  | .report => s.grantReport
  | .link => s.grantLink
  | .store => s.grantStore

/-- DRAM_GRANT (R16, R17): no effect while no client waits. A transaction held by flow control is taken where the grant made
room for it (R3, R62). -/
def execDramGrant (s : State) : Host.Outcome State Fault Refusal :=
  match chooseClient s.arb s.waits with
  | none => .next s
  | some c => .next ({ s with arb := s.arb.granted c }.grantTo c).drain

end Sys2Proof.Machine
end

