-- ==== Sys2Proof/Machine/Restart.lean ====
section
/-! DEFINITION. System restart (chapter 4, 4.5), and the loss of link that triggers one. -/

namespace Sys2Proof.Machine

/-- A waiting record fetch is discarded when its data arrives (R36). -/
def LinkAccess.dropRecord : LinkAccess → LinkAccess
  | .read addr len live => .read addr len live
  | .write addr lanes media => .write addr lanes media
  | .record addr _ => .record addr false

/-- A waiting read is discarded when its data arrives (R2). -/
def LinkAccess.dropRead : LinkAccess → LinkAccess
  | .read addr len _ => .read addr len false
  | .write addr lanes media => .write addr lanes media
  | .record addr live => .record addr live

/-- The request taker and the report writer restart, and the ring index words are rewritten with 0 at once (R25, R36), 0x024 before
0x028 (DESIGN CHOICE, log 12). -/
def State.restartRings (s : State) : State :=
  (({ s with
      rw := s.rw.restart, taker := .reset
      link.path := s.link.path.map LinkAccess.dropRecord }.statusNow 0x024 (bytesOf 4 0)).statusNow 0x028 (bytesOf 4 0))

/-- The three streams stop, and their indices become 0 (R185). -/
def State.restartStreams (s : State) : State :=
  allDisplays.foldl
    (fun acc d => (acc.stopStream d).updateStream d fun x => { x with consumer := 0, held := 0, producer := 0 }) s

/-- Every display's stack, layers and change hold after a restart (R146, R147, R165). -/
def State.restartDisplays (s : State) : State :=
  { s with
    displays :=
      { front := s.displays.front.restart s.time, rearLeft := s.displays.rearLeft.restart s.time
        rearRight := s.displays.rearRight.restart s.time } }

/-- MANUAL becomes OFF (R105); its report comes later. -/
def Reverse.restart (r : Reverse) : Reverse :=
  match r.state with
  | .manual => { r with state := .off }
  | .off | .engaged | .holdOff => r

/-- A system restart, all but the reports that follow it (R19, R25, R36, R63, R105, R146, R147, R165, R185; log 12).
The pairs then start their next chimes in pair order (log 49). -/
def State.systemRestart (s : State) : State :=
  let s1 := s.restartRings.restartStreams
  let s2 := { s1 with regions := restartRegions s1.regions }.restartDisplays
  (allDisplays.foldl State.dropSystemChimes { s2 with reverse := s2.reverse.restart }).settle

/-- The REVERSE report of a restart that ended MANUAL (R105). -/
def State.tellReverse (s : State) (before : ReverseState) : State := if before = .manual then s.post (.reverse .off) else s

/-- LOSS_OF_LINK (R2, R63, R64): no effect while the link is DOWN (log 1). -/
def execLossOfLink (s : State) : Host.Outcome State Fault Refusal :=
  if s.link.up then
    .next ({ s with
        link := { s.link with
          up := false, responses := [], held := [], path := s.link.path.map LinkAccess.dropRead } }.systemRestart.tellReverse
      s.reverse.state)
  else .next s

end Sys2Proof.Machine
end

