-- ==== Sys2Proof/Machine/Requests.lean ====
section
/-! DEFINITION. Taking a request (chapter 2, 2.1), and the request kinds: each owner's checks and effect. -/

namespace Sys2Proof.Machine

/-! ### Taking a record (R21, R23, R24) -/

/-- How an owner ends a request (R24). -/
inductive Ending where
  | refused (code : Code)
  | done
  | doneWithId (ident : Nat)
  | queued
  deriving DecidableEq, Repr

/-- A kind that SERVICE takes (R23). -/
def serviceKind (kind : Nat) : Bool := decide (16 ≤ kind ∧ kind ≤ 22)

/-- The common checks (R23): the code that refuses the record, or none. -/
def State.commonCheck (s : State) (rec : List Byte) : Option Code :=
  if reqKind rec = 0 ∨ 22 < reqKind rec then some .badKind
  else if reqReserved rec ≠ 0 ∨ 1 < reqWanted rec then some .badField
  else if s.startup.state = .service ∧ serviceKind (reqKind rec) = false then some .serviceMode
  else none

/-- Post the report that an ending calls for (R24). -/
def State.endRequest (s : State) (rec : List Byte) : Ending → State
  | .refused code => s.post (.refused (reqTag rec) code (reqKind rec))
  | .done => if reqWanted rec = 1 then s.post (.done (reqTag rec) .ok 0) else s
  | .doneWithId ident => s.post (.done (reqTag rec) .ok ident)
  | .queued => s

/-- The taker moves on (R21, R22): the consumer index advances and is written into the status block at once, and the next record
is fetched where one is pending. The count is that after the advance, also where the producer copy was equal to the consumer
index before it (DESIGN CHOICE, log 56). -/
def State.advanceTaker (s : State) : State :=
  let next := (s.taker.consumer + 1) % 256
  ({ s with taker.consumer := next, taker.fetch := .idle }.statusNow 0x024 (bytesOf 4 next)).startFetch

/-- What an owner does with a record that has passed the common checks. -/
abbrev OwnerAct := List Byte → State → State × Ending

/-- Take a record whole: the common checks, the owner, the report, and on to the next (R21, R23, R24). -/
def State.takeRecord (s : State) (rec : List Byte) (owner : OwnerAct) : State :=
  match s.commonCheck rec with
  | some code => (s.endRequest rec (.refused code)).advanceTaker
  | none => ((owner rec s).1.endRequest rec (owner rec s).2).advanceTaker

/-- The record that has arrived at the taker, where it is of this kind. -/
def State.arrivedOf (s : State) (kind : Nat) : Option (List Byte) :=
  match s.taker.fetch with
  | .arrived rec => if reqKind rec = kind then some rec else none
  | .idle => none
  | .inFlight => none

/-- Take the record that has arrived, where it is of this kind; with none there is no effect (logs 1 and 6). -/
def State.takeKind (s : State) (kind : Nat) (owner : OwnerAct) : State :=
  match s.arrivedOf kind with
  | none => s
  | some rec => s.takeRecord rec owner

/-- UNKNOWN_REQUEST_KIND (R23): the record that has arrived names no request kind. -/
def execUnknownRequestKind (s : State) : Host.Outcome State Fault Refusal :=
  match s.taker.fetch with
  | .arrived rec =>
    if reqKind rec = 0 ∨ 22 < reqKind rec then .next (s.takeRecord rec fun _ t => (t, .refused .badKind)) else .next s
  | .idle => .next s
  | .inFlight => .next s

/-! ### Presentation and layers (R136 to R141, R148 to R150) -/

/-- PUBLISH (R148 to R150). -/
def ownPublish : OwnerAct := fun rec s =>
  match checkPublish s rec with
  | .error code => (s, .refused code)
  | .ok (d, l, e) =>
    match s.publish d l e with
    | (s1, none) => (s1, .done)
    | (s1, some code) => (s1, .refused code)

def execPublish (s : State) : Host.Outcome State Fault Refusal := .next (s.takeKind 1 ownPublish)

/-- SET_LAYER (R136 to R138): the setting replaces the layer's staged record. -/
def ownSetLayer : OwnerAct := fun rec s =>
  match checkSetLayer rec with
  | none => (s, .refused .badField)
  | some (d, l, v) => (s.setLayer d l { s.layer d l with staged := some v }, .done)

def execSetLayer (s : State) : Host.Outcome State Fault Refusal := .next (s.takeKind 2 ownSetLayer)

/-- Set or clear a display's change hold (R140, R141). -/
def ownHold (held : Bool) : OwnerAct := fun rec s =>
  match checkPair rec [6] with
  | none => (s, .refused .badField)
  | some d => (s.updateDisplay d fun x => { x with hold := held }, .done)

/-- HOLD_CHANGES (R140). -/
def execHoldChanges (s : State) : Host.Outcome State Fault Refusal := .next (s.takeKind 3 (ownHold true))

/-- RELEASE_CHANGES (R141). -/
def execReleaseChanges (s : State) : Host.Outcome State Fault Refusal := .next (s.takeKind 4 (ownHold false))

/-! ### Views (R129 to R134) and the camera view (R102, R103) -/

/-- The SYSTEM view that a PUSH_VIEW makes, and its display (R129). -/
def checkPushView (rec : List Byte) : Option (Display × View) :=
  match displayField (byteAt rec 6) with
  | none => none
  | some d =>
    if 3 < byteAt rec 7 ∨ reservedClear rec [6, 7, 8, 12, 13, 14, 15] = false then none
    else
      some (d,
        { owner := .system, tag := BitVec.ofNat 8 (byteAt rec 8), video := (byteAt rec 7).testBit 0
          menu := (byteAt rec 7).testBit 1, background := BitVec.ofNat 32 (fieldAt rec 12 4), pinned := false })

/-- Place a view under the rules of a SYSTEM push (R131, R132): true where it landed. -/
def State.pushView (s : State) (d : Display) (v : View) : State × Bool :=
  if stackFull (s.stack d) then
    let s1 := s.raise .viewOverflow (displayNumber d)
    if s.isMasked .viewOverflow then (s1.setStack d (placeSystem (dropBottomSystem (s1.stack d)) v), true)
    else (s1, false)
  else (s.setStack d (placeSystem (s.stack d) v), true)

/-- PUSH_VIEW (R129, R131, R132). -/
def ownPushView : OwnerAct := fun rec s =>
  match checkPushView rec with
  | none => (s, .refused .badField)
  | some (d, v) =>
    match s.pushView d v with
    | (s1, true) => (s1, .done)
    | (s1, false) => (s1, .refused .viewOverflow)

def execPushView (s : State) : Host.Outcome State Fault Refusal := .next (s.takeKind 5 ownPushView)

/-- A POP_VIEW that passes its checks (R133, R134). -/
def State.popView (s : State) (d : Display) : State × Ending :=
  match topView (s.stack d) with
  | none =>
    let s1 := s.raise .viewUnderflow (displayNumber d)
    if s.isMasked .viewUnderflow then (s1, .done) else (s1, .refused .viewUnderflow)
  | some v =>
    match v.owner, v.pinned with
    | .system, _ => (s.setStack d (s.stack d).dropLast, .done)
    | .camera, true => (s, .refused .viewPinned)
    | .camera, false => (s.cameraOff, .done)

/-- POP_VIEW (R133, R134). -/
def ownPopView : OwnerAct := fun rec s =>
  match checkPair rec [6] with
  | none => (s, .refused .badField)
  | some d => s.popView d

def execPopView (s : State) : Host.Outcome State Fault Refusal := .next (s.takeKind 6 ownPopView)

/-- SHOW_CAMERA (R102). -/
def ownShowCamera : OwnerAct := fun rec s =>
  if reservedClear rec [8] = false then (s, .refused .badField)
  else
    match s.reverse.state with
    | .off =>
      match s.pushView .front (cameraViewOf (BitVec.ofNat 8 (byteAt rec 8)) false) with
      | (s1, true) => (s1.toReverse .manual, .done)
      | (s1, false) => (s1, .refused .viewOverflow)
    | .engaged => (s, .done)
    | .holdOff => (s, .done)
    | .manual => (s, .done)

def execShowCamera (s : State) : Host.Outcome State Fault Refusal := .next (s.takeKind 7 ownShowCamera)

/-- CLOSE_CAMERA (R103). -/
def ownCloseCamera : OwnerAct := fun rec s =>
  if reservedClear rec [] = false then (s, .refused .badField)
  else
    match s.reverse.state with
    | .manual => (s.cameraOff, .done)
    | .engaged => (s, .refused .viewPinned)
    | .holdOff => (s, .refused .viewPinned)
    | .off => (s, .done)

def execCloseCamera (s : State) : Host.Outcome State Fault Refusal := .next (s.takeKind 8 ownCloseCamera)

/-! ### Regions (R9, R10) -/

/-- The checks of DEFINE_REGION (R9): base, size and kind, or the code that refuses it. The reserved parameter bytes are checked
with order 1 (DESIGN CHOICE, log 26). -/
def checkDefineRegion (s : State) (rec : List Byte) : Except Code (Nat × Nat × RegionKind) :=
  let base := fieldAt rec 8 4
  let size := fieldAt rec 12 4
  match regionKindField (byteAt rec 6) with
  | none => .error .badField
  | some kind =>
    if regionShapeOk base size = false ∨ (kind ≠ .frame ∧ kind ≠ .audioRing ∧ kind ≠ .requestRing) ∨
        reservedClear rec [6, 8, 9, 10, 11, 12, 13, 14, 15] = false then .error .badField
    else if Config.dramSize < base + size then .error .badAddress
    else if s.regions.any fun r => rangesMeet base size r.base r.size then .error .regionOverlap
    else if 64 ≤ s.regions.length then .error .regionTableFull
    else .ok (base, size, kind)

/-- DEFINE_REGION (R9). -/
def ownDefineRegion : OwnerAct := fun rec s =>
  match checkDefineRegion s rec with
  | .error code => (s, .refused code)
  | .ok (base, size, kind) =>
    let ident := lowestFreeId s.regions
    ({ s with
      regions := s.regions ++
        [{ ident := ident, base := base, size := size, kind := kind, origin := .dynamic, hold := 0, stream := none }] },
      .doneWithId ident)

def execDefineRegion (s : State) : Host.Outcome State Fault Refusal := .next (s.takeKind 9 ownDefineRegion)

/-- The region is in use (R10). -/
def Region.busy (r : Region) : Bool :=
  (r.kind == .frame && decide (0 < r.hold)) || (r.kind == .audioRing && r.stream.isSome)

/-- DELETE_REGION (R10). A nonzero reserved parameter byte is checked before the id (log 26). -/
def ownDeleteRegion : OwnerAct := fun rec s =>
  if reservedClear rec [6] = false then (s, .refused .badField)
  else
    match findRegion s.regions (byteAt rec 6) with
    | none => (s, .refused .noRegion)
    | some r =>
      if r.origin = .layout then (s, .refused .badField)
      else if r.busy then (s, .refused .regionBusy)
      else ({ s with regions := s.regions.filter fun x => x.ident != byteAt rec 6 }, .done)

def execDeleteRegion (s : State) : Host.Outcome State Fault Refusal := .next (s.takeKind 10 ownDeleteRegion)

/-! ### Audio (R166, R167, R174, R177) -/

/-- AUDIO_START (R166). -/
def ownAudioStart : OwnerAct := fun rec s =>
  match checkAudioStart s rec with
  | .error code => (s, .refused code)
  | .ok (d, r) => (s.startStream d r (min (byteAt rec 8) 127), .done)

def execAudioStart (s : State) : Host.Outcome State Fault Refusal := .next (s.takeKind 11 ownAudioStart)

/-- AUDIO_STOP (R167). -/
def ownAudioStop : OwnerAct := fun rec s =>
  match checkPair rec [6] with
  | none => (s, .refused .badField)
  | some d => (s.stopStream d, .done)

def execAudioStop (s : State) : Host.Outcome State Fault Refusal := .next (s.takeKind 12 ownAudioStop)

/-- AUDIO_GAIN (R167). -/
def ownAudioGain : OwnerAct := fun rec s =>
  match checkPair rec [6, 8] with
  | none => (s, .refused .badField)
  | some d =>
    if (s.audio.streams.get d).running then
      (s.updateStream d fun x => { x with setGain := min (byteAt rec 8) 127 }, .done)
    else (s, .done)

def execAudioGain (s : State) : Host.Outcome State Fault Refusal := .next (s.takeKind 13 ownAudioGain)

/-- PLAY_CHIME (R174 to R176). -/
def ownPlayChime : OwnerAct := fun rec s =>
  match checkPair rec [6, 7, 8], s.audio.clips[byteAt rec 7]? with
  | some d, some _ =>
    match s.offerAndTell d (byteAt rec 7) (min (byteAt rec 8) 3) .system with
    | (s1, true) => (s1, .done)
    | (s1, false) => (s1, .refused .queueFull)
  | _, _ => (s, .refused .badField)

def execPlayChime (s : State) : Host.Outcome State Fault Refusal := .next (s.takeKind 14 ownPlayChime)

/-- STOP_CHIMES (R177). -/
def ownStopChimes : OwnerAct := fun rec s =>
  match checkPair rec [6] with
  | none => (s, .refused .badField)
  | some d => ((s.dropSystemChimes d).settle, .done)

def execStopChimes (s : State) : Host.Outcome State Fault Refusal := .next (s.takeKind 15 ownStopChimes)

/-! ### The store (R41, R43 to R45) -/

/-- Refuse a store request, or place it (R40). -/
def State.placeOrRefuse (s : State) (rec : List Byte) (refusal : Option Code) (work : StoreWork) : State × Ending :=
  match refusal with
  | some code => (s, .refused code)
  | none => (s.placeStore { tag := reqTag rec, work := work }, .queued)

/-- STORE_READ (R44). -/
def ownStoreRead : OwnerAct := fun rec s =>
  s.placeOrRefuse rec (checkRead s rec) (.read (fieldAt rec 8 4) (fieldAt rec 12 4) (fieldAt rec 16 4))

def execStoreRead (s : State) : Host.Outcome State Fault Refusal := .next (s.takeKind 16 ownStoreRead)

/-- STORE_PROGRAM (R41). -/
def ownStoreProgram : OwnerAct := fun rec s =>
  s.placeOrRefuse rec (checkProgram s rec) (.program (fieldAt rec 8 4) (fieldAt rec 12 4) (fieldAt rec 16 4))

def execStoreProgram (s : State) : Host.Outcome State Fault Refusal := .next (s.takeKind 17 ownStoreProgram)

/-- STORE_ERASE (R43). -/
def ownStoreErase : OwnerAct := fun rec s => s.placeOrRefuse rec (checkErase s rec) (.erase (byteAt rec 6))

def execStoreErase (s : State) : Host.Outcome State Fault Refusal := .next (s.takeKind 18 ownStoreErase)

/-- STORE_LOCK_CALIBRATION (R45). -/
def ownStoreLock : OwnerAct := fun rec s => s.placeOrRefuse rec (checkLock s rec) .lock

def execStoreLockCalibration (s : State) : Host.Outcome State Fault Refusal := .next (s.takeKind 19 ownStoreLock)

/-! ### Faults (R32, R33) and SYSTEM_RESTART (R25) -/

/-- The fault set that SET_FAULT_MASK and CLEAR_FAULTS carry; none where a field refuses it (R32, R33). -/
def checkFaultSet (rec : List Byte) : Option Nat :=
  if reservedClear rec [8, 9, 10, 11] = true ∧ fieldAt rec 8 4 < 0x10000 then some (fieldAt rec 8 4) else none

/-- SET_FAULT_MASK (R32). -/
def ownSetFaultMask : OwnerAct := fun rec s =>
  match checkFaultSet rec with
  | none => (s, .refused .badField)
  | some mask => (s.setFaultMask mask, .done)

def execSetFaultMask (s : State) : Host.Outcome State Fault Refusal := .next (s.takeKind 20 ownSetFaultMask)

/-- CLEAR_FAULTS (R33). -/
def ownClearFaults : OwnerAct := fun rec s =>
  match checkFaultSet rec with
  | none => (s, .refused .badField)
  | some selection => (s.clearFaults selection, .done)

def execClearFaults (s : State) : Host.Outcome State Fault Refusal := .next (s.takeKind 21 ownClearFaults)

/-- SYSTEM_RESTART (R25, R63, R105): the consumer index is 0 after it, so the taker does not move on. A nonzero reserved
parameter byte refuses it like any record (R186, log 11). -/
def State.takeSystemRestart (s : State) (rec : List Byte) : State :=
  match s.commonCheck rec with
  | some code => (s.endRequest rec (.refused code)).advanceTaker
  | none =>
    if reservedClear rec [] = false then (s.endRequest rec (.refused .badField)).advanceTaker
    else (s.systemRestart.endRequest rec .done).tellReverse s.reverse.state

def execSystemRestart (s : State) : Host.Outcome State Fault Refusal :=
  match s.arrivedOf 22 with
  | none => .next s
  | some rec => .next (s.takeSystemRestart rec)

end Sys2Proof.Machine
end

