-- ==== Sys2Proof/Machine/Records.lean ====
section
/-! DEFINITION. Stored records: the check of R53, and the contents of the layout and the calibration record (R56, R82, R91,
R106, R112, R189; 11.6 to 11.8). -/

namespace Sys2Proof.Machine

/-! ### The stored record (R53) -/

/-- Shift a CRC-32 register right `n` times, combining 0xEDB88320 where a 1 is shifted out. -/
def crc32Shift : Nat → BitVec 32 → BitVec 32
  | 0, c => c
  | n + 1, c => crc32Shift n (if c.getLsbD 0 then (c >>> 1) ^^^ 0xEDB88320#32 else c >>> 1)

/-- Take one byte into the CRC-32 register. -/
def crc32Byte (c : BitVec 32) (b : Byte) : BitVec 32 := crc32Shift 8 (c ^^^ b.setWidth 32)

/-- The CRC-32 of a run of bytes. -/
def crc32 (bytes : List Byte) : BitVec 32 := ~~~ (bytes.foldl crc32Byte 0xFFFFFFFF#32)

/-- The record in block `block`, where it is valid (R53): the block is not INCOMPLETE, the length field lies between the
minimum and 65,536, and the CRC over every byte but the CRC field is the stored one. -/
def Store.validRecord (st : Store) (block minimum : Nat) : Option (List Byte) :=
  if st.status block = .incomplete then none
  else
    let length := fieldAt (st.bytes (block * Config.blockSize) 4) 0 4
    if length < minimum ∨ 65536 < length then none
    else
      let rec' := st.bytes (block * Config.blockSize) length
      if crc32 (rec'.take 4 ++ rec'.drop 8) = BitVec.ofNat 32 (fieldAt rec' 4 4) then some rec' else none

/-- The entries of a list within a record: `count` entries of `width` bytes from `offset` on. -/
def recordEntries (r : List Byte) (offset width count : Nat) : List (List Byte) :=
  (List.range count).map fun i => (r.drop (offset + width * i)).take width

/-- Every entry read, or none where one is not valid. -/
def allEntries {α : Type} (read : List Byte → Option α) : List (List Byte) → Option (List α)
  | [] => some []
  | e :: rest =>
    match read e, allEntries read rest with
    | some v, some vs => some (v :: vs)
    | _, _ => none

/-- Each number is below the next. -/
def strictlyAscending : List Int → Bool
  | a :: b :: rest => decide (a < b) && strictlyAscending (b :: rest)
  | [_] => true
  | [] => true

/-- Store bytes that lie wholly within blocks 2 to 31 (R56). -/
def inDataBlocks (offset length : Nat) : Bool :=
  decide (2 * Config.blockSize ≤ offset ∧ offset + length ≤ Config.storeSize)

/-! ### The layout record (R56, R189) -/

/-- What the blocks take from the layout record. -/
structure Layout where
  regions : List Region
  roles : Roles
  table : List AcceptEntry
  bands : List Band
  clips : List Clip
  source : ReverseSource
  duck : Nat
  holdOffMs : Nat
  exitSpeed : Int
  fallbackOffset : Nat
  deriving DecidableEq, Repr

/-- A region entry (R6, R189); its id is its position. -/
def readRegion (e : List Byte) : Option Region :=
  match regionKindField (byteAt e 8) with
  | none => none
  | some kind =>
    let base := fieldAt e 0 4
    let size := fieldAt e 4 4
    if fieldAt e 9 3 = 0 ∧ regionShapeOk base size = true ∧ base + size ≤ Config.dramSize then
      some { ident := 0, base := base, size := size, kind := kind, origin := .layout, hold := 0, stream := none }
    else none

/-- Give regions the ids from `n` upward (R6). -/
def numberRegions : Nat → List Region → List Region
  | _, [] => []
  | n, r :: rest => { r with ident := n } :: numberRegions (n + 1) rest

/-- No two regions overlap (R6). -/
def noneOverlap : List Region → Bool
  | [] => true
  | r :: rest => (rest.all fun q => !rangesMeet r.base r.size q.base q.size) && noneOverlap rest

/-- An acceptance entry (R91, 11.8). -/
def readAccept (e : List Byte) : Option AcceptEntry :=
  match signalField (byteAt e 2), flagField (byteAt e 5), flagField (byteAt e 6) with
  | some g, some signed, some marked =>
    let width := byteAt e 4
    if fieldAt e 0 2 ≤ 0x7FF ∧ (width = 1 ∨ width = 2) ∧ byteAt e 3 + width ≤ 8 ∧ byteAt e 7 = 0 ∧
        50 ≤ fieldAt e 10 2 ∧ fieldAt e 10 2 ≤ 2000 ∧ (marked = true → width = 1 → fieldAt e 8 2 ≤ 255) then
      some
        { ident := fieldAt e 0 2, signal := g, startByte := byteAt e 3, width := width, signed := signed
          marker := if marked then some (fieldAt e 8 2) else none, limitMs := fieldAt e 10 2 }
    else none
  | _, _, _ => none

/-- A park band entry (R106, 11.6). -/
def readBand (e : List Byte) : Option Band :=
  let ms := fieldAt e 4 2
  if fieldAt e 6 2 = 0 ∧ (ms = 0 ∨ (100 ≤ ms ∧ ms ≤ 5000)) then
    some { limit := signedOf 32 (fieldAt e 0 4), interval := if ms = 0 then none else some ms }
  else none

/-- A clip entry (R56, R171, R189): g_chime above 127 is taken as 127, and the live resident flag begins as the request. -/
def readClip (e : List Byte) : Option Clip :=
  let offset := fieldAt e 0 4
  let length := fieldAt e 4 4
  match flagField (byteAt e 8) with
  | none => none
  | some wanted =>
    if fieldAt e 10 2 = 0 ∧ length % 2 = 0 ∧ 2 ≤ length ∧ length ≤ 65536 ∧ inDataBlocks offset length = true then
      some { offset := offset, length := length, wanted := wanted, resident := wanted, gain := min (byteAt e 9) 127 }
    else none

/-- A role names a listed region of a kind and size (R56). -/
def roleIs (regions : List Region) (pos : Nat) (kind : RegionKind) (sizeOk : Nat → Bool) : Option Nat :=
  match regions[pos]? with
  | none => none
  | some r => if r.kind = kind ∧ sizeOk r.size = true then some r.base else none

/-- The five roles (R6, R56). -/
def readRoles (rec : List Byte) (regions : List Region) : Option Roles :=
  match roleIs regions (byteAt rec 0x0C) .requestRing (· == 8192), roleIs regions (byteAt rec 0x0D) .status (· == 4096),
      roleIs regions (byteAt rec 0x0E) .control (· == 4096), roleIs regions (byteAt rec 0x0F) .status (· == 4096),
      roleIs regions (byteAt rec 0x10) .locked (fun n => decide (3 * Config.captureBufferSize ≤ n)) with
  | some ring, some report, some page, some status, some camera =>
    if byteAt rec 0x0D = byteAt rec 0x0F then none
    else
      some
        { requestRing := ring, reportRing := report, controlPage := page, statusBlock := status, cameraArea := some camera }
  | _, _, _, _, _ => none

/-- The duck factor: 0xFF is taken as 16 (R189). -/
def readDuck (v : Nat) : Option Nat := if v ≤ 64 then some v else if v = 0xFF then some 16 else none

/-- The hold-off: 0xFFFF is taken as 5000 ms (R189). -/
def readHoldOff (v : Nat) : Option Nat := if v ≤ 20000 then some v else if v = 0xFFFF then some 5000 else none

/-- The counts and the length of a layout record (R189). -/
def layoutShapeOk (rec : List Byte) : Bool :=
  decide (1 ≤ byteAt rec 8 ∧ byteAt rec 8 ≤ 16 ∧ byteAt rec 9 ≤ 8 ∧ byteAt rec 10 ≤ 5 ∧ byteAt rec 11 ≤ 16 ∧
    byteAt rec 0x13 = 0 ∧ fieldAt rec 0x16 2 = 0 ∧
    rec.length = 32 + 12 * byteAt rec 8 + 12 * byteAt rec 9 + 8 * byteAt rec 10 + 12 * byteAt rec 11)

/-- What a layout record gives once its regions and roles are found valid. -/
def readLayoutRest (rec : List Byte) (regions : List Region) (roles : Roles) : Option Layout :=
  let accepts := 32 + 12 * byteAt rec 8
  let bandsAt := accepts + 12 * byteAt rec 9
  let clipsAt := bandsAt + 8 * byteAt rec 10
  match allEntries readAccept (recordEntries rec accepts 12 (byteAt rec 9)),
      allEntries readBand (recordEntries rec bandsAt 8 (byteAt rec 10)),
      allEntries readClip (recordEntries rec clipsAt 12 (byteAt rec 11)),
      sourceField (byteAt rec 0x11), readDuck (byteAt rec 0x12), readHoldOff (fieldAt rec 0x14 2) with
  | some table, some bands, some clips, some source, some duck, some holdOffMs =>
    if strictlyAscending (bands.map Band.limit) = true ∧ inDataBlocks (fieldAt rec 0x1C 4) 16448 = true then
      some
        { regions := regions, roles := roles, table := table, bands := bands, clips := clips, source := source
          duck := duck, holdOffMs := holdOffMs, exitSpeed := signedOf 32 (fieldAt rec 0x18 4)
          fallbackOffset := fieldAt rec 0x1C 4 }
    else none
  | _, _, _, _, _, _ => none

/-- The contents of a layout record that has passed R53 (R56, R189); none where it is invalid. -/
def readLayout (rec : List Byte) : Option Layout :=
  if layoutShapeOk rec then
    match allEntries readRegion (recordEntries rec 32 12 (byteAt rec 8)) with
    | none => none
    | some listed =>
      let regions := numberRegions 0 listed
      if noneOverlap regions then
        match readRoles rec regions with
        | none => none
        | some roles => readLayoutRest rec regions roles
      else none
  else none

/-! ### The calibration record (R82, R112, R189) -/

/-- What the camera receiver and the guide engine take from the calibration record. -/
structure Calibration where
  camera : CameraConfig
  guide : GuideConfig
  deriving DecidableEq, Repr

/-- The counts and the length of a calibration record (R112, R189). -/
def calibrationShapeOk (rec : List Byte) : Bool :=
  decide (2 ≤ byteAt rec 0x12 ∧ byteAt rec 0x12 ≤ 16 ∧ 1 ≤ byteAt rec 0x13 ∧ byteAt rec 0x13 ≤ 8 ∧
    rec.length = 76 + 4 * byteAt rec 0x12 + 2 * byteAt rec 0x13)

/-- The camera part (R82): the crop origin is rounded down to even when taken. -/
def readCameraConfig (rec : List Byte) : Option CameraConfig :=
  let col := fieldAt rec 0x08 2 - fieldAt rec 0x08 2 % 2
  let row := fieldAt rec 0x0A 2 - fieldAt rec 0x0A 2 % 2
  let tLo := byteAt rec 0x0D
  let tHi := byteAt rec 0x0E
  let dLo := byteAt rec 0x0F
  let dHi := byteAt rec 0x10
  match flagField (byteAt rec 0x0C) with
  | none => none
  | some mirror =>
    if col ≤ 64 ∧ row ≤ 40 ∧ 16 ≤ dLo ∧ dLo ≤ tLo ∧ tLo ≤ tHi ∧ tHi ≤ dHi ∧ dHi ≤ 235 then
      some { cropCol := col, cropRow := row, mirror := mirror, tLo := tLo, tHi := tHi, dLo := dLo, dHi := dHi }
    else none

/-- A signed 32-bit field. -/
def signedField32 (rec : List Byte) (offset : Nat) : Int := signedOf 32 (fieldAt rec offset 4)

/-- The guide engine's part (R111, R112). -/
def readGuideConfig (rec : List Byte) : Option GuideConfig :=
  let n := byteAt rec 0x12
  let curve := (recordEntries rec 76 4 n).map fun e => (signedOf 16 (fieldAt e 0 2), signedOf 16 (fieldAt e 2 2))
  let marks := (recordEntries rec (76 + 4 * n) 2 (byteAt rec 0x13)).map fun e => (fieldAt e 0 2 : Int)
  let halfWidth := fieldAt rec 0x14 2
  let overhang := fieldAt rec 0x16 2
  let b1 := fieldAt rec 0x18 2
  let b2 := fieldAt rec 0x1A 2
  let h := byteAt rec 0x11
  if strictlyAscending (curve.map Prod.fst) = true ∧ (curve.all fun p => decide (-32767 ≤ p.2)) = true ∧
      500 ≤ halfWidth ∧ halfWidth ≤ 1200 ∧ overhang ≤ 2000 ∧ strictlyAscending marks = true ∧
      (marks.all fun d => decide (100 ≤ d ∧ d ≤ 8000)) = true ∧ 100 ≤ b1 ∧ b1 ≤ b2 ∧ b2 ≤ 8000 ∧ 1 ≤ h ∧ h ≤ 8 then
    some
      { halfWidth := halfWidth, overhang := overhang, curve := curve, marks := marks, b1 := b1, b2 := b2
        homography :=
          { h11 := signedField32 rec 0x28, h12 := signedField32 rec 0x2C, h13 := signedField32 rec 0x30
            h21 := signedField32 rec 0x34, h22 := signedField32 rec 0x38, h23 := signedField32 rec 0x3C
            h31 := signedField32 rec 0x40, h32 := signedField32 rec 0x44, h33 := signedField32 rec 0x48 }
        lineHalf := h, near := BitVec.ofNat 32 (fieldAt rec 0x1C 4), mid := BitVec.ofNat 32 (fieldAt rec 0x20 4)
        far := BitVec.ofNat 32 (fieldAt rec 0x24 4) }
  else none

/-- The contents of a calibration record that has passed R53 (R57, R82, R112, R189); none where it is invalid. -/
def readCalibration (rec : List Byte) : Option Calibration :=
  if calibrationShapeOk rec then
    match readCameraConfig rec, readGuideConfig rec with
    | some camera, some guide => some { camera := camera, guide := guide }
    | _, _ => none
  else none

end Sys2Proof.Machine
end

