-- ==== Sys2Proof/Machine/StartupLoad.lean ====
section
/-! DEFINITION. Resets and the start-up load (chapter 4). -/

namespace Sys2Proof.Machine

/-! ### Power-on and pin reset (R18, R36, R51, R54, R88, R110, R128, R145, R165, R184) -/

/-- The store after a reset (R51): a program or erase in progress leaves its block INCOMPLETE, its bytes in no defined state
(log 16); the queue, the operation and any staging are gone; the stored bytes, marks and lock mark stay. -/
def Store.afterReset (st : Store) : Store :=
  let kept :=
    match st.op.bind StoreOp.target with
    | none => st
    | some b => { st.wipeBlock b (some st.interruptions) with interruptions := st.interruptions + 1 }
  { Store.delivered with
    cells := kept.cells, background := kept.background, interruptions := kept.interruptions, marks := st.marks
    lockMark := st.lockMark, table := st.marks, lockCopy := st.lockMark }

/-- The machine after a power-on reset or a pin reset: DRAM (log 18), the stored bytes and the level of the reverse pin are
kept, and so are the commands waiting; everything else is as after reset. The accesses that wait at the arbiter, of every client,
are dropped (DESIGN CHOICE, log 37). -/
def State.afterReset (s : State) : State :=
  { State.reset with
    pending := s.pending, dram := s.dram, store := s.store.afterReset, vehicle := .reset s.vehicle.pinLevel }

/-- POWER_ON_RESET (R54). -/
def execPowerOnReset (s : State) : Host.Outcome State Fault Refusal := .next s.afterReset

/-- PIN_RESET (R54). -/
def execPinReset (s : State) : Host.Outcome State Fault Refusal := .next s.afterReset

/-! ### The close of the load (R60, R61) -/

/-- Every queue's selection time and starvation flag at the close (R165). -/
def DisplayState.atClose (x : DisplayState) (now : Time) : DisplayState :=
  { x with
    video := { x.video with lastSelection := now, armed := true }
    menu := { x.menu with lastSelection := now, armed := true }
    nextBoundary := now }

/-- The start-up state takes its value (R60): SERVICE takes the four default regions, DEGRADED sets UNAVAILABLE (R127). -/
def State.enterRunning (s : State) (st : StartupState) : State :=
  let s1 := { s with startup.state := st }
  match st with
  | .service => { s1 with regions := serviceRegions, roles := some serviceRoles }
  | .degraded => { s1 with guide.flags.unavailable := true }
  | .normal => s1
  | .loading => s1

/-- The reverse controller starts in NORMAL and DEGRADED (R61). -/
def State.startReverse (s : State) : State :=
  if s.startup.state = .service then s else { s with reverse.running := true }.evaluateReverse

/-- The displays start, each with a frame boundary; the FRONT one is the first full rewrite (R35, R61, R155). -/
def State.startDisplays (s : State) : State :=
  let s1 := { s with
    displays :=
      { front := s.displays.front.atClose s.time, rearLeft := s.displays.rearLeft.atClose s.time
        rearRight := s.displays.rearRight.atClose s.time } }
  ((s1.writeIdentity.boundary .front true).boundary .rearLeft false).boundary .rearRight false

/-- The store runs the load until the close's last act (R39, R61): a staging that the close has accepted waits, and the store
state reads IDLE (DESIGN CHOICE, log 29). -/
def Store.heldByLoad (st : Store) : Store :=
  match st.staging, st.op with
  | some g, none => { st with state := .idle, staging := some { g with phase := .waiting } }
  | _, _ => st

/-- The store enters IDLE (R39, R61): a staging that has waited for it starts at once (R48). -/
def Store.entersIdle (st : Store) (now : Time) : Store :=
  match st.state, st.staging with
  | .idle, some g => { st with state := .reading, staging := some { g with phase := .running now } }
  | _, _ => st

/-- The close of the load (R61), in its order: the store enters IDLE last, after the first full rewrite. Its queue is empty then,
as it has been since the reset: no request is taken while LOADING. -/
def State.closeLoad (s : State) (st : StartupState) : State :=
  let s1 := { s.enterRunning st with audio.running := true }.startReverse
  let s2 := { s1 with store := s1.store.heldByLoad }.startDisplays
  { s2 with store := s2.store.entersIdle s2.time }

/-! ### The load steps (R55 to R59) -/

/-- Step 1 (R55): the block status table and the lock copy are read, and STORE_FAIL is raised for each INCOMPLETE block. -/
def State.loadProtection (s : State) : State :=
  let s1 := { s with store.table := s.store.marks, store.lockCopy := s.store.lockMark, startup.step := 2 }
  (List.range 32).foldl (fun acc b => if s1.store.status b = .incomplete then acc.raise .storeFail b else acc) s1

/-- Step 2 (R56): the layout record is taken, or the load closes in SERVICE. -/
def State.loadLayout (s : State) : State :=
  match (s.store.validRecord 1 32).bind readLayout with
  | none => s.closeLoad .service
  | some y =>
    { s with
      startup := { s.startup with step := 3, layoutValid := true, fallbackOffset := y.fallbackOffset }
      regions := y.regions, roles := some y.roles
      vehicle := { s.vehicle with table := y.table, receiving := true }
      reverse := { s.reverse with source := y.source, holdOffMs := y.holdOffMs, exitSpeed := y.exitSpeed }
      park := { s.park with table := y.bands }
      audio := { s.audio with clips := y.clips, duck := y.duck } }

/-- Step 3 (R57): the calibration record is taken or the camera takes the defaults, and the camera receiver starts. -/
def State.loadCalibration (s : State) : State :=
  match (s.store.validRecord 0 76).bind readCalibration with
  | none =>
    { s with startup.step := 4, camera.running := true, camera.config := CameraConfig.default }
  | some c =>
    let g := { s.guide with config := some c.guide }
    { s with
      startup := { s.startup with step := 4, calibrationValid := true }
      camera := { s.camera with running := true, config := c.camera }
      guide :=
        if s.vehicle.records.steering.state = .fresh then g.steer s.vehicle.records.steering.value else g.straighten }

/-- A block of a run of store bytes is INCOMPLETE. -/
def Store.anyIncomplete (st : Store) (offset length : Nat) : Bool :=
  (blocksOf offset length).any fun b => st.status b == .incomplete

/-- Step 4 (R58): the clips in table order, from index `i`, with `used` bytes of the cache taken. -/
def fillCache (st : Store) : Nat → Nat → List Clip → List Clip × List (Nat × List Byte)
  | _, _, [] => ([], [])
  | i, used, c :: rest =>
    if c.wanted = true ∧ used + c.length ≤ Config.cacheSize ∧ st.anyIncomplete c.offset c.length = false then
      let r := fillCache st (i + 1) (used + c.length) rest
      ({ c with resident := true } :: r.1, (i, st.bytes c.offset c.length) :: r.2)
    else
      let r := fillCache st (i + 1) used rest
      ({ c with resident := false } :: r.1, r.2)

/-- Step 4 (R58). -/
def State.loadClips (s : State) : State :=
  let r := fillCache s.store 0 0 s.audio.clips
  { s with startup.step := 5, audio.clips := r.1, audio.cache := r.2 }

/-- Step 5 (R59): the fallback picture, or plain dark grey where a block of it is INCOMPLETE. -/
def State.loadFallback (s : State) : State :=
  let offset := s.startup.fallbackOffset
  if s.store.anyIncomplete offset 16448 then
    { s with
      compositor.fallbackIndices := zeroBytes 16384
      compositor.fallbackPalette := 0xFF202020#32 :: List.replicate 15 0xFF000000#32 }
  else
    let palette := s.store.bytes (offset + 16384) 64
    { s with
      compositor.fallbackIndices := s.store.bytes offset 16384
      compositor.fallbackPalette := (List.range 16).map fun i => BitVec.ofNat 32 (fieldAt palette (4 * i) 4) }

/-- LOAD_STEP_COMPLETE: the load step in progress ends (R55 to R61, logs 1, 10 and 19). -/
def execLoadStepComplete (s : State) : Host.Outcome State Fault Refusal :=
  if s.startup.state ≠ .loading then .next s
  else if s.startup.step = 1 then .next s.loadProtection
  else if s.startup.step = 2 then .next s.loadLayout
  else if s.startup.step = 3 then .next s.loadCalibration
  else if s.startup.step = 4 then .next s.loadClips
  else .next (s.loadFallback.closeLoad (if s.startup.calibrationValid then .normal else .degraded))

end Sys2Proof.Machine
end

