-- ==== Sys2Proof/Machine/VehicleInput.lean ====
section
/-! DEFINITION. CAN reception and the signal records (chapter 6, 6.1 and 6.2). -/

namespace Sys2Proof.Machine

/-- The field value of an entry in a frame's data (R90); none where the frame is too short. -/
def AcceptEntry.fieldValue (e : AcceptEntry) (data : List Byte) : Option Nat :=
  if data.length < e.startByte + e.width then none
  else if e.width = 1 then some (byteAt data e.startByte)
  else some (256 * byteAt data e.startByte + byteAt data (e.startByte + 1))

/-- The value that an entry extracts (R90): none where the frame does not refresh the signal. -/
def AcceptEntry.value (e : AcceptEntry) (data : List Byte) : Option Int :=
  match e.fieldValue data with
  | none => none
  | some v =>
    if e.marker = some v then none
    else if e.signed then some (signedOf (8 * e.width) v)
    else some (v : Int)

/-- The REVERSE debounce on an indication (R94): the record's value and the candidate after it. -/
def debounce (value : Int) (candidate : Option Bool) (asserted : Bool) : Int × Option Bool :=
  if decide (value ≠ 0) = asserted then (value, none)
  else if candidate = some asserted then (if asserted then 1 else 0, none)
  else (value, some asserted)

/-- A record made FRESH with a new value and deadline (R92). -/
def SignalRecord.refresh (value : Int) (deadline : Time) : SignalRecord :=
  { value := value, state := .fresh, deadline := some deadline, staleSince := none }

/-- A refresh of a signal (R92), and what the blocks that read it do. -/
def State.refresh (s : State) (e : AcceptEntry) (v : Int) : State :=
  let deadline := later s.time (1000 * e.limitMs)
  match e.signal with
  | .reverse =>
    let r := debounce s.vehicle.records.reverse.value s.vehicle.candidate (decide (v ≠ 0))
    { s with
      vehicle.records.reverse := .refresh r.1 deadline, vehicle.candidate := r.2
      vehicle.stalePeriodOver := false }.evaluateReverse
  | .steering => { s with vehicle.records.steering := .refresh v deadline, guide := s.guide.steer v }
  | .speed => { s with vehicle.records.speed := .refresh v deadline }.speedExit v
  | .parkDistance =>
    let s1 := { s with vehicle.records.parkDistance := .refresh v deadline }
    if s1.park.active then s1.chooseBand else s1

/-- Offer a frame to one acceptance entry (R90). -/
def State.offerFrame (ident : Nat) (data : List Byte) (s : State) (e : AcceptEntry) : State :=
  if e.ident = ident then
    match e.value data with
    | none => s
    | some v => s.refresh e v
  else s

/-- CAN_FRAME (R89, R90): a frame received while reception is on is offered to every entry, in table order (DESIGN CHOICE,
log 50). -/
def execCanFrame (ident : BitVec 11) (dlc : BitVec 4) (data : List Byte) (s : State) :
    Host.Outcome State Fault Refusal :=
  if (Instr.canFrame ident dlc data).WellFormed then
    if s.vehicle.receiving then .next (s.vehicle.table.foldl (State.offerFrame ident.toNat data) s) else .next s
  else .fault .cannotArrive

/-- A FRESH record goes STALE at its deadline (R93), and what the blocks that read it do. The deadline is absent from then on
(DESIGN CHOICE, log 38). -/
def State.expire (s : State) (g : Signal) (deadline : Time) : State :=
  let r := s.vehicle.records.get g
  let stale := { r with state := .stale, deadline := none, staleSince := some deadline }
  let s1 := { s with vehicle.records := s.vehicle.records.put g stale }.raise .signalStale (signalNumber g)
  match g with
  | .reverse => { s1 with vehicle.candidate := none, vehicle.stalePeriodOver := false }
  | .steering => { s1 with guide := s1.guide.straighten }
  | .speed => s1
  | .parkDistance => if s1.park.active then s1.chooseBand else s1

/-- FRESHNESS_EXPIRY (R93). -/
def execFreshnessExpiry (g : Signal) (s : State) : Host.Outcome State Fault Refusal :=
  match (s.vehicle.records.get g).state, (s.vehicle.records.get g).deadline with
  | .fresh, some t => if reached s.time t then .next (s.expire g t) else .next s
  | _, _ => .next s

end Sys2Proof.Machine
end

