-- ==== Sys2Proof/Machine/Dispatch.lean ====
section
/-! DEFINITION. Which meaning each command has. -/

namespace Sys2Proof.Machine

/-- The effect of a command on everything but the queue. -/
def exec (i : Instr) (s : State) : Host.Outcome State Fault Refusal :=
  match i with
  | .powerOnReset => Sys2Proof.Machine.execPowerOnReset s
  | .pinReset => Sys2Proof.Machine.execPinReset s
  | .loadStepComplete => Sys2Proof.Machine.execLoadStepComplete s
  | .linkTraining => Sys2Proof.Machine.execLinkTraining s
  | .lossOfLink => Sys2Proof.Machine.execLossOfLink s
  | .linkRead addr len => Sys2Proof.Machine.execLinkRead addr len s
  | .linkWrite addr lanes => Sys2Proof.Machine.execLinkWrite addr lanes s
  | .requestProducerIndex value => Sys2Proof.Machine.execRequestProducerIndex value s
  | .reportConsumerIndex value => Sys2Proof.Machine.execReportConsumerIndex value s
  | .mediaProducerIndex stream value => Sys2Proof.Machine.execMediaProducerIndex stream value s
  | .dramGrant => Sys2Proof.Machine.execDramGrant s
  | .unknownRequestKind => Sys2Proof.Machine.execUnknownRequestKind s
  | .publish => Sys2Proof.Machine.execPublish s
  | .setLayer => Sys2Proof.Machine.execSetLayer s
  | .holdChanges => Sys2Proof.Machine.execHoldChanges s
  | .releaseChanges => Sys2Proof.Machine.execReleaseChanges s
  | .pushView => Sys2Proof.Machine.execPushView s
  | .popView => Sys2Proof.Machine.execPopView s
  | .showCamera => Sys2Proof.Machine.execShowCamera s
  | .closeCamera => Sys2Proof.Machine.execCloseCamera s
  | .defineRegion => Sys2Proof.Machine.execDefineRegion s
  | .deleteRegion => Sys2Proof.Machine.execDeleteRegion s
  | .audioStart => Sys2Proof.Machine.execAudioStart s
  | .audioStop => Sys2Proof.Machine.execAudioStop s
  | .audioGain => Sys2Proof.Machine.execAudioGain s
  | .playChime => Sys2Proof.Machine.execPlayChime s
  | .stopChimes => Sys2Proof.Machine.execStopChimes s
  | .storeRead => Sys2Proof.Machine.execStoreRead s
  | .storeProgram => Sys2Proof.Machine.execStoreProgram s
  | .storeErase => Sys2Proof.Machine.execStoreErase s
  | .storeLockCalibration => Sys2Proof.Machine.execStoreLockCalibration s
  | .setFaultMask => Sys2Proof.Machine.execSetFaultMask s
  | .clearFaults => Sys2Proof.Machine.execClearFaults s
  | .systemRestart => Sys2Proof.Machine.execSystemRestart s
  | .storeProgramComplete => Sys2Proof.Machine.execStoreProgramComplete s
  | .storeEraseComplete => Sys2Proof.Machine.execStoreEraseComplete s
  | .storeReadComplete => Sys2Proof.Machine.execStoreReadComplete s
  | .lockWriteComplete => Sys2Proof.Machine.execLockWriteComplete s
  | .suspensionAsk => Sys2Proof.Machine.execSuspensionAsk s
  | .suspensionTakesEffect => Sys2Proof.Machine.execSuspensionTakesEffect s
  | .stagingComplete => Sys2Proof.Machine.execStagingComplete s
  | .frameStart frame => Sys2Proof.Machine.execFrameStart frame s
  | .line number rest => Sys2Proof.Machine.execLine number rest s
  | .frameEnd frame count => Sys2Proof.Machine.execFrameEnd frame count s
  | .otherCameraPacket bytes => Sys2Proof.Machine.execOtherCameraPacket bytes s
  | .signalTimerExpiry => Sys2Proof.Machine.execSignalTimerExpiry s
  | .captureComplete => Sys2Proof.Machine.execCaptureComplete s
  | .canFrame ident dlc data => Sys2Proof.Machine.execCanFrame ident dlc data s
  | .freshnessExpiry signal => Sys2Proof.Machine.execFreshnessExpiry signal s
  | .stalePeriodEnd => Sys2Proof.Machine.execStalePeriodEnd s
  | .reversePinChange high => Sys2Proof.Machine.execReversePinChange high s
  | .pinDebounceExpiry => Sys2Proof.Machine.execPinDebounceExpiry s
  | .holdOffExpiry => Sys2Proof.Machine.execHoldOffExpiry s
  | .parkOfferTime => Sys2Proof.Machine.execParkOfferTime s
  | .displayFrameBoundary display => Sys2Proof.Machine.execDisplayFrameBoundary display s
  | .guideBuildComplete => Sys2Proof.Machine.execGuideBuildComplete s
  | .latePixel display layer column => Sys2Proof.Machine.execLatePixel display layer column s
  | .sampleTime => Sys2Proof.Machine.execSampleTime s
  | .startDelayExpiry stream => Sys2Proof.Machine.execStartDelayExpiry stream s
  | .millisecondTick => Sys2Proof.Machine.execMillisecondTick s
  | .chimeEnd pair => Sys2Proof.Machine.execChimeEnd pair s
  | .activeRowFetch display => Sys2Proof.Machine.execActiveRowFetch display s

end Sys2Proof.Machine
end

