-- ==== Sys2Proof/Safety.lean ====
section
/-! DEFINITION. The terms claims are stated in: what it is for a command to complete, what records,
the status block, guide lines and pixels are, and the invariants of the machine. -/

namespace Sys2Proof.Machine

/-! ### Completion -/

/-- The command completes on this state: it answers a next state, of which `p` holds. -/
def Completes (c : Instr) (s : State) (p : State → Prop) : Prop := ∃ t, exec c s = .next t ∧ p t

/-- A record of kind `kind` has arrived at the taker and passes the common checks (R21, R23). -/
abbrev Arrives (s : State) (kind : Nat) (rec : List Byte) : Prop :=
  s.taker.fetch = .arrived rec ∧ reqKind rec = kind ∧ s.commonCheck rec = none

/-- The state after a record that `s` has taken has been ended and the taker has moved on (R21, R24): all a request does
besides its owner's effect. Obligations.RecordEndsAndTakerMovesOn says what this is. -/
def State.ended (s : State) (rec : List Byte) (e : Ending) : State := (s.endRequest rec e).advanceTaker

/-- What every request leaves of the taker and the link (R21, R22): the consumer index one further, the producer copy kept,
and nothing of the link changed but that a further record fetch may have entered the link path. -/
def TookRecord (s t : State) : Prop :=
  t.taker.consumer = (s.taker.consumer + 1) % 256 ∧ t.taker.producer = s.taker.producer ∧
    (t.link = s.link ∨ ∃ a, t.link = { s.link with path := s.link.path ++ [.record a true] })

/-- Kind numbers of the request commands (11.2). -/
def requestKindOf : Instr → Option Nat
  | .publish => some 1
  | .setLayer => some 2
  | .holdChanges => some 3
  | .releaseChanges => some 4
  | .pushView => some 5
  | .popView => some 6
  | .showCamera => some 7
  | .closeCamera => some 8
  | .defineRegion => some 9
  | .deleteRegion => some 10
  | .audioStart => some 11
  | .audioStop => some 12
  | .audioGain => some 13
  | .playChime => some 14
  | .stopChimes => some 15
  | .storeRead => some 16
  | .storeProgram => some 17
  | .storeErase => some 18
  | .storeLockCalibration => some 19
  | .setFaultMask => some 20
  | .clearFaults => some 21
  | .systemRestart => some 22
  | .powerOnReset | .pinReset | .loadStepComplete | .linkTraining | .lossOfLink | .linkRead _ _ | .linkWrite _ _
  | .requestProducerIndex _ | .reportConsumerIndex _ | .mediaProducerIndex _ _ | .dramGrant | .unknownRequestKind
  | .storeProgramComplete | .storeEraseComplete | .storeReadComplete | .lockWriteComplete | .suspensionAsk
  | .suspensionTakesEffect | .stagingComplete | .frameStart _ | .line _ _ | .frameEnd _ _ | .otherCameraPacket _
  | .signalTimerExpiry | .captureComplete | .canFrame _ _ _ | .freshnessExpiry _ | .stalePeriodEnd | .reversePinChange _
  | .pinDebounceExpiry | .holdOffExpiry | .parkOfferTime | .displayFrameBoundary _ | .guideBuildComplete
  | .latePixel _ _ _ | .sampleTime | .startDelayExpiry _ | .millisecondTick | .chimeEnd _ | .activeRowFetch _ => none

/-! ### The link -/

/-- The link port takes the next transaction at once: the link is UP, nothing is held, the response list has room (R3), and
no part of the bring-up writes waits (R62). -/
structure LinkReady (s : State) : Prop where
  up : s.link.up = true
  noneHeld : s.link.held = []
  room : s.link.responses.length < 16
  broughtUp : ∀ w ∈ s.rw.queue, w.bringUp = false

/-- A transaction of `len` bytes at `addr` is in range (R4). -/
abbrev InRange (addr len : Nat) : Prop := 1 ≤ len ∧ addr + len ≤ 0x80000000 ∧ addr % 64 + len ≤ 64

/-- The control page word at `offset` can be written over the link: the page is a CONTROL region of DRAM named as such, and
the link port is ready. -/
structure WordWritable (s : State) (roles : Roles) (offset : Nat) : Prop extends LinkReady s where
  named : s.roles = some roles
  aligned : roles.controlPage % 4096 = 0
  inDram : roles.controlPage + 4096 ≤ 0x80000000
  control : ∃ r, regionAt s.regions (roles.controlPage + offset) = some r ∧ r.kind = .control

/-- The link write that carries a full word. -/
def wordWrite (roles : Roles) (offset : Nat) (v : BitVec 32) (media : List (Display × BitVec 32)) : LinkAccess :=
  .write (roles.controlPage + offset) ((bytesOf 4 v.toNat).map some) media

/-- How many bytes of the 32-bit word at `w` a write at `addr` enables. -/
def enabledBytes (addr : Nat) (lanes : List (Option Byte)) (w : Nat) : Nat :=
  (List.range 4).countP fun k => decide (addr ≤ w + k) && (lanes.getD (w + k - addr) none).isSome

/-- The value of the 32-bit little-endian word at `w` in a write at `addr` that enables all four of its bytes. -/
def wordValue (addr : Nat) (lanes : List (Option Byte)) (w : Nat) : BitVec 32 :=
  let byte := fun k => ((lanes.getD (w + k - addr) none).getD 0).toNat
  BitVec.ofNat 32 (byte 0 + 256 * byte 1 + 65536 * byte 2 + 16777216 * byte 3)

/-! ### The arbiter (R16, R17) -/

/-- The place of a class in the priority order: A above B above C above D. -/
def ArbClass.place : ArbClass → Nat
  | .a => 0
  | .b => 1
  | .c => 2
  | .d => 3

/-- How far a client lies behind a round-robin position, going round. -/
def turnsFrom (clients : List Client) (pos : Nat) (c : Client) : Nat :=
  (clients.idxOf c + clients.length - pos) % clients.length

/-- The clients that receive consecutive grants, where `waiting` says which clients wait at each of them. -/
def grantRun : Arbiter → List (Client → Bool) → List Client
  | _, [] => []
  | arb, waits :: rest =>
    match chooseClient arb waits with
    | none => grantRun arb rest
    | some c => c :: grantRun (arb.granted c) rest

/-- `m'` is DRAM `m` with the bytes written from `addr` on, and with every other byte as it was. -/
def Stored (m m' : Mem) (addr : Nat) (bytes : List Byte) : Prop :=
  (∀ i v, bytes[i]? = some v → m'.read (addr + i) = v) ∧
    ∀ a, (∀ i, i < bytes.length → a ≠ addr + i) → m'.read a = m.read a

/-! ### Faults -/

/-- Fault flags, masks, counters and details are as before. -/
def FaultsKept (s t : State) : Prop := t.rw.faults = s.rw.faults

/-- The occurrence of one fault kind and of no other (R30): the counter up by one, stopping at 65,535, and a clear flag set
with the detail. -/
def FaultRaised (k : FaultKind) (detail : Nat) (s t : State) : Prop :=
  t.rw.fault k = (s.rw.fault k).occur detail ∧ ∀ j, j ≠ k → t.rw.fault j = s.rw.fault j

/-! ### Stored records (R56, R82, R91, R106, R112, R189; 11.6 to 11.8) -/

/-- What R56, R6, R91, R106 and R189 ask of a layout record, of its bytes: `region`, `entry`, `band` and `clip` give the offset
of a list entry. A role names a region of the list by its position. -/
structure LayoutRules (rec : List Byte) : Prop where
  counts : 1 ≤ byteAt rec 8 ∧ byteAt rec 8 ≤ 16 ∧ byteAt rec 9 ≤ 8 ∧ byteAt rec 10 ≤ 5 ∧ byteAt rec 11 ≤ 16
  reserved : byteAt rec 0x13 = 0 ∧ fieldAt rec 0x16 2 = 0
  length : rec.length = 32 + 12 * byteAt rec 8 + 12 * byteAt rec 9 + 8 * byteAt rec 10 + 12 * byteAt rec 11
  regions : ∀ i, i < byteAt rec 8 →
    let at' := 32 + 12 * i
    fieldAt rec at' 4 % 4096 = 0 ∧ fieldAt rec (at' + 4) 4 % 4096 = 0 ∧ 4096 ≤ fieldAt rec (at' + 4) 4 ∧
      fieldAt rec (at' + 4) 4 ≤ 0x10000000 ∧ fieldAt rec at' 4 + fieldAt rec (at' + 4) 4 ≤ 0x80000000 ∧
      1 ≤ byteAt rec (at' + 8) ∧ byteAt rec (at' + 8) ≤ 6 ∧ fieldAt rec (at' + 9) 3 = 0
  apart : ∀ i j, i < j → j < byteAt rec 8 →
    fieldAt rec (32 + 12 * i) 4 + fieldAt rec (36 + 12 * i) 4 ≤ fieldAt rec (32 + 12 * j) 4 ∨
      fieldAt rec (32 + 12 * j) 4 + fieldAt rec (36 + 12 * j) 4 ≤ fieldAt rec (32 + 12 * i) 4
  roles :
    let has := fun (pos kind : Nat) => byteAt rec pos < byteAt rec 8 ∧ byteAt rec (40 + 12 * byteAt rec pos) = kind
    let size := fun pos : Nat => fieldAt rec (36 + 12 * byteAt rec pos) 4
    (has 0x0C 4 ∧ size 0x0C = 8192) ∧ (has 0x0D 2 ∧ size 0x0D = 4096) ∧ (has 0x0E 3 ∧ size 0x0E = 4096) ∧
      (has 0x0F 2 ∧ size 0x0F = 4096) ∧ (has 0x10 1 ∧ 5529600 ≤ size 0x10) ∧ byteAt rec 0x0D ≠ byteAt rec 0x0F
  entries : ∀ i, i < byteAt rec 9 →
    let at' := 32 + 12 * byteAt rec 8 + 12 * i
    fieldAt rec at' 2 ≤ 0x7FF ∧ byteAt rec (at' + 2) ≤ 3 ∧ (byteAt rec (at' + 4) = 1 ∨ byteAt rec (at' + 4) = 2) ∧
      byteAt rec (at' + 3) + byteAt rec (at' + 4) ≤ 8 ∧ byteAt rec (at' + 5) ≤ 1 ∧ byteAt rec (at' + 6) ≤ 1 ∧
      byteAt rec (at' + 7) = 0 ∧ 50 ≤ fieldAt rec (at' + 10) 2 ∧ fieldAt rec (at' + 10) 2 ≤ 2000 ∧
      (byteAt rec (at' + 6) = 1 → byteAt rec (at' + 4) = 1 → fieldAt rec (at' + 8) 2 ≤ 255)
  bands : ∀ i, i < byteAt rec 10 →
    let at' := 32 + 12 * byteAt rec 8 + 12 * byteAt rec 9 + 8 * i
    fieldAt rec (at' + 6) 2 = 0 ∧
      (fieldAt rec (at' + 4) 2 = 0 ∨ (100 ≤ fieldAt rec (at' + 4) 2 ∧ fieldAt rec (at' + 4) 2 ≤ 5000)) ∧
      (i + 1 < byteAt rec 10 → signedOf 32 (fieldAt rec at' 4) < signedOf 32 (fieldAt rec (at' + 8) 4))
  clips : ∀ i, i < byteAt rec 11 →
    let at' := 32 + 12 * byteAt rec 8 + 12 * byteAt rec 9 + 8 * byteAt rec 10 + 12 * i
    0x20000 ≤ fieldAt rec at' 4 ∧ fieldAt rec at' 4 + fieldAt rec (at' + 4) 4 ≤ 0x200000 ∧
      fieldAt rec (at' + 4) 4 % 2 = 0 ∧ 2 ≤ fieldAt rec (at' + 4) 4 ∧ fieldAt rec (at' + 4) 4 ≤ 65536 ∧
      byteAt rec (at' + 8) ≤ 1 ∧ fieldAt rec (at' + 10) 2 = 0
  source : byteAt rec 0x11 ≤ 2
  duck : byteAt rec 0x12 ≤ 64 ∨ byteAt rec 0x12 = 0xFF
  holdOff : fieldAt rec 0x14 2 ≤ 20000 ∨ fieldAt rec 0x14 2 = 0xFFFF
  fallback : 0x20000 ≤ fieldAt rec 0x1C 4 ∧ fieldAt rec 0x1C 4 + 16448 ≤ 0x200000

/-- What R82, R112 and R189 ask of a calibration record, of its bytes. -/
structure CalibrationRules (rec : List Byte) : Prop where
  counts : 2 ≤ byteAt rec 0x12 ∧ byteAt rec 0x12 ≤ 16 ∧ 1 ≤ byteAt rec 0x13 ∧ byteAt rec 0x13 ≤ 8
  length : rec.length = 76 + 4 * byteAt rec 0x12 + 2 * byteAt rec 0x13
  crop : fieldAt rec 0x08 2 ≤ 65 ∧ fieldAt rec 0x0A 2 ≤ 41 ∧ byteAt rec 0x0C ≤ 1
  levels : 16 ≤ byteAt rec 0x0F ∧ byteAt rec 0x0F ≤ byteAt rec 0x0D ∧ byteAt rec 0x0D ≤ byteAt rec 0x0E ∧
    byteAt rec 0x0E ≤ byteAt rec 0x10 ∧ byteAt rec 0x10 ≤ 235
  vehicle : 500 ≤ fieldAt rec 0x14 2 ∧ fieldAt rec 0x14 2 ≤ 1200 ∧ fieldAt rec 0x16 2 ≤ 2000
  limits : 100 ≤ fieldAt rec 0x18 2 ∧ fieldAt rec 0x18 2 ≤ fieldAt rec 0x1A 2 ∧ fieldAt rec 0x1A 2 ≤ 8000
  half : 1 ≤ byteAt rec 0x11 ∧ byteAt rec 0x11 ≤ 8
  breakpoints : ∀ i, i < byteAt rec 0x12 →
    -32767 ≤ signedOf 16 (fieldAt rec (78 + 4 * i) 2) ∧
      (i + 1 < byteAt rec 0x12 → signedOf 16 (fieldAt rec (76 + 4 * i) 2) < signedOf 16 (fieldAt rec (80 + 4 * i) 2))
  marks : ∀ i, i < byteAt rec 0x13 →
    let at' := 76 + 4 * byteAt rec 0x12 + 2 * i
    100 ≤ fieldAt rec at' 2 ∧ fieldAt rec at' 2 ≤ 8000 ∧
      (i + 1 < byteAt rec 0x13 → fieldAt rec at' 2 < fieldAt rec (at' + 2) 2)

/-! ### The status block (R34, R35, R188, 11.5) -/

/-- The identity record, byte by byte (11.5). -/
def identityBytes : List Byte :=
  [0x20, 0x06, 0, 0, 1, 0, 0, 0, 64, 0, 16, 0, 0, 1, 128, 0, 0, 0, 0x20, 0, 0, 0, 1, 0, 0, 0, 0, 0, 0, 0, 0, 0]

/-- The accesses of one full rewrite with the content `shot` (R34): the update count made odd, every byte from 0x024 to 0xFFF, in
ascending order and in the fewest pieces (log 43: the model's choice), and the update count made even. -/
def rewriteAccesses (status : Nat) (count : BitVec 32) (shot : List Byte) (bringUp : Bool) : List DeviceWrite :=
  [{ addr := status + 0x020, bytes := bytesOf 4 (count + 1).toNat, bringUp := bringUp }] ++
    (blockWrites (status + 0x024) shot).map (fun p => { addr := p.1, bytes := p.2, bringUp := bringUp }) ++
    [{ addr := status + 0x020, bytes := bytesOf 4 (count + 2).toNat, bringUp := bringUp }]

/-- What a slot of a view stack shows (11.5, R188). -/
def slotShows : Option View → List Byte
  | none => [0, 0, 0, 0]
  | some v => [if v.owner = .system then 1 else 2, v.tag, if v.pinned then 1 else 0, 0]

/-- What a system layer's 16 bytes show (11.5, R188). -/
def layerShows (v : LayerState) : List Byte :=
  [BitVec.ofNat 8 ((v.current.map fun c => c.1.region).getD 0xFF), 0, 0, 0] ++
    bytesOf 4 ((v.current.map fun c => c.1.offset).getD 0) ++ bytesOf 4 v.releasedShown.toNat ++ bytesOf 4 v.dropped.toNat

/-- The bytes from 0x024 to 0xFFF of the status block show the state `s`, field by field of 11.5 (R188); `field` takes bytes by
their offset in the block. The picture age of a negative difference is a free value (log 17). -/
structure StatusShows (s : State) (shot : List Byte) (field : Nat → Nat → List Byte) : Prop where
  whole : shot.length = 0xFDC ∧ ∀ offset n, field offset n = (shot.drop (offset - 0x024)).take n
  indices : field 0x024 8 = bytesOf 4 s.taker.consumer ++ bytesOf 4 s.rw.producer
  time : field 0x02C 4 = bytesOf 4 s.time.toNat
  states : field 0x030 4 =
    [BitVec.ofNat 8 (startupNumber s.startup.state), BitVec.ofNat 8 (reverseNumber s.reverse.state),
      BitVec.ofNat 8 (alignNumber s.camera.align), BitVec.ofNat 8 s.camera.gain]
  noPicture : s.camera.newest = none → field 0x034 3 = [0, 0, 0]
  picture : ∀ k since, s.camera.newest = some (k, since) → field 0x036 1 = [1] ∧
    (0 ≤ (s.time - since).toInt → field 0x034 2 = bytesOf 2 (min ((s.time - since).toNat / 1000) 65535))
  guide : field 0x037 1 = [BitVec.ofNat 8 (guideFlagsNumber s.guide.flags)]
  signals : ∀ g, field (0x038 + 8 * signalNumber g) 8 =
    bytesOfInt 4 (s.vehicle.records.get g).value ++
      [BitVec.ofNat 8 (signalStateNumber (s.vehicle.records.get g).state), 0, 0, 0]
  flags : ∀ k : FaultKind, (fieldAt (field 0x058 2) 0 2).testBit k.index.val = (s.rw.fault k).flag ∧
    (fieldAt (field 0x05A 2) 0 2).testBit k.index.val = (s.rw.fault k).masked ∧
    field (0x05C + 2 * k.index.val) 2 = bytesOf 2 (s.rw.fault k).counter
  store : field 0x07C 2 = [BitVec.ofNat 8 (storeStateNumber s.store.state), BitVec.ofNat 8 s.store.queue.length]
  completion : field 0x07E 6 =
    [BitVec.ofNat 8 s.store.lastKind, BitVec.ofNat 8 (codeNumber s.store.lastCode)] ++ bytesOf 2 s.store.lastTag ++ [0, 0]
  blocks : ∀ b, b < 32 → field (0x084 + b) 1 = [BitVec.ofNat 8 (blockStatusNumber (s.store.status b))]
  afterBlocks : field 0x0A4 28 = List.replicate 28 0
  slots : ∀ d i, i < 4 → field (0x0C0 + 0x40 * displayNumber d + 4 * i) 4 = slotShows (s.stack d)[i]?
  tops : ∀ d, field (0x0D0 + 0x40 * displayNumber d) 8 =
    BitVec.ofNat 8 (if s.stack d = [] then 0xFF else (s.stack d).length - 1) :: List.replicate 7 0
  layers : ∀ d, field (0x0D8 + 0x40 * displayNumber d) 32 = layerShows (s.layer d .video) ++ layerShows (s.layer d .menu)
  afterLayers : ∀ d, field (0x0F8 + 0x40 * displayNumber d) 8 = List.replicate 8 0
  streams : ∀ d, field (0x180 + 4 * displayNumber d) 4 = bytesOf 4 (s.audio.streams.get d).consumer
  rest : field 0x18C 3700 = List.replicate 3700 0

/-! ### Camera packets and concealed rows (R65, R67, R69, R70, R76, R77) -/

/-- The state after a packet is heard that changes nothing else but that `waiting` joins the packets that wait (R65, R67, R79): the
signal timer runs 20 ms from now, and NO_SIGNAL has become SEARCH, with its report and no direction candidate. -/
def State.heard (s : State) (waiting : List CameraPacket) : State :=
  let c := { s.camera with timer := some (later s.time 20000), deferred := s.camera.deferred ++ waiting }
  if s.camera.align = .noSignal then
    ({ s with camera := { c with align := .search, candidate := none } } : State).post (.camera .search)
  else { s with camera := c }

/-- The row that a concealed line of the open frame repeats: the row written last, or black where none has been (R76). -/
def OpenFrame.above (f : OpenFrame) : List Byte := f.rowAbove.getD (List.replicate 640 [16, 128, 16, 128]).flatten

/-- The output rows, in ascending order, of the raw lines from `first` on and below `last` that lie inside the crop (R75). -/
def CameraConfig.rowsOf (c : CameraConfig) (first last : Nat) : List Nat :=
  ((List.range last).filter fun n => decide (first ≤ n ∧ c.cropRow ≤ n ∧ n < c.cropRow + 720)).map fun n => n - c.cropRow

/-- What an output row adds to the luma sum: of rows 180 to 539, the luma of columns 320 to 959 (R77), each luma byte with the
chroma byte after it. -/
def rowLuma (row : Nat) (out : List Byte) : Nat :=
  if 180 ≤ row ∧ row ≤ 539 then
    ((List.range 640).map fun i => if 641 + 2 * i < out.length then byteAt out (640 + 2 * i) else 0).sum
  else 0

/-- The accesses that write an output row into the writing buffer of the camera area (R77). -/
def State.rowWrites (s : State) (row : Nat) (out : List Byte) : List DeviceWrite :=
  match s.cameraArea, s.camera.writing with
  | some area, some k =>
    (blockWrites (area + k.val * 1843200 + 2560 * row) out).map fun p => { addr := p.1, bytes := p.2, bringUp := false }
  | _, _ => []

/-- The accesses that conceal the lines from the expected line on and below `last`: each row of theirs repeats the row above the
gap (R76). -/
def State.concealing (s : State) (f : OpenFrame) (last : Nat) : List DeviceWrite :=
  (s.camera.config.rowsOf f.expected last).flatMap fun row => s.rowWrites row f.above

/-- The open frame with the lines from the expected line on and below `last` concealed (R69, R70, R76, R77). -/
def OpenFrame.concealedTo (f : OpenFrame) (c : CameraConfig) (last : Nat) : OpenFrame :=
  let rows := c.rowsOf f.expected last
  { f with
    expected := last
    concealed := f.concealed + (last - f.expected)
    lumaSum := f.lumaSum + (rows.map fun row => rowLuma row f.above).sum
    rowAbove := if rows = [] then f.rowAbove else some f.above }

/-! ### Guide lines (R119 to R124) -/

/-- The point of an edge (R119, R120): `side` is -1 for the left and 1 for the right; none where it is invalid. -/
def GuideConfig.edgePoint (c : GuideConfig) (kappa side d : Int) : Option PicturePoint :=
  (project c.homography (side * c.halfWidth + pathOffset kappa d c.overhang) d).point

/-- `x` is what the screen leaves of a span of a row and columns (R124). -/
def Span.clips (x : Span) (row lo hi : Int) : Prop :=
  (x.row : Int) = row ∧ row ≤ 719 ∧ (x.startCol : Int) = max lo 0 ∧ (x.endCol : Int) = min hi 1279 ∧
    x.startCol ≤ x.endCol

/-- `x` is a clipped span of a segment of an edge (R121, R123, R124): the distances `d` and `e` follow each other, every point of
the edge up to `e` is valid, and the row lies between the two points' rows. -/
def GuideConfig.segmentDraws (c : GuideConfig) (kappa : Int) (x : Span) : Prop :=
  ∃ (side : Int) (before : List Int) (d e : Int) (after : List Int) (p q : PicturePoint) (row : Int),
    (side = -1 ∨ side = 1) ∧ 0 :: c.marks = before ++ d :: e :: after ∧
    (∀ g ∈ before, c.edgePoint kappa side g ≠ none) ∧ c.edgePoint kappa side d = some p ∧
    c.edgePoint kappa side e = some q ∧ x.band = (if e ≤ c.b1 then .near else if e ≤ c.b2 then .mid else .far) ∧
    min p.v q.v ≤ row ∧ row ≤ max p.v q.v ∧
    let column := fun r : Int => if p.v = q.v then p.u else p.u + rndDiv ((q.u - p.u) * (p.v - r)) (p.v - q.v)
    let here := column row
    let next := if p.v = q.v then q.u else column (min (row + 1) (max p.v q.v))
    x.clips row (min here next - c.lineHalf) (max here next + c.lineHalf)

/-- `x` is a clipped span of a crossbar (R122, R124): at a mark up to which every point of both edges is valid, on one of the rows
about its middle row. -/
def GuideConfig.crossbarDraws (c : GuideConfig) (kappa : Int) (x : Span) : Prop :=
  ∃ (before : List Int) (d : Int) (after : List Int) (l r : PicturePoint) (row : Int),
    c.marks = before ++ d :: after ∧
    (∀ g ∈ 0 :: before, c.edgePoint kappa (-1) g ≠ none ∧ c.edgePoint kappa 1 g ≠ none) ∧
    c.edgePoint kappa (-1) d = some l ∧ c.edgePoint kappa 1 d = some r ∧
    x.band = (if d ≤ c.b1 then .near else if d ≤ c.b2 then .mid else .far) ∧
    rndDiv (l.v + r.v) 2 - c.lineHalf ≤ row ∧ row ≤ rndDiv (l.v + r.v) 2 + c.lineHalf ∧
    x.clips row (min l.u r.u) (max l.u r.u)

/-- What the screen leaves of a span of a row and columns, if anything (R124). -/
def clipped (row lo hi : Int) (band : SpanBand) : List Span :=
  if 0 ≤ row ∧ row ≤ 719 ∧ max lo 0 ≤ min hi 1279 then
    [{ row := row.toNat, startCol := (max lo 0).toNat, endCol := (min hi 1279).toNat, band := band }]
  else []

/-- The band that a distance gives (R121). -/
def GuideConfig.bandAt (c : GuideConfig) (d : Int) : SpanBand := if d ≤ c.b1 then .near else if d ≤ c.b2 then .mid else .far

/-- The distances and points of an edge from the bumper up to its first invalid point (R121). -/
def GuideConfig.drawnPoints (c : GuideConfig) (kappa side : Int) : List (Int × PicturePoint) :=
  ((0 :: c.marks).takeWhile fun d => (c.edgePoint kappa side d).isSome).filterMap fun d =>
    (c.edgePoint kappa side d).map fun p => (d, p)

/-- The clipped spans of the segment from `near` to `far` (R121, R123, R124). -/
def GuideConfig.segmentSpans (c : GuideConfig) (near far : Int × PicturePoint) : List Span :=
  let p := near.2
  let q := far.2
  (List.range ((max p.v q.v - min p.v q.v).toNat + 1)).flatMap fun i : Nat =>
    let row := min p.v q.v + (i : Int)
    let column := fun r : Int => if p.v = q.v then p.u else p.u + rndDiv ((q.u - p.u) * (p.v - r)) (p.v - q.v)
    let here := column row
    let next := if p.v = q.v then q.u else column (min (row + 1) (max p.v q.v))
    clipped row (min here next - c.lineHalf) (max here next + c.lineHalf) (c.bandAt far.1)

/-- The clipped spans of the crossbar between a left and a right point of one distance (R122, R124). -/
def GuideConfig.crossbarSpans (c : GuideConfig) (left right : Int × PicturePoint) : List Span :=
  let middle := rndDiv (left.2.v + right.2.v) 2
  (List.range (2 * c.lineHalf.toNat + 1)).flatMap fun i : Nat =>
    clipped (middle - c.lineHalf + (i : Int)) (min left.2.u right.2.u) (max left.2.u right.2.u) (c.bandAt left.1)

/-- Every clipped span offered to the table in a build, as often as it is offered: the left edge's, the right edge's, the
crossbars' at the marks (R121, R122). -/
def GuideConfig.offered (c : GuideConfig) (kappa : Int) : List Span :=
  let left := c.drawnPoints kappa (-1)
  let right := c.drawnPoints kappa 1
  ((left.zip left.tail).flatMap fun x => c.segmentSpans x.1 x.2) ++
    ((right.zip right.tail).flatMap fun x => c.segmentSpans x.1 x.2) ++
    (left.tail.zip right.tail).flatMap fun x => c.crossbarSpans x.1 x.2

/-- `x` ranks at least as high as `y` among the spans of a row (R125): by the higher band, then the smaller start, then the smaller
end. -/
def Span.ranksOver (x y : Span) : Prop :=
  y.band.rank < x.band.rank ∨ (y.band.rank = x.band.rank ∧
    (x.startCol < y.startCol ∨ (x.startCol = y.startCol ∧ x.endCol ≤ y.endCol)))

/-! ### Composition (R156, R157, R164) -/

/-- A system layer draws the pixel `p` with global alpha `ga` at a screen pixel (R156, R157, R164): its fill colour, where it
contributes that, or where it is late or its data has not been granted (log 21); else the sample of its current frame, ARGB8888
or NV12. -/
def Scan.draws (sc : Scan) (l : ScanLayer) (c : Contribution) (col row : Nat) (p : LayerPixel) (ga : Nat) : Prop :=
  (∃ x, c = .fill x ∧ x.coversPixel col row = true ∧ p = colourPixel x.fill ∧ ga = x.alpha) ∨
  ∃ x base, c = .frame x base ∧ x.coversPixel col row = true ∧ ga = x.alpha ∧
    let sx := (col - x.x) * x.sourceWidth / x.w
    let sy := (row - x.y) * x.sourceHeight / x.h
    let here := sc.byteFor l row
    let chroma := base + x.sourceHeight * x.stride + sy / 2 * x.stride + 2 * (sx / 2)
    (sc.isLate l col = true ∧ p = colourPixel x.fill) ∨
    (sc.isLate l col = false ∧ x.format = .argb8888 ∧
      ((∃ k, k < 4 ∧ here (base + sy * x.stride + 4 * sx + k) = none) ∧ p = colourPixel x.fill ∨
       ∃ b g r a, here (base + sy * x.stride + 4 * sx) = some b ∧ here (base + sy * x.stride + 4 * sx + 1) = some g ∧
        here (base + sy * x.stride + 4 * sx + 2) = some r ∧ here (base + sy * x.stride + 4 * sx + 3) = some a ∧
        p = { rgb := { r := r.toNat, g := g.toNat, b := b.toNat }, alpha := a.toNat })) ∨
    (sc.isLate l col = false ∧ x.format = .nv12 ∧
      ((here (base + sy * x.stride + sx) = none ∨ here chroma = none ∨ here (chroma + 1) = none) ∧
          p = colourPixel x.fill ∨
       ∃ y u w, here (base + sy * x.stride + sx) = some y ∧ here chroma = some u ∧ here (chroma + 1) = some w ∧
        p = { rgb := yuvRgb y.toNat u.toNat w.toNat, alpha := 255 }))

/-- A system layer draws nothing at a screen pixel (R155, R156). -/
def Contribution.leaves (c : Contribution) (col row : Nat) : Prop :=
  c = .nothing ∨ ∃ x, (c = .fill x ∨ ∃ base, c = .frame x base) ∧ x.coversPixel col row = false

/-- The pieces of source data that a system layer needs for a row (R157, R164): the source row, and for NV12 its row of chroma;
nothing where the row or the whole rectangle is off the layer's part of the screen (that it is the whole source row is log 33,
its order logs 43 and 44). -/
def Contribution.source (c : Contribution) (d : Display) (row : Nat) : List (Nat × Nat) :=
  match c with
  | .nothing => []
  | .fill _ => []
  | .frame x base =>
    let sy := (row - x.y) * x.sourceHeight / x.h
    if x.y ≤ row ∧ row < x.y + x.h ∧ x.x < d.columns then
      match x.format with
      | .argb8888 => blockPieces (4 * x.sourceWidth) (base + sy * x.stride) (4 * x.sourceWidth)
      | .nv12 => blockPieces x.sourceWidth (base + sy * x.stride) x.sourceWidth ++
          blockPieces x.sourceWidth (base + x.sourceHeight * x.stride + sy / 2 * x.stride) x.sourceWidth
    else []

/-! ### The releases of a frame boundary (R139, R142, R151 to R154) -/

/-- The record that a layer applies at a boundary: none while the change hold is set (R139). -/
def State.applying (s : State) (d : Display) (l : ScanLayer) : Option LayerSetting :=
  if (s.displays.get d).hold then none else (s.layer d l).staged

/-- The record that applies is a source change (R142). -/
def State.changesSource (s : State) (d : Display) (l : ScanLayer) : Bool :=
  match s.applying d l with
  | none => false
  | some new => sourceChange (s.layer d l).applied new

/-- The frames, with their shown counts, that a source change releases: the former current frame and then the whole queue (R142,
R153). -/
def State.releasedByChange (s : State) (d : Display) (l : ScanLayer) : List (ScanLayer × QueueEntry × Nat) :=
  if s.changesSource d l then
    ((s.layer d l).current.toList ++ (s.layer d l).queue.map fun e => (e, 0)).map fun p => (l, p)
  else []

/-- The frames, with their shown counts, that the selection releases: the former current frame and then the due frames but the
last (R151, R152, R153). After a source change there is none. -/
def State.releasedBySelection (s : State) (d : Display) (l : ScanLayer) : List (ScanLayer × QueueEntry × Nat) :=
  let run := (s.layer d l).queue.takeWhile fun e => decide ((e.time - s.time).toInt ≤ 8333)
  if s.changesSource d l ∨ run = [] then []
  else ((s.layer d l).current.toList ++ run.dropLast.map fun e => (e, 0)).map fun p => (l, p)

/-- The layer is starved at a boundary (R154): enabled and STREAM by the record it then has, watched for 500,000 µs and no less,
its queue empty, and the watch not begun anew by the record that applies. -/
def State.starves (s : State) (d : Display) (l : ScanLayer) : Bool :=
  let v := s.layer d l
  let setting := (s.applying d l).getD v.applied
  let anew := match s.applying d l with
    | none => false
    | some new => decide ((v.applied.enable = false ∧ new.enable = true) ∨
        (v.applied.cadence ≠ .stream ∧ new.cadence = .stream))
  decide (anew = false ∧ setting.enable = true ∧ setting.cadence = .stream ∧ v.armed = true ∧
    (s.changesSource d l = true ∨ v.queue = []) ∧ 500000 ≤ (s.time - v.lastSelection).toInt)

/-- A RELEASED report for each of some frames, in their order (R153). -/
def State.tellReleased (s : State) (d : Display) (released : List (ScanLayer × QueueEntry × Nat)) : State :=
  released.foldl (fun u p => u.post (.released d p.1 p.2.1 p.2.2)) s

/-- LAYER_STARVED where the layer is starved (R154). -/
def State.warnStarved (s before : State) (d : Display) (l : ScanLayer) : State :=
  if before.starves d l then s.raise .layerStarved (displayNumber d + 256 * layerNumber l) else s

/-- What the two layers of a display report at a boundary, in order: the releases of the records that apply, video before menu, and
then of each layer, video before menu, the releases of its selection and LAYER_STARVED (logs 22 and 40: the model's choice). -/
def State.layersTell (s : State) (d : Display) : State :=
  let applied := (s.tellReleased d (s.releasedByChange d .video)).tellReleased d (s.releasedByChange d .menu)
  let video := (applied.tellReleased d (s.releasedBySelection d .video)).warnStarved s d .video
  (video.tellReleased d (s.releasedBySelection d .menu)).warnStarved s d .menu

/-- The frames that a boundary releases, in order (R142, R151 to R153). -/
def State.releasedAtBoundary (s : State) (d : Display) : List (ScanLayer × QueueEntry × Nat) :=
  s.releasedByChange d .video ++ s.releasedByChange d .menu ++ s.releasedBySelection d .video ++
    s.releasedBySelection d .menu

/-! ### What a command may change -/

/-- The parts of the state, one for each field of `State`. -/
inductive Part where
  | time | pending | dram | startup | link | regions | roles | arb | taker | rw
  | store | camera | vehicle | reverse | park | guide | displays | compositor | audio
  deriving DecidableEq, Repr

/-- The part is the same in both states. -/
def Part.same (s t : State) : Part → Prop
  | .time => t.time = s.time
  | .pending => t.pending = s.pending
  | .dram => t.dram = s.dram
  | .startup => t.startup = s.startup
  | .link => t.link = s.link
  | .regions => t.regions = s.regions
  | .roles => t.roles = s.roles
  | .arb => t.arb = s.arb
  | .taker => t.taker = s.taker
  | .rw => t.rw = s.rw
  | .store => t.store = s.store
  | .camera => t.camera = s.camera
  | .vehicle => t.vehicle = s.vehicle
  | .reverse => t.reverse = s.reverse
  | .park => t.park = s.park
  | .guide => t.guide = s.guide
  | .displays => t.displays = s.displays
  | .compositor => t.compositor = s.compositor
  | .audio => t.audio = s.audio

/-- Nothing has changed outside the parts listed. -/
def Within (ps : List Part) (s t : State) : Prop := ∀ p, p ∉ ps → p.same s t

/-- Parts that taking a request of any kind may change (R21, R24): the taker, the link path, and the report writer, with
those of the kind. -/
def requestParts (own : List Part) : List Part := .taker :: .link :: .rw :: own

/-- The parts that each command may change, where it completes. DRAM stands in one row only: a byte of DRAM changes by a
grant of the arbiter and by nothing else (R16). -/
def footprint : Instr → List Part
  | .powerOnReset | .pinReset =>
    [.time, .startup, .link, .regions, .roles, .arb, .taker, .rw, .store, .camera, .vehicle, .reverse, .park, .guide,
      .displays, .compositor, .audio]
  | .loadStepComplete =>
    [.startup, .regions, .roles, .rw, .store, .camera, .vehicle, .reverse, .park, .guide, .displays, .compositor, .audio]
  | .linkTraining => [.link]
  | .lossOfLink => [.link, .regions, .taker, .rw, .store, .reverse, .displays, .audio]
  | .linkRead _ _ => [.link, .rw]
  | .linkWrite _ _ | .requestProducerIndex _ | .reportConsumerIndex _ | .mediaProducerIndex _ _ =>
    [.link, .taker, .rw, .audio]
  | .dramGrant => [.dram, .arb, .link, .taker, .rw, .store, .camera, .displays, .audio]
  | .unknownRequestKind | .setFaultMask | .clearFaults => requestParts []
  | .publish => requestParts [.regions, .displays]
  | .setLayer | .holdChanges | .releaseChanges | .pushView => requestParts [.displays]
  | .popView | .showCamera | .closeCamera => requestParts [.displays, .reverse]
  | .defineRegion | .deleteRegion => requestParts [.regions]
  | .audioStart | .audioStop => requestParts [.regions, .audio]
  | .audioGain => requestParts [.audio]
  | .playChime | .stopChimes | .storeRead | .storeProgram | .storeErase | .storeLockCalibration =>
    requestParts [.store, .audio]
  | .systemRestart => requestParts [.regions, .store, .reverse, .displays, .audio]
  | .storeProgramComplete | .storeEraseComplete | .storeReadComplete | .lockWriteComplete | .stagingComplete
  | .chimeEnd _ => [.store, .rw, .audio]
  | .suspensionAsk | .suspensionTakesEffect => [.store]
  | .frameStart _ | .line _ _ | .frameEnd _ _ | .otherCameraPacket _ | .signalTimerExpiry | .captureComplete =>
    [.camera, .rw]
  | .canFrame _ _ _ => [.vehicle, .guide, .reverse, .park, .displays, .audio, .store, .rw]
  | .freshnessExpiry _ => [.vehicle, .guide, .park, .audio, .store, .rw]
  | .stalePeriodEnd | .pinDebounceExpiry => [.vehicle, .reverse, .park, .displays, .audio, .store, .rw]
  | .reversePinChange _ => [.vehicle]
  | .holdOffExpiry => [.displays, .reverse, .rw]
  | .parkOfferTime => [.park, .audio, .store, .rw]
  | .displayFrameBoundary .front => [.displays, .regions, .rw, .camera, .compositor, .guide]
  | .displayFrameBoundary .rearLeft | .displayFrameBoundary .rearRight => [.displays, .regions, .rw]
  | .guideBuildComplete => [.guide, .rw]
  | .latePixel _ _ _ => [.displays, .rw]
  | .activeRowFetch _ => [.displays]
  | .sampleTime => [.audio, .rw]
  | .startDelayExpiry _ | .millisecondTick => [.audio]

/-! ### Canonical memories -/

/-- DRAM and the store's bytes are in canonical form. -/
def State.Canonical (s : State) : Prop :=
  s.dram.wf = true ∧ cellsFrom (storeUnlisted s.store.background) 0 s.store.cells = true

/-! ### View stacks (R130) -/

/-- The FRONT stack agrees with the reverse state (R130): OFF holds no CAMERA view, MANUAL one unpinned CAMERA view, ENGAGED
and HOLDOFF one pinned CAMERA view, on top. -/
def frontStackLegal (r : ReverseState) (st : List View) : Bool :=
  match r with
  | .off => st.all fun v => v.owner == .system
  | .manual => (st.filter fun v => v.owner == .camera).map View.pinned == [false]
  | .engaged | .holdOff => topPinned st && st.dropLast.all fun v => v.owner == .system

/-- Every view stack holds at most 4 views, the FRONT stack agrees with the reverse state, and the rear stacks hold no
CAMERA view (R130). -/
def State.StacksLegal (s : State) : Prop :=
  (∀ d, (s.stack d).length ≤ 4) ∧ frontStackLegal s.reverse.state (s.stack .front) = true ∧
    ∀ d, d ≠ .front → ((s.stack d).all fun v => v.owner == .system) = true

/-! ### Capture buffers and gain (R78, R85) -/

/-- The writing buffer is neither newest nor displaying (R78), and the gain and the applied gain lie in 16 to 63 (R85, R87). -/
def State.PictureSafe (s : State) : Prop :=
  (∀ k, s.camera.writing = some k → s.camera.newest.map Prod.fst ≠ some k ∧ s.camera.displaying ≠ some k) ∧
    16 ≤ s.camera.gain ∧ s.camera.gain ≤ 63 ∧ 16 ≤ s.compositor.appliedGain ∧ s.compositor.appliedGain ≤ 63

/-! ### Bounds -/

/-- Ring indices, counters, lists and the arbiter's records keep the bounds the manual gives them (R3, R16, R17, R20, R28, R30,
R40, 9.1). -/
structure State.Bounded (s : State) : Prop where
  requestRing : s.taker.consumer < 256 ∧ s.taker.producer < 256
  reportRing : s.rw.producer < 128 ∧ s.rw.consumer < 128
  lost : s.rw.lost ≤ 65535
  counters : ∀ k, (s.rw.fault k).counter ≤ 65535
  responses : s.link.responses.length ≤ 16
  window : s.arb.window.length ≤ 3
  storeGap : s.arb.storeGap ≤ 63
  positions : s.arb.posA < 2 ∧ s.arb.posB < 4
  storeQueue : s.store.queue.length ≤ 4
  queues : ∀ d l, (s.layer d l).queue.length ≤ 4

/-! ### Hold counts (R11) -/

/-- The frames of a layer's presentation queue, pending and current. -/
def LayerState.entries (v : LayerState) : List QueueEntry := v.queue ++ (v.current.map Prod.fst).toList

/-- The frames of all six presentation queues. -/
def State.entries (s : State) : List QueueEntry :=
  s.displays.front.video.entries ++ s.displays.front.menu.entries ++ s.displays.rearLeft.video.entries
    ++ s.displays.rearLeft.menu.entries ++ s.displays.rearRight.video.entries ++ s.displays.rearRight.menu.entries

/-- How many frames of the presentation queues name a region. -/
def State.named (s : State) (ident : Nat) : Nat := s.entries.countP fun e => e.region == ident

/-- Every FRAME region's hold count is the number of frames, pending or current, that name it (R11). The rest is what makes
this hold from step to step: region ids are distinct, every frame names a FRAME region of the table, and while LOADING no
frame is queued and no request can be taken. -/
structure State.HoldsMatch (s : State) : Prop where
  distinct : (s.regions.map Region.ident).Nodup
  counts : ∀ r ∈ s.regions, r.kind = .frame → r.hold = s.named r.ident
  present : ∀ e ∈ s.entries, ∃ r ∈ s.regions, r.ident = e.region ∧ r.kind = .frame
  loading : s.startup.state = .loading →
    s.entries = [] ∧ s.link.up = false ∧ s.link.path = [] ∧ s.taker.fetch = .idle

/-! ### Chime queues and the staging buffer (R173, R175, R179) -/

/-- Every queue holds at most 4 entries, no player is IDLE with an entry pending, and no chime waits for a free buffer; the
chimes on the wait list are STARTING, at most one of each pair, and none of them is the buffer's user. -/
structure State.ChimesSettled (s : State) : Prop where
  queues : ∀ d, (s.audio.chimes.get d).queue.length ≤ 4
  players : ∀ d, (s.audio.chimes.get d).player = .idle → (s.audio.chimes.get d).queue = []
  served : s.audio.buffer.free = true → s.audio.buffer.waiters = []
  distinct : s.audio.buffer.waiters.Nodup
  waiting : ∀ d ∈ s.audio.buffer.waiters,
    s.audio.buffer.user ≠ some d ∧ ∃ c, (s.audio.chimes.get d).player = .starting c

/-- `kept` is what a newcomer of a priority finds in a queue (R175): the whole queue where it is not full, else the queue without the
oldest entry of its lowest priority, where the newcomer is above that. -/
def MakesRoom (queue kept : List Chime) (priority : Nat) : Prop :=
  (queue.length < 4 ∧ kept = queue) ∨
    (queue.length = 4 ∧ ∃ before low after, queue = before ++ low :: after ∧ kept = before ++ after ∧
      low.priority < priority ∧ (∀ x ∈ before, low.priority < x.priority) ∧ ∀ x ∈ after, low.priority ≤ x.priority)

/-- The buffer as the chime of a pair leaves it (R176, R179): it uses it no longer and waits for it no longer. -/
def StagingBuffer.without (b : StagingBuffer) (d : Display) : StagingBuffer :=
  { b with user := if b.user = some d then none else b.user, waiters := b.waiters.filter fun w => decide (w ≠ d) }

/-! ### The calibration lock (R38) -/

/-- A store request would change block 0. -/
def StoreRequest.touchesCalibration (r : StoreRequest) : Bool :=
  match r.work with
  | .read _ _ _ | .lock => false
  | .program offset _ _ => blockOf offset == 0
  | .erase block => block == 0

/-- No request of the list that changes block 0 stands behind a lock. -/
def lockOrdered : Bool → List StoreRequest → Bool
  | _, [] => true
  | locked, r :: rest =>
    !(locked && r.touchesCalibration) && lockOrdered (locked || r.work == .lock) rest

/-- The operation in progress and then the queue, in the order they run. -/
def Store.work (st : Store) : List StoreRequest := (st.op.map StoreOp.request).toList ++ st.queue

/-- The lock mark and its copy agree, and nothing that changes block 0 is to run once the lock is set (R38, R41, R43). The
last two say how the store controller's own state holds together (R39, R48, R49): an IDLE store has nothing in progress and
nothing waiting, and a staging runs in READING with no operation or beside a suspended one. -/
structure State.LockSafe (s : State) : Prop where
  copy : s.store.lockCopy = s.store.lockMark
  ordered : lockOrdered s.store.lockMark s.store.work = true
  idle : s.store.state = .idle → s.store.op = none ∧ s.store.queue = [] ∧ s.store.staging = none
  running : ∀ g since, s.store.staging = some g → g.phase = .running since →
    (s.store.state = .reading ∧ s.store.op = none) ∨
      ((s.store.state = .suspendedProgram ∨ s.store.state = .suspendedErase) ∧ s.store.op ≠ none)

/-! ### System restart (R63) -/

/-- What a system restart has done to the link-side state (R19, R36, R105, R146, R147, R165, R185). The arrival of reports
after it, and the settling of the chime players, are left to the statements that use this. -/
structure Restarted (s t : State) : Prop where
  regions : t.regions = (s.regions.filter fun r => r.origin == .layout).map fun r => { r with hold := 0, stream := none }
  views : ∀ d, t.stack d = (s.stack d).filter fun v => v.owner == .camera && v.pinned
  holds : ∀ d, (t.displays.get d).hold = false
  layers : ∀ d l, t.layer d l =
    { s.layer d l with
      applied := .default, staged := none, queue := [], current := none, lastSelection := s.time, armed := true }
  scans : ∀ d, (t.displays.get d).scan = (s.displays.get d).scan ∧
    (t.displays.get d).nextBoundary = (s.displays.get d).nextBoundary
  reverse : t.reverse = { s.reverse with state := if s.reverse.state = .manual then .off else s.reverse.state }
  streams : ∀ d, (t.audio.streams.get d).running = false ∧ (t.audio.streams.get d).consumer = 0 ∧
    (t.audio.streams.get d).producer = 0 ∧ (t.audio.streams.get d).held = 0
  systemChimes : ∀ d, (∀ c ∈ (t.audio.chimes.get d).queue, c.owner = .part) ∧
    ∀ c, (t.audio.chimes.get d).player.chime = some c → c.owner = .part
  taker : t.taker = { consumer := 0, producer := 0, fetch := .idle }
  consumer : t.rw.consumer = 0
  lost : t.rw.lost = 0
  masks : ∀ k, (t.rw.fault k).masked = true
  flags : ∀ k, k ≠ .chimeUnavailable → (t.rw.fault k).flag = false ∧ (t.rw.fault k).detail = 0 ∧
    (t.rw.fault k).counter = (s.rw.fault k).counter
  updateCount : t.rw.updateCount = s.rw.updateCount
  store : { t.store with staging := s.store.staging, state := s.store.state } = s.store
  kept : t.time = s.time ∧ t.dram = s.dram ∧ t.startup = s.startup ∧ t.roles = s.roles ∧ t.arb = s.arb ∧
    t.camera = s.camera ∧ t.vehicle = s.vehicle ∧ t.park = s.park ∧ t.guide = s.guide ∧ t.compositor = s.compositor

end Sys2Proof.Machine
end

