-- ==== Sys2Proof/Certificates/Slice0/Obligations.lean ====
section
/-! DEFINITION. What the provers are asked to prove of the model. Each statement's docstring names the rules of spec/ it rests
on, and the log entry where a clause is the model's choice. -/

open Sys2Proof Sys2Proof.Machine

/-! ### The queue of commands -/

/-- A step runs the command at the front of the queue on the state with the queue's rest; on an empty queue one microsecond
passes (log 2: the model's choice). -/
def Obligations.StepRunsFrontCommand : Prop :=
  (∀ (c : Instr) (rest : List Instr) (s : State), s.pending = c :: rest → step s = exec c { s with pending := rest }) ∧
    ∀ s : State, s.pending = [] → step s = .next { s with time := s.time + 1 }

/-! ### Resets and the start-up load (chapter 4) -/

/-- A power-on reset and a pin reset put every block at its value after reset (R18, R36, R51, R54, R88, R110, R128, R145,
R165, R184), the store state IDLE (log 29: the model's choice while LOADING);
the store's bytes outside a block whose program or erase was under way, the marks and the lock stay (R51). That DRAM and the
level of the reverse pin are kept is the model's reading (log 18), and that no access waits at the arbiter any longer is its choice
(log 37). -/
def Obligations.ResetRestoresDevice : Prop :=
  ∀ c, c = Instr.powerOnReset ∨ c = Instr.pinReset → ∀ s : State, Completes c s fun t =>
    (t.time = 0 ∧ t.startup.state = .loading ∧ t.startup.step = 1 ∧ t.pending = s.pending ∧ t.dram = s.dram) ∧
    (t.link.up = false ∧ t.link.responses = [] ∧ t.regions = [] ∧ t.roles = none ∧ t.arb.window = [] ∧ t.arb.storeGap = 0 ∧
      t.arb.posA = 0 ∧ t.arb.posB = 0) ∧
    (t.taker.consumer = 0 ∧ t.taker.producer = 0 ∧ t.rw.producer = 0 ∧ t.rw.consumer = 0 ∧ t.rw.lost = 0 ∧
      t.rw.updateCount = 0 ∧ ∀ k, t.rw.fault k = { flag := false, masked := true, counter := 0, detail := 0 }) ∧
    (t.link.path = [] ∧ t.link.held = [] ∧ t.rw.queue = [] ∧ t.camera.queue = [] ∧ t.audio.fetchQueue = [] ∧
      t.store.transfers = [] ∧ ∀ d, (t.displays.get d).scan.queue = []) ∧
    (t.store.marks = s.store.marks ∧ t.store.lockMark = s.store.lockMark ∧ t.store.state = .idle ∧ t.store.queue = [] ∧
      t.store.op = none ∧ t.store.staging = none ∧ t.store.lastTag = 0 ∧ t.store.lastKind = 0 ∧ t.store.lastCode = .ok ∧
      ∀ a, s.store.op.bind StoreOp.target ≠ some (blockOf a) → t.store.byte a = s.store.byte a) ∧
    (t.camera.running = false ∧ t.camera.align = .noSignal ∧ t.camera.timer = none ∧ t.camera.frame = none ∧ t.camera.previous = none ∧
      t.camera.goodRun = 0 ∧ t.camera.erroredRun = 0 ∧ t.camera.writing = none ∧ t.camera.newest = none ∧
      t.camera.displaying = none ∧ t.camera.gain = 16 ∧ t.camera.candidate = none ∧ t.camera.freshLock = false) ∧
    (t.vehicle.receiving = false ∧ t.vehicle.table = [] ∧ t.vehicle.candidate = none ∧ t.vehicle.pinAccepted = false ∧
      t.vehicle.pinChanged = 0 ∧ t.vehicle.pinLevel = s.vehicle.pinLevel ∧
      ∀ g, t.vehicle.records.get g = { value := 0, state := .never, deadline := none, staleSince := none }) ∧
    (t.reverse.running = false ∧ t.reverse.state = .off ∧ t.reverse.timer = none ∧ t.park.active = false ∧ t.park.band = none) ∧
    (t.guide.kappa = 0 ∧ t.guide.flags = GuideFlags.clear ∧ t.guide.tableZero = [] ∧ t.guide.tableOne = [] ∧
      t.guide.shown = none ∧ t.guide.ready = none ∧ t.guide.building = none ∧ t.guide.config = none) ∧
    (t.compositor.fallbackShown = false ∧ ∀ d, t.stack d = [] ∧ (t.displays.get d).hold = false ∧
      ∀ l, (t.layer d l).applied = LayerSetting.default ∧ (t.layer d l).staged = none ∧ (t.layer d l).queue = [] ∧
        (t.layer d l).current = none ∧ (t.layer d l).releasedShown = 0 ∧ (t.layer d l).dropped = 0) ∧
    (t.audio.running = false ∧ t.audio.buffer.content = none ∧ t.audio.buffer.user = none ∧ t.audio.buffer.asked = none ∧
      t.audio.buffer.waiters = [] ∧ ∀ d, (t.audio.streams.get d).running = false ∧ (t.audio.streams.get d).ring = none ∧
        (t.audio.streams.get d).consumer = 0 ∧ (t.audio.streams.get d).producer = 0 ∧ (t.audio.streams.get d).held = 0 ∧
        (t.audio.streams.get d).setGain = 0 ∧ (t.audio.streams.get d).gEff = 0 ∧ (t.audio.streams.get d).buffer = [] ∧
        (t.audio.streams.get d).underrun = false ∧ (t.audio.streams.get d).startDelay = none ∧
        (t.audio.chimes.get d).arrivals = 0 ∧ (t.audio.chimes.get d).queue = [] ∧ (t.audio.chimes.get d).player = .idle)

/-- Load step 1 (R55): the block status table and the lock copy are read from the protection row, and each INCOMPLETE block
raises STORE_FAIL, in ascending order (log 10: the model's choice), so the lowest gives the detail of a clear flag. Load step 4 (R58): a clip keeps its resident flag
exactly where it asks for residency, fits what the clips before it have left of 131,072 bytes, and has no INCOMPLETE block;
the cache then holds its bytes, and no more than 131,072 in all. -/
def Obligations.LoadReadsMarksAndFillsCache : Prop :=
  (∀ s : State, s.startup.state = .loading → s.startup.step = 1 → (s.rw.fault .storeFail).counter ≤ 65535 →
     let bad := (List.range 32).filter fun b => s.store.marks.toList.getD b .erased == .incomplete
     Completes .loadStepComplete s fun t =>
       t.startup = { s.startup with step := 2 } ∧
       t.store = { s.store with table := s.store.marks, lockCopy := s.store.lockMark } ∧
       t.rw.fault .storeFail =
         { flag := (s.rw.fault .storeFail).flag || !bad.isEmpty, masked := (s.rw.fault .storeFail).masked
           counter := min ((s.rw.fault .storeFail).counter + bad.length) 65535
           detail := if (s.rw.fault .storeFail).flag then (s.rw.fault .storeFail).detail
             else bad.headD (s.rw.fault .storeFail).detail } ∧
       (∀ k, k ≠ .storeFail → t.rw.fault k = s.rw.fault k) ∧ Within [.startup, .store, .rw] s t) ∧
  ∀ s : State, s.startup.state = .loading → s.startup.step = 4 → Completes .loadStepComplete s fun t =>
    t.startup = { s.startup with step := 5 } ∧ t.audio.clips.length = s.audio.clips.length ∧
    (t.audio.cache.map fun e => e.2.length).sum ≤ 131072 ∧
    (∀ (i : Nat) (h : i < t.audio.clips.length) (c : Clip), s.audio.clips[i]? = some c →
      let used := ((t.audio.clips.take i).map fun k => if k.resident then k.length else 0).sum
      t.audio.clips[i] =
        { c with
          resident := c.wanted && decide (used + c.length ≤ 131072) &&
            (blocksOf c.offset c.length).all fun b => s.store.status b != .incomplete } ∧
      (t.audio.cache.find? fun e => e.1 == i) =
        if t.audio.clips[i].resident then some (i, s.store.bytes c.offset c.length) else none) ∧
    { t.audio with clips := s.audio.clips, cache := s.audio.cache } = s.audio ∧ Within [.startup, .audio] s t

/-- Load steps 2 and 3 (R56, R57): a valid layout fills the region table, fixes the roles, starts CAN reception and configures
the reverse controller, the park pattern and the audio engine; a valid calibration configures the camera receiver and the
guide engine, an invalid one leaves the defaults of R60; the camera receiver starts either way. -/
def Obligations.LoadTakesStoredRecords : Prop :=
  (∀ (s : State) (y : Layout), s.startup.state = .loading → s.startup.step = 2 →
    (s.store.validRecord 1 32).bind readLayout = some y →
    exec .loadStepComplete s = .next
      { s with
        startup := { s.startup with step := 3, layoutValid := true, fallbackOffset := y.fallbackOffset }
        regions := y.regions, roles := some y.roles
        vehicle := { s.vehicle with table := y.table, receiving := true }
        reverse := { s.reverse with source := y.source, holdOffMs := y.holdOffMs, exitSpeed := y.exitSpeed }
        park := { s.park with table := y.bands }
        audio := { s.audio with clips := y.clips, duck := y.duck } }) ∧
  (∀ s : State, s.startup.state = .loading → s.startup.step = 3 → (s.store.validRecord 0 76).bind readCalibration = none →
    exec .loadStepComplete s = .next
      { s with
        startup := { s.startup with step := 4 }
        camera := { s.camera with
          running := true
          config := { cropCol := 32, cropRow := 20, mirror := false, tLo := 100, tHi := 124, dLo := 64, dHi := 176 } } }) ∧
  ∀ (s : State) (y : Calibration), s.startup.state = .loading → s.startup.step = 3 →
    (s.store.validRecord 0 76).bind readCalibration = some y →
    Completes .loadStepComplete s fun t =>
      t.startup = { s.startup with step := 4, calibrationValid := true } ∧
      t.camera = { s.camera with running := true, config := y.camera } ∧
      t.guide.config = some y.guide ∧
      (s.vehicle.records.steering.state = .fresh →
        t.guide.kappa = curvature y.guide.curve s.vehicle.records.steering.value ∧ t.guide.flags.isStatic = false) ∧
      (s.vehicle.records.steering.state ≠ .fresh → t.guide.kappa = 0 ∧ t.guide.flags.isStatic = true) ∧
      Within [.startup, .camera, .guide] s t

/-- The close of the load (R35, R59, R60, R61, R165): load step 5 copies the fallback picture, or, where a block it lies in is
INCOMPLETE, fills it with plain dark grey; the start-up state follows from the two records; SERVICE takes the four default
regions; the audio engine, the reverse controller (ENGAGED at once where reverse is asserted) and the three displays start,
each with a frame boundary. With the link DOWN the identity record and the first full rewrite, its update count two further and
its state byte the new start-up state, are all that the report writer presents, the rewrite's
content in ascending pieces (log 43: the model's choice). The store enters IDLE last (R39, R61): the rewrite shows IDLE (log 29:
the model's choice), and a staging that the REVERSE_TONE needs starts after it; a tone of a resident clip needs none. -/
def Obligations.LoadCloseStartsDevice : Prop :=
  ∀ s : State, s.startup.state = .loading → s.reverse.state = .off → s.reverse.running = false →
    let unopened := s.store.state = .idle ∧ s.store.op = none ∧ s.store.staging = none
    let broughtUp := fun (status : Nat) (state : Byte) (q : List DeviceWrite) =>
      ∃ shot : List Byte, shot.length = 0xFDC ∧ shot[0x030 - 0x024]? = some state ∧
        (unopened → shot[0x07C - 0x024]? = some 0) ∧
        q = s.rw.queue ++ { addr := status, bytes := identityBytes, bringUp := true } ::
          rewriteAccesses status s.rw.updateCount shot true
    (s.startup.step = 2 → (s.store.validRecord 1 32).bind readLayout = none →
      Completes .loadStepComplete s fun t =>
        t.startup.state = .service ∧ t.audio.running = true ∧ t.reverse = s.reverse ∧ t.camera.running = s.camera.running ∧
        t.vehicle = s.vehicle ∧ (unopened → t.store = s.store) ∧
        (t.regions.map fun r => (r.ident, r.kind, r.base, r.size, r.origin)) =
          [(0, .control, 0x0000, 4096, .layout), (1, .status, 0x1000, 4096, .layout),
            (2, .status, 0x2000, 4096, .layout), (3, .requestRing, 0x4000, 8192, .layout)] ∧
        t.roles = some { requestRing := 0x4000, reportRing := 0x2000, controlPage := 0, statusBlock := 0x1000
                         cameraArea := none } ∧
        t.rw.updateCount = s.rw.updateCount + 2 ∧ (s.link.up = false → broughtUp 0x1000 3 t.rw.queue) ∧
        ∀ d, (t.displays.get d).nextBoundary = later s.time 16667 ∧
          (t.displays.get d).scan.frameNo = (s.displays.get d).scan.frameNo + 1) ∧
    (5 ≤ s.startup.step → ∀ roles, s.roles = some roles →
      Completes .loadStepComplete s fun t =>
        let offset := s.startup.fallbackOffset
        let intact := ∀ b, offset / 65536 ≤ b → b ≤ (offset + 16447) / 65536 → s.store.status b ≠ .incomplete
        (intact → t.compositor.fallbackIndices = s.store.bytes offset 16384 ∧
          t.compositor.fallbackPalette = (List.range 16).map fun i =>
            BitVec.ofNat 32 (fieldAt (s.store.bytes (offset + 16384 + 4 * i) 4) 0 4)) ∧
        (¬ intact → t.compositor.fallbackIndices = List.replicate 16384 0 ∧
          t.compositor.fallbackPalette = 0xFF202020#32 :: List.replicate 15 0xFF000000#32) ∧
        t.startup = { s.startup with state := if s.startup.calibrationValid then .normal else .degraded } ∧
        t.audio.running = true ∧ t.reverse.running = true ∧ t.camera.align = s.camera.align ∧
        (t.guide.flags.unavailable = (s.guide.flags.unavailable || !s.startup.calibrationValid)) ∧
        t.rw.updateCount = s.rw.updateCount + 2 ∧
        (s.link.up = false →
          broughtUp roles.statusBlock (if s.startup.calibrationValid then 1 else 2) t.rw.queue) ∧
        (s.assertedReverse = false → t.reverse.state = .off ∧ t.stack .front = s.stack .front ∧
          (unopened → t.store = s.store)) ∧
        (s.assertedReverse = true → unopened → s.audio.buffer.free = true → s.audio.buffer.content = none →
          s.audio.buffer.waiters = [] →
          (∀ d, (s.audio.chimes.get d).queue = [] ∧ (s.audio.chimes.get d).player = .idle) →
          ∀ clip, s.audio.clips[0]? = some clip →
            (clip.resident = true → t.store = s.store) ∧
            (clip.resident = false → s.store.anyIncomplete clip.offset clip.length = false →
              t.store =
                { s.store with
                  state := .reading
                  staging := some { clip := 0, offset := clip.offset, length := clip.length, phase := .running s.time } })) ∧
        (s.assertedReverse = true → s.stack .front = [] → t.reverse.state = .engaged ∧
          t.stack .front = [{ owner := .camera, tag := 0, video := false, menu := false, background := 0xFF000000#32
                              pinned := true }]) ∧
        ∀ d, (t.displays.get d).nextBoundary = later s.time 16667 ∧
          (t.displays.get d).scan.view = (t.stack d).getLast? ∧
          (t.displays.get d).scan.frameNo = (s.displays.get d).scan.frameNo + 1)

/-- A stored record passes R53 exactly where its block is not INCOMPLETE and its length and CRC are right; its contents are taken
exactly where they keep every rule of R6, R56, R91, R106 and R189 (a layout) or of R82, R112 and R189 (a calibration), reserved
bytes and roles among them. What is taken then has its lists, ids, roles and fields within their bounds. -/
def Obligations.StoredRecordsTakenOnlyIfValid : Prop :=
  (∀ (rec : List Byte) (y : Layout), readLayout rec = some y →
     (1 ≤ y.regions.length ∧ y.regions.length ≤ 16 ∧ y.table.length ≤ 8 ∧ y.bands.length ≤ 5 ∧ y.clips.length ≤ 16 ∧
       rec.length = 32 + 12 * y.regions.length + 12 * y.table.length + 8 * y.bands.length + 12 * y.clips.length) ∧
     (∀ (i : Nat) (h : i < y.regions.length), y.regions[i].ident = i ∧ y.regions[i].origin = .layout ∧
       y.regions[i].hold = 0 ∧ y.regions[i].stream = none ∧ y.regions[i].base % 4096 = 0 ∧ y.regions[i].size % 4096 = 0 ∧
       4096 ≤ y.regions[i].size ∧ y.regions[i].size ≤ 0x10000000 ∧
       y.regions[i].base + y.regions[i].size ≤ 0x80000000) ∧
     (y.regions.Pairwise fun a b => a.base + a.size ≤ b.base ∨ b.base + b.size ≤ a.base) ∧
     (∃ ring report page status camera : Region, ring ∈ y.regions ∧ report ∈ y.regions ∧ page ∈ y.regions ∧
       status ∈ y.regions ∧ camera ∈ y.regions ∧ ring.kind = .requestRing ∧ ring.size = 8192 ∧ report.kind = .status ∧
       report.size = 4096 ∧ page.kind = .control ∧ page.size = 4096 ∧ status.kind = .status ∧ status.size = 4096 ∧
       report.ident ≠ status.ident ∧ camera.kind = .locked ∧ 5529600 ≤ camera.size ∧
       y.roles = { requestRing := ring.base, reportRing := report.base, controlPage := page.base
                   statusBlock := status.base, cameraArea := some camera.base }) ∧
     (∀ e ∈ y.table, e.ident ≤ 0x7FF ∧ (e.width = 1 ∨ e.width = 2) ∧ e.startByte + e.width ≤ 8 ∧ 50 ≤ e.limitMs ∧
       e.limitMs ≤ 2000 ∧ ∀ m, e.marker = some m → e.width = 1 → m ≤ 255) ∧
     ((y.bands.map Band.limit).Pairwise (· < ·) ∧ ∀ b ∈ y.bands, ∀ ms, b.interval = some ms → 100 ≤ ms ∧ ms ≤ 5000) ∧
     (∀ c ∈ y.clips, c.length % 2 = 0 ∧ 2 ≤ c.length ∧ c.length ≤ 65536 ∧ c.gain ≤ 127 ∧ 0x20000 ≤ c.offset ∧
       c.offset + c.length ≤ 0x200000) ∧
     y.duck ≤ 64 ∧ y.holdOffMs ≤ 20000 ∧ 0x20000 ≤ y.fallbackOffset ∧ y.fallbackOffset + 16448 ≤ 0x200000) ∧
  (∀ (rec : List Byte) (y : Calibration), readCalibration rec = some y →
    (y.camera.cropCol % 2 = 0 ∧ y.camera.cropCol ≤ 64 ∧ y.camera.cropRow % 2 = 0 ∧ y.camera.cropRow ≤ 40 ∧
      16 ≤ y.camera.dLo ∧ y.camera.dLo ≤ y.camera.tLo ∧ y.camera.tLo ≤ y.camera.tHi ∧ y.camera.tHi ≤ y.camera.dHi ∧
      y.camera.dHi ≤ 235) ∧
    (2 ≤ y.guide.curve.length ∧ y.guide.curve.length ≤ 16 ∧ (y.guide.curve.map Prod.fst).Pairwise (· < ·) ∧
      ∀ p ∈ y.guide.curve, -32768 ≤ p.1 ∧ p.1 ≤ 32767 ∧ -32767 ≤ p.2 ∧ p.2 ≤ 32767) ∧
    (1 ≤ y.guide.marks.length ∧ y.guide.marks.length ≤ 8 ∧ y.guide.marks.Pairwise (· < ·) ∧
      ∀ d ∈ y.guide.marks, 100 ≤ d ∧ d ≤ 8000) ∧
    500 ≤ y.guide.halfWidth ∧ y.guide.halfWidth ≤ 1200 ∧ 0 ≤ y.guide.overhang ∧ y.guide.overhang ≤ 2000 ∧
    100 ≤ y.guide.b1 ∧ y.guide.b1 ≤ y.guide.b2 ∧ y.guide.b2 ≤ 8000 ∧ 1 ≤ y.guide.lineHalf ∧ y.guide.lineHalf ≤ 8 ∧
    rec.length = 76 + 4 * y.guide.curve.length + 2 * y.guide.marks.length) ∧
  (∀ rec : List Byte, ((∃ y, readLayout rec = some y) ↔ LayoutRules rec) ∧
    ((∃ y, readCalibration rec = some y) ↔ CalibrationRules rec)) ∧
  ∀ (st : Store) (block minimum : Nat) (rec : List Byte), st.validRecord block minimum = some rec ↔
    st.status block ≠ .incomplete ∧ minimum ≤ rec.length ∧ rec.length ≤ 65536 ∧
      fieldAt (st.bytes (block * 65536) 4) 0 4 = rec.length ∧ rec = st.bytes (block * 65536) rec.length ∧
      crc32 (rec.take 4 ++ rec.drop 8) = BitVec.ofNat 32 (fieldAt rec 4 4)

/-! ### The link (chapter 1) -/

/-- Training is accepted outside LOADING and refused in it (R1); loss of link takes the link DOWN, discards the response list
unanswered, carries on the writes already taken, and restarts the link side (R2, R63, R64). That a discarded read or record fetch
stays in class C and is granted without effect is the model's reading (log 9), and so is that the transactions held by flow
control are gone (log 7). -/
def Obligations.LinkTrainingAndLoss : Prop :=
  (∀ s : State, s.startup.state ≠ .loading → s.link.up = false →
    exec .linkTraining s = .next { s with link := { s.link with up := true } }) ∧
  (∀ s : State, s.startup.state = .loading → exec .linkTraining s = .next s) ∧
  ∀ s : State, s.link.up = true → Completes .lossOfLink s fun t =>
    Restarted s t ∧ t.rw.producer = 0 ∧ t.link.up = false ∧ t.link.responses = [] ∧ t.link.held = [] ∧
    t.link.answered = s.link.answered ∧
    t.link.path = s.link.path.map fun a => match a with
      | .read addr len _ => .read addr len false
      | .write addr lanes media => .write addr lanes media
      | .record addr _ => .record addr false

/-- An in-range READ joins the response list and enters class C (R3). A transaction waits while the response list holds 16 (R3),
while a write of the bring-up waits for its grant (R62), and behind those that wait already (log 7); it is taken when a response
makes room, or when the last bring-up write is granted. That the hold stands also after a new training that follows a loss of
link, where R64 speaks of no status-block wait, is the model's choice (log 46). An out-of-range READ raises BAD_ADDRESS, makes no access, and is answered
in its turn with zeros and the error flag (R4, R5). A length outside 1 to 64 cannot arrive (R3; that the model stops there is
its choice, log 34). -/
def Obligations.LinkReadsAreTakenInOrder : Prop :=
  (∀ (s : State) (addr : BitVec 32) (len : Nat), LinkReady s → InRange addr.toNat len →
    exec (.linkRead addr len) s = .next
      { s with
        link := { s.link with
          responses := s.link.responses ++ [{ answer := none, error := false }]
          path := s.link.path ++ [.read addr.toNat len true] } }) ∧
  (∀ s : State, s.link.up = true →
    16 ≤ s.link.responses.length ∨ (∃ w ∈ s.rw.queue, w.bringUp = true) ∨ s.link.held ≠ [] →
    (∀ (addr : BitVec 32) (len : Nat), 1 ≤ len → len ≤ 64 →
      exec (.linkRead addr len) s = .next { s with link := { s.link with held := s.link.held ++ [.read addr len] } }) ∧
    ∀ (addr : BitVec 32) (lanes : List (Option Byte)), 1 ≤ lanes.length → lanes.length ≤ 64 →
      exec (.linkWrite addr lanes) s = .next
        { s with link := { s.link with held := s.link.held ++ [.write addr lanes] } }) ∧
  (∀ (s : State) (first : BitVec 32) (wanted : Nat) (others : List Transaction), s.link.up = true →
    s.link.held = .read first wanted :: others → InRange first.toNat wanted →
    (∀ addr len rest r more, chooseClient s.arb s.waits = some .link → s.link.path = .read addr len true :: rest →
      s.link.responses = r :: more → r.answer = none → (∀ x ∈ more, x.answer = none) → more.length = 15 →
      (∀ w ∈ s.rw.queue, w.bringUp = false) → Completes .dramGrant s fun t =>
        t.link =
          { s.link with
            responses := more ++ [{ answer := none, error := false }], held := others
            path := rest ++ [.read first.toNat wanted true]
            answered := s.link.answered ++ [{ data := s.dram.readBytes addr len, error := r.error }] } ∧
        Within [.arb, .link] s t) ∧
    ∀ w rest, chooseClient s.arb s.waits = some .report → s.rw.queue = w :: rest → w.bringUp = true →
      (∀ x ∈ rest, x.bringUp = false) → s.link.responses = [] → others = [] → Completes .dramGrant s fun t =>
        t.link =
          { s.link with
            responses := [{ answer := none, error := false }], held := []
            path := s.link.path ++ [.read first.toNat wanted true] } ∧
        t.rw = { s.rw with queue := rest } ∧ Within [.arb, .link, .rw, .dram] s t) ∧
  (∀ (s : State) (addr : BitVec 32) (len : Nat), LinkReady s → 1 ≤ len → len ≤ 64 → ¬ InRange addr.toNat len →
    Completes (.linkRead addr len) s fun t =>
      FaultRaised .badAddress (addr.toNat / 64) s t ∧ t.link.path = s.link.path ∧
      (s.link.responses = [] → t.link.responses = [] ∧
        t.link.answered = s.link.answered ++ [{ data := List.replicate len 0, error := true }]) ∧
      (∀ r rest, s.link.responses = r :: rest → r.answer = none → t.link.answered = s.link.answered ∧
        t.link.responses = s.link.responses ++ [{ answer := some (List.replicate len 0), error := true }]) ∧
      Within [.link, .rw] s t) ∧
  ∀ (s : State) (addr : BitVec 32) (len : Nat), len = 0 ∨ 64 < len → exec (.linkRead addr len) s = .fault .cannotArrive

/-- The write guard (R4, R7): an in-range WRITE into a LOCKED or STATUS region, or into a FRAME region whose hold count is above 0,
is dropped with WRITE_GUARD and the region's id; an out-of-range WRITE is dropped with BAD_ADDRESS; a dropped write enters
nothing and hands nothing. Any other WRITE clear of the watched words enters class C as it is, and that is all. Of a WRITE into
the control page (R14, R15), each watched word that it covers whole is handed to its owner, each that it covers in part raises
one REQUEST_INVALID and hands nothing; the words go in ascending order, behind the write itself (log 35: the model's choice),
so the first word in part gives the detail of a clear flag; the media values go with the write into class C. -/
def Obligations.WriteGuardAndPartialWords : Prop :=
  (∀ (s : State) (addr : BitVec 32) (lanes : List (Option Byte)), LinkReady s → 1 ≤ lanes.length → lanes.length ≤ 64 →
     (¬ InRange addr.toNat lanes.length → Completes (.linkWrite addr lanes) s fun t =>
       FaultRaised .badAddress (addr.toNat / 64) s t ∧ Within [.rw] s t) ∧
     (InRange addr.toNat lanes.length → ∀ r, regionAt s.regions addr.toNat = some r →
       r.kind = .locked ∨ r.kind = .status ∨ (r.kind = .frame ∧ 0 < r.hold) →
       Completes (.linkWrite addr lanes) s fun t => FaultRaised .writeGuard r.ident s t ∧ Within [.rw] s t) ∧
     (InRange addr.toNat lanes.length →
       (∀ r, regionAt s.regions addr.toNat = some r →
         r.kind = .control ∨ r.kind = .requestRing ∨ r.kind = .audioRing ∨ (r.kind = .frame ∧ r.hold = 0)) →
       (∀ roles, s.roles = some roles →
         addr.toNat + lanes.length ≤ roles.controlPage ∨ roles.controlPage + 0x1C ≤ addr.toNat) →
       exec (.linkWrite addr lanes) s = .next
         { s with link := { s.link with path := s.link.path ++ [.write addr.toNat lanes []] } })) ∧
  (∀ (s : State) (roles : Roles) (addr : BitVec 32) (lanes : List (Option Byte)), LinkReady s → s.roles = some roles →
    InRange addr.toNat lanes.length →
    (∀ r, regionAt s.regions addr.toNat = some r → r.kind = .control) →
    let covered := fun w => enabledBytes addr.toNat lanes (roles.controlPage + w)
    let value := fun w => wordValue addr.toNat lanes (roles.controlPage + w)
    let media := allDisplays.filterMap fun d =>
      if covered (0x010 + 4 * displayNumber d) = 4 then some (d, value (0x010 + 4 * displayNumber d)) else none
    let handed := fun (u : State) (w : Nat) =>
      if covered w = 0 then u
      else if covered w < 4 then u.raise .requestInvalid w
      else if w = 0x000 then u.takeRequestProducer (value w)
      else if w = 0x004 then u.takeReportConsumer (value w)
      else u.updateStream (if w = 0x010 then .front else if w = 0x014 then .rearLeft else .rearRight)
        fun x => { x with held := value w }
    exec (.linkWrite addr lanes) s = .next
      ([0x000, 0x004, 0x010, 0x014, 0x018].foldl handed
        { s with link := { s.link with path := s.link.path ++ [.write addr.toNat lanes media] } })) ∧
  ∀ (s : State) (roles : Roles) (addr : BitVec 32) (lanes : List (Option Byte)), LinkReady s → s.roles = some roles →
    InRange addr.toNat lanes.length →
    (∀ r, regionAt s.regions addr.toNat = some r → r.kind = .control) →
    (∀ w ∈ watchedWords, enabledBytes addr.toNat lanes (roles.controlPage + w) < 4) →
    (s.rw.fault .requestInvalid).counter ≤ 65535 →
    let parts := watchedWords.filter fun w => decide (0 < enabledBytes addr.toNat lanes (roles.controlPage + w))
    Completes (.linkWrite addr lanes) s fun t =>
      t.link = { s.link with path := s.link.path ++ [.write addr.toNat lanes []] } ∧
      t.rw.fault .requestInvalid =
        { flag := (s.rw.fault .requestInvalid).flag || !parts.isEmpty, masked := (s.rw.fault .requestInvalid).masked
          counter := min ((s.rw.fault .requestInvalid).counter + parts.length) 65535
          detail := if (s.rw.fault .requestInvalid).flag then (s.rw.fault .requestInvalid).detail
            else parts.headD (s.rw.fault .requestInvalid).detail } ∧
      (∀ k, k ≠ .requestInvalid → t.rw.fault k = s.rw.fault k) ∧ t.rw.consumer = s.rw.consumer ∧
      Within [.link, .rw] s t

/-- A full write of the request producer index (R20): a value of 256 or more is ignored and raises REQUEST_INVALID with detail
0x000; any other replaces the producer copy, and the taker starts fetching at its consumer index, behind the write, where
records are then pending and it is not fetching already. What a value equal to the consumer index does to a fetch in flight is
log 56. -/
def Obligations.RequestProducerIsTaken : Prop :=
  ∀ (s : State) (roles : Roles) (v : BitVec 32), WordWritable s roles 0x000 →
    (256 ≤ v.toNat → Completes (.requestProducerIndex v) s fun t =>
      FaultRaised .requestInvalid 0x000 s t ∧
      t.link = { s.link with path := s.link.path ++ [wordWrite roles 0x000 v []] } ∧ Within [.link, .rw] s t) ∧
    (v.toNat < 256 → (v.toNat + 256 - s.taker.consumer) % 256 = 0 ∨ s.taker.fetch ≠ .idle →
      exec (.requestProducerIndex v) s = .next
        { s with
          taker := { s.taker with producer := v.toNat }
          link := { s.link with path := s.link.path ++ [wordWrite roles 0x000 v []] } }) ∧
    (v.toNat < 256 → 0 < (v.toNat + 256 - s.taker.consumer) % 256 → s.taker.fetch = .idle →
      exec (.requestProducerIndex v) s = .next
        { s with
          taker := { s.taker with producer := v.toNat, fetch := .inFlight }
          link := { s.link with
            path := s.link.path ++
              [wordWrite roles 0x000 v [], .record (roles.requestRing + 32 * s.taker.consumer) true] } })

/-- A full write of the report consumer index (R28, R29): a value of 128 or more, or outside the span from the consumer to the
producer, is ignored and raises REQUEST_INVALID with detail 0x004; any other replaces the consumer; where reports were lost
and a slot is then free, a REPORTS_LOST with the lost count takes it at once and the count becomes 0. -/
def Obligations.ReportConsumerIsTaken : Prop :=
  ∀ (s : State) (roles : Roles) (v : BitVec 32), WordWritable s roles 0x004 → s.rw.consumer < 128 → s.rw.producer < 128 →
    let path := s.link.path ++ [wordWrite roles 0x004 v []]
    let spanned := (s.rw.producer + 128 - s.rw.consumer) % 128
    (128 ≤ v.toNat ∨ spanned < (v.toNat + 128 - s.rw.consumer) % 128 →
      Completes (.reportConsumerIndex v) s fun t =>
        FaultRaised .requestInvalid 0x004 s t ∧ t.rw.consumer = s.rw.consumer ∧
        t.link = { s.link with path := path } ∧ Within [.link, .rw] s t) ∧
    (v.toNat < 128 → (v.toNat + 128 - s.rw.consumer) % 128 ≤ spanned →
      (s.rw.lost = 0 ∨ (s.rw.producer + 128 - v.toNat) % 128 = 127 →
        exec (.reportConsumerIndex v) s = .next
          { s with link := { s.link with path := path }, rw := { s.rw with consumer := v.toNat } }) ∧
      (0 < s.rw.lost → (s.rw.producer + 128 - v.toNat) % 128 < 127 →
        exec (.reportConsumerIndex v) s = .next
          { s with
            link := { s.link with path := path }
            rw := { s.rw with
              consumer := v.toNat, lost := 0, producer := (s.rw.producer + 1) % 128
              queue := s.rw.queue ++
                [{ addr := roles.reportRing + 32 * s.rw.producer
                   bytes := encodeReport s.time (.reportsLost s.rw.lost), bringUp := false },
                 { addr := roles.statusBlock + 0x028, bytes := bytesOf 4 ((s.rw.producer + 1) % 128)
                   bringUp := false }] } }))

/-- A full write of a media producer index (R14, R168): the value is held at once, whether or not the stream runs, and goes
with its write into class C, at whose grant it applies. -/
def Obligations.MediaProducerIsHeld : Prop :=
  ∀ (s : State) (roles : Roles) (d : Display) (v : BitVec 32), WordWritable s roles (0x010 + 4 * displayNumber d) →
    exec (.mediaProducerIndex d v) s = .next
      { s with
        link := { s.link with path := s.link.path ++ [wordWrite roles (0x010 + 4 * displayNumber d) v [(d, v)]] }
        audio := { s.audio with streams := s.audio.streams.put d { s.audio.streams.get d with held := v } } }

/-! ### The memory arbiter (chapter 1, 1.4) -/

/-- Who receives a grant (R16, R17): class D where it waits and the store gap count stands at 63; else class C where it waits
and the last three grants all went to A or B; else a waiting client of the highest waiting class, the first at or after the
class's round-robin position. The records follow the grant: the window keeps the last three classes, the store gap count rises
to 63 or returns to 0, and the position of the granted client's class moves to the client after it, that of the other class not
at all. With no client waiting nothing is granted. -/
def Obligations.GrantGoesByPriorityAndGuarantees : Prop :=
  ∀ s : State, s.arb.posA < 2 → s.arb.posB < 4 → s.arb.window.length ≤ 3 →
    ((∀ c, s.waits c = false) → exec .dramGrant s = .next s) ∧
    ((∃ c, s.waits c = true) → ∃ c, chooseClient s.arb s.waits = some c) ∧
    ∀ c, chooseClient s.arb s.waits = some c → s.waits c = true ∧
      (Completes .dramGrant s fun t =>
        t.arb.window = (s.arb.window ++ [c.cls]).drop (s.arb.window.length + 1 - min (s.arb.window.length + 1) 3) ∧
        t.arb.storeGap = (if c = .store then 0 else min (s.arb.storeGap + 1) 63) ∧
        t.arb.posA = (if c ∈ clientsA then (clientsA.idxOf c + 1) % 2 else s.arb.posA) ∧
        t.arb.posB = (if c ∈ clientsB then (clientsB.idxOf c + 1) % 4 else s.arb.posB)) ∧
      (s.waits .store = true ∧ s.arb.storeGap = 63 → c = .store) ∧
      (¬ (s.waits .store = true ∧ s.arb.storeGap = 63) → s.waits .link = true →
        s.arb.window.length = 3 → (∀ k ∈ s.arb.window, k = .a ∨ k = .b) → c = .link) ∧
      (¬ (s.waits .store = true ∧ s.arb.storeGap = 63) →
        ¬ (s.waits .link = true ∧ s.arb.window.length = 3 ∧ ∀ k ∈ s.arb.window, k = .a ∨ k = .b) →
        (∀ x, s.waits x = true → c.cls.place ≤ x.cls.place) ∧
        (c ∈ clientsA → ∀ x ∈ clientsA, s.waits x = true → turnsFrom clientsA s.arb.posA c ≤ turnsFrom clientsA s.arb.posA x) ∧
        (c ∈ clientsB → ∀ x ∈ clientsB, s.waits x = true → turnsFrom clientsB s.arb.posB c ≤ turnsFrom clientsB s.arb.posB x))

/-- While class C waits, at most 3 of any 4 consecutive grants go to classes A and B; while class D waits, it receives at least 1
grant in every 64 consecutive grants (R17). -/
def Obligations.LinkAndStoreReceiveTheirShares : Prop :=
  (∀ (arb : Arbiter) (waiting : List (Client → Bool)), arb.window.length ≤ 3 → waiting.length = 4 →
     (∀ w ∈ waiting, w .link = true) →
     (grantRun arb waiting).length = 4 ∧ ((grantRun arb waiting).countP fun c => c.cls == .a || c.cls == .b) ≤ 3) ∧
  ∀ (arb : Arbiter) (waiting : List (Client → Bool)), arb.storeGap ≤ 63 → waiting.length = 64 →
    (∀ w ∈ waiting, w .store = true) → Client.store ∈ grantRun arb waiting

/-- What a granted access of the link path does (R5, R21, R168): a read is answered with the bytes DRAM holds; a write puts its
enabled bytes into DRAM and nothing else; a record fetch gives the taker its 32 bytes; a media producer value applies to its
running stream, or is ignored with REQUEST_INVALID where it lies outside the ring. A read or a record fetch that has been
discarded is granted in its turn all the same, and has no effect then (log 9: the model's reading). Of several producer values in
one write each acts on its own stream, in ascending order, so the first ignored gives the detail of a clear flag (log 35: the
model's choice). -/
def Obligations.GrantedLinkAccessActs : Prop :=
  ∀ s : State, s.dram.wf = true → chooseClient s.arb s.waits = some .link → s.link.held = [] →
    (∀ addr len rest r more, s.link.path = .read addr len true :: rest →
      s.link.responses = r :: more → r.answer = none → Completes .dramGrant s fun t =>
        t.link.path = rest ∧
        (∃ later, t.link.answered =
          s.link.answered ++ { data := s.dram.readBytes addr len, error := r.error } :: later) ∧
        Within [.arb, .link] s t) ∧
    (∀ addr len rest, s.link.path = .read addr len false :: rest → Completes .dramGrant s fun t =>
      t.link = { s.link with path := rest } ∧ Within [.arb, .link] s t) ∧
    (∀ addr lanes rest, s.link.path = .write addr lanes [] :: rest → Completes .dramGrant s fun t =>
      t.link = { s.link with path := rest } ∧
      (∀ i v, lanes[i]? = some (some v) → t.dram.read (addr + i) = v) ∧
      (∀ a, (∀ i v, lanes[i]? = some (some v) → a ≠ addr + i) → t.dram.read a = s.dram.read a) ∧
      Within [.arb, .link, .dram] s t) ∧
    (∀ addr rest, s.link.path = .record addr true :: rest → Completes .dramGrant s fun t =>
      t.link = { s.link with path := rest } ∧
      t.taker = { s.taker with fetch := .arrived (s.dram.readBytes addr 32) } ∧ Within [.arb, .link, .taker] s t) ∧
    (∀ addr rest, s.link.path = .record addr false :: rest → Completes .dramGrant s fun t =>
      t.link = { s.link with path := rest } ∧ Within [.arb, .link] s t) ∧
    (∀ addr lanes rest media, s.link.path = .write addr lanes media :: rest → (media.map Prod.fst).Nodup →
      (s.rw.fault .requestInvalid).counter ≤ 65535 → Completes .dramGrant s fun t =>
        let ignored := (media.filter fun m =>
          (s.audio.streams.get m.1).running &&
            (s.audio.streams.get m.1).ring.any fun ring => decide (ring.size ≤ m.2.toNat)).map fun m =>
              0x010 + 4 * displayNumber m.1
        t.link = { s.link with path := rest } ∧ t.dram = s.dram.writeLanes addr lanes ∧
        (∀ d v ring, (d, v) ∈ media → (s.audio.streams.get d).running = true → (s.audio.streams.get d).ring = some ring →
          v.toNat < ring.size →
          t.audio.streams.get d =
            { s.audio.streams.get d with
              producer := v.toNat
              buffer := (s.audio.streams.get d).buffer.take
                ((v.toNat + ring.size - (s.audio.streams.get d).consumer) % ring.size) }) ∧
        (∀ d, ((s.audio.streams.get d).running = false ∨ (∀ m ∈ media, m.1 ≠ d) ∨
            ∃ v ring, (d, v) ∈ media ∧ (s.audio.streams.get d).ring = some ring ∧ ring.size ≤ v.toNat) →
          t.audio.streams.get d = s.audio.streams.get d) ∧
        t.rw.fault .requestInvalid =
          { flag := (s.rw.fault .requestInvalid).flag || !ignored.isEmpty, masked := (s.rw.fault .requestInvalid).masked
            counter := min ((s.rw.fault .requestInvalid).counter + ignored.length) 65535
            detail := if (s.rw.fault .requestInvalid).flag then (s.rw.fault .requestInvalid).detail
              else ignored.headD (s.rw.fault .requestInvalid).detail } ∧
        (∀ k, k ≠ .requestInvalid → t.rw.fault k = s.rw.fault k) ∧ Within [.arb, .link, .dram, .audio, .rw] s t) ∧
    ∀ addr lanes rest d v, s.link.path = .write addr lanes [(d, v)] :: rest → Completes .dramGrant s fun t =>
      t.link = { s.link with path := rest } ∧ t.dram = s.dram.writeLanes addr lanes ∧
      Within [.arb, .link, .dram, .audio, .rw] s t ∧
      ((s.audio.streams.get d).running = false → t.audio = s.audio ∧ t.rw = s.rw) ∧
      ∀ ring, (s.audio.streams.get d).running = true → (s.audio.streams.get d).ring = some ring →
        (ring.size ≤ v.toNat → t.audio = s.audio ∧ FaultRaised .requestInvalid (0x010 + 4 * displayNumber d) s t) ∧
        (v.toNat < ring.size → t.rw = s.rw ∧
          t.audio.streams.get d =
            { s.audio.streams.get d with
              producer := v.toNat
              buffer := (s.audio.streams.get d).buffer.take
                ((v.toNat + ring.size - (s.audio.streams.get d).consumer) % ring.size) } ∧
          ∀ e, e ≠ d → t.audio.streams.get e = s.audio.streams.get e)

/-- What the other granted accesses do (R26, R42, R44, R77, R164, R169): a device write and a STORE_READ destination write put
their bytes into DRAM; a program's source bytes join those that have arrived, and its running time starts with the last; an
audio fetch brings the frames still wanted; a scan-out fetch brings its bytes to the row it was fetched for. The first access a
client presented is granted first (log 23), a program's running time does not count its source's fetch (log 20), and data
fetched for an earlier frame or a row already past is dropped (log 21), which are the model's readings and its choice; so is that
of an audio fetch only the frames outside the pending span are dropped (log 52), and that a scan-out fetch of a past row or frame
waits for its grant all the same (log 55). -/
def Obligations.OtherGrantedAccessesAct : Prop :=
  ∀ s : State, s.dram.wf = true → s.link.held = [] →
    (chooseClient s.arb s.waits = some .report → ∀ w rest, s.rw.queue = w :: rest → Completes .dramGrant s fun t =>
      t.rw = { s.rw with queue := rest } ∧ Stored s.dram t.dram w.addr w.bytes ∧ Within [.arb, .rw, .dram, .link] s t) ∧
    (chooseClient s.arb s.waits = some .camera → ∀ w rest, s.camera.queue = w :: rest → Completes .dramGrant s fun t =>
      t.camera = { s.camera with queue := rest } ∧ Stored s.dram t.dram w.addr w.bytes ∧
      Within [.arb, .camera, .dram, .link] s t) ∧
    (chooseClient s.arb s.waits = some .store → ∀ addr bytes rest, s.store.transfers = .write addr bytes :: rest →
      Completes .dramGrant s fun t =>
        t.store = { s.store with transfers := rest } ∧ Stored s.dram t.dram addr bytes ∧
        Within [.arb, .store, .dram, .link] s t) ∧
    (chooseClient s.arb s.waits = some .store → ∀ addr len rest op, s.store.transfers = .source addr len :: rest →
      s.store.op = some op → Completes .dramGrant s fun t =>
        t.store =
          { s.store with
            transfers := rest
            op := some
              { op with
                source := op.source ++ s.dram.readBytes addr len
                counting := if op.awaits ≤ len ∧ s.store.state = .programming then some s.time else op.counting } } ∧
        Within [.arb, .store, .link] s t) ∧
    (chooseClient s.arb s.waits = some .audio → ∀ f rest, s.audio.fetchQueue = f :: rest → Completes .dramGrant s fun t =>
      t.audio.streams.get f.stream =
        { s.audio.streams.get f.stream with
          buffer := (s.audio.streams.get f.stream).buffer ++
            (framesOf (s.dram.readBytes f.addr (4 * f.count))).take f.keep } ∧
      (∀ e, e ≠ f.stream → t.audio.streams.get e = s.audio.streams.get e) ∧ t.audio.chimes = s.audio.chimes ∧
      (∃ more, t.audio.fetchQueue = rest ++ more) ∧ Within [.arb, .audio, .link] s t) ∧
    ∀ d, chooseClient s.arb s.waits =
        some (match d with
          | .front => Client.frontScan
          | .rearLeft => .rearLeftScan
          | .rearRight => .rearRightScan) →
      ∀ f rest, (s.displays.get d).scan.queue = f :: rest → Completes .dramGrant s fun t =>
        (t.displays.get d).scan =
          { (s.displays.get d).scan with
            queue := rest
            data := (s.displays.get d).scan.data ++
              if f.frameNo = (s.displays.get d).scan.frameNo ∧ (s.displays.get d).scan.nextRow ≤ f.row + 1 then
                [{ layer := f.layer, row := f.row, addr := f.addr, bytes := s.dram.readBytes f.addr f.len }]
              else [] } ∧
        (∀ e, e ≠ d → t.displays.get e = s.displays.get e) ∧ Within [.arb, .displays, .link] s t

/-! ### Reports and faults (chapter 2) -/

/-- Posting a report (R26, R27, R28): discarded while the link is DOWN; lost and counted, up to 65,535, where no slot is free or
reports have been lost already; else its record goes to the slot at the producer index, the index moves on by one, and the
new index is written into the status block behind the record. An occurrence of a fault kind (R30): its counter rises by one
and stops at 65,535; a clear flag is set with the detail; a FAULT report with that detail and the new counter is posted where
the flag was clear and the kind unmasked, and only there; no other kind is touched. -/
def Obligations.ReportsArePlacedAndFaultsRecorded : Prop :=
  (∀ (s : State) (r : Report),
     (s.link.up = false → s.post r = s) ∧
     (s.link.up = true → 0 < s.rw.lost ∨ (s.rw.producer + 128 - s.rw.consumer) % 128 = 127 →
       s.post r = { s with rw := { s.rw with lost := min (s.rw.lost + 1) 65535 } }) ∧
     ∀ roles, s.roles = some roles → s.link.up = true → s.rw.lost = 0 →
       (s.rw.producer + 128 - s.rw.consumer) % 128 < 127 →
       s.post r =
         { s with
           rw := { s.rw with
             producer := (s.rw.producer + 1) % 128
             queue := s.rw.queue ++
               [{ addr := roles.reportRing + 32 * s.rw.producer, bytes := encodeReport s.time r, bringUp := false },
                { addr := roles.statusBlock + 0x028, bytes := bytesOf 4 ((s.rw.producer + 1) % 128)
                  bringUp := false }] } }) ∧
  ∀ (s : State) (k : FaultKind) (detail : Nat),
    let f := s.rw.fault k
    let t := s.raise k detail
    let recorded := { s with rw := { s.rw with faults := t.rw.faults } }
    t.rw.fault k =
      { flag := true, masked := f.masked, counter := min (f.counter + 1) 65535
        detail := if f.flag then f.detail else detail } ∧
    (∀ j, j ≠ k → t.rw.fault j = s.rw.fault j) ∧
    (f.flag = true ∨ f.masked = true → t = recorded) ∧
    (f.flag = false → f.masked = false → t = recorded.post (.fault k (min (f.counter + 1) 65535) detail))

/-- SET_FAULT_MASK replaces the whole mask and then posts, in table order, a FAULT for each kind that went from masked to
unmasked with its flag set (R32); CLEAR_FAULTS clears flag, detail and counter of each selected kind and touches no other
kind and no mask (R33). Either is refused with BAD_FIELD where its set has a position beyond the sixteen kinds. -/
def Obligations.FaultMaskAndClearActOnKinds : Prop :=
  (∀ (s : State) (rec : List Byte), Arrives s 20 rec →
    (reservedClear rec [8, 9, 10, 11] = true → fieldAt rec 8 4 < 0x10000 → ∃ rw : ReportWriter,
      (∀ k, rw.fault k = { s.rw.fault k with masked := (fieldAt rec 8 4).testBit k.index.val }) ∧
      { rw with faults := s.rw.faults } = s.rw ∧
      exec .setFaultMask s = .next
        (((allFaultKinds.filter fun k =>
            (s.rw.fault k).masked && !(fieldAt rec 8 4).testBit k.index.val && (s.rw.fault k).flag).foldl
          (fun (u : State) k => u.post (.fault k (s.rw.fault k).counter (s.rw.fault k).detail)) { s with rw := rw }).ended rec .done)) ∧
    (reservedClear rec [8, 9, 10, 11] = false ∨ 0x10000 ≤ fieldAt rec 8 4 →
      exec .setFaultMask s = .next (s.ended rec (.refused .badField)))) ∧
  ∀ (s : State) (rec : List Byte), Arrives s 21 rec →
    (reservedClear rec [8, 9, 10, 11] = true → fieldAt rec 8 4 < 0x10000 → ∃ rw : ReportWriter,
      (∀ k, rw.fault k =
        if (fieldAt rec 8 4).testBit k.index.val then
          { flag := false, masked := (s.rw.fault k).masked, counter := 0, detail := 0 }
        else s.rw.fault k) ∧
      { rw with faults := s.rw.faults } = s.rw ∧
      exec .clearFaults s = .next (({ s with rw := rw } : State).ended rec .done)) ∧
    (reservedClear rec [8, 9, 10, 11] = false ∨ 0x10000 ≤ fieldAt rec 8 4 →
      exec .clearFaults s = .next (s.ended rec (.refused .badField)))

/-! ### Requests (chapter 2, 2.1) -/

/-- How a record ends (R21, R24): REFUSED with tag, kind and code; DONE with code OK where wanted; DONE with the new id always;
nothing for a queued one. The consumer index then moves on by one modulo 256 and is written into the status block at once,
and the next record is fetched, behind all that has entered the link path, where one is pending after the advance (R22; where R20
would stop the taker instead: log 56, the model's choice). -/
def Obligations.RecordEndsAndTakerMovesOn : Prop :=
  ∀ (s : State) (rec : List Byte) (roles : Roles), s.roles = some roles →
    let next := (s.taker.consumer + 1) % 256
    let more := decide (0 < (s.taker.producer + 256 - next) % 256)
    let moved := fun u : State =>
      { u with
        taker := { consumer := next, producer := s.taker.producer, fetch := if more then .inFlight else .idle }
        rw := { u.rw with
          queue := u.rw.queue ++ [{ addr := roles.statusBlock + 0x024, bytes := bytesOf 4 next, bringUp := false }] }
        link := { u.link with
          path := u.link.path ++ if more then [.record (roles.requestRing + 32 * next) true] else [] } }
    (∀ code, s.ended rec (.refused code) = moved (s.post (.refused (reqTag rec) code (reqKind rec)))) ∧
    s.ended rec .done = moved (if reqWanted rec = 1 then s.post (.done (reqTag rec) .ok 0) else s) ∧
    (∀ ident, s.ended rec (.doneWithId ident) = moved (s.post (.done (reqTag rec) .ok ident))) ∧
    s.ended rec .queued = moved s

/-- The common checks (R23), in their order and whatever the kind: a kind that names none is refused with BAD_KIND, a nonzero
reserved header field or a report-wanted field above 1 with BAD_FIELD, a kind that SERVICE does not take with SERVICE_MODE;
no fault is raised. A request command with no record of its kind at the taker has no effect (log 1: the model's choice). -/
def Obligations.CommonChecksRefuse : Prop :=
  ∀ s : State,
    (∀ rec, s.taker.fetch = .arrived rec →
      (reqKind rec = 0 ∨ 22 < reqKind rec →
        exec .unknownRequestKind s = .next (s.ended rec (.refused .badKind))) ∧
      ∀ c, requestKindOf c = some (reqKind rec) →
        (reqReserved rec ≠ 0 ∨ 1 < reqWanted rec → exec c s = .next (s.ended rec (.refused .badField))) ∧
        (reqReserved rec = 0 → reqWanted rec ≤ 1 → s.startup.state = .service → reqKind rec < 16 →
          exec c s = .next (s.ended rec (.refused .serviceMode)))) ∧
    ∀ c k, requestKindOf c = some k → (∀ rec, s.taker.fetch = .arrived rec → reqKind rec ≠ k) → exec c s = .next s

/-- PUBLISH (R148, R149, R150, R31): checked in order against the applied record and the region table, it joins the tail of its
queue and its region's hold count rises by one; the presentation time is not checked. On a full queue QUEUE_FULL is raised;
masked, the oldest pending entry is released with shown count 0, counted as dropped, and the new entry joins the tail;
unmasked, the PUBLISH is refused. -/
def Obligations.PublishIsCheckedAndQueued : Prop :=
  (∀ (s : State) (rec : List Byte), Arrives s 1 rec →
     let named := [6, 7, 8, 12, 13, 14, 15, 16, 17, 18, 19]
     (2 < byteAt rec 6 ∨ 1 < byteAt rec 7 ∨ fieldAt rec 12 4 % 4 ≠ 0 ∨ reservedClear rec named = false →
       exec .publish s = .next (s.ended rec (.refused .badField))) ∧
     ∀ d l, displayField (byteAt rec 6) = some d → layerField (byteAt rec 7) = some l → fieldAt rec 12 4 % 4 = 0 →
       reservedClear rec named = true →
       let v := s.layer d l
       let size := match v.applied.format with
         | .argb8888 => v.applied.stride * v.applied.sourceHeight
         | .nv12 => v.applied.stride * v.applied.sourceHeight * 3 / 2
       (v.applied.enable = false → exec .publish s = .next (s.ended rec (.refused .layerOff))) ∧
       (v.applied.enable = true → (∀ r ∈ s.regions, r.ident = byteAt rec 8 → r.kind ≠ .frame) →
         exec .publish s = .next (s.ended rec (.refused .noRegion))) ∧
       ∀ r, v.applied.enable = true → findRegion s.regions (byteAt rec 8) = some r → r.kind = .frame →
         (r.size < fieldAt rec 12 4 + size → exec .publish s = .next (s.ended rec (.refused .regionTooSmall))) ∧
         (fieldAt rec 12 4 + size ≤ r.size → 15 ≤ r.hold →
           exec .publish s = .next (s.ended rec (.refused .regionBusy))) ∧
         (fieldAt rec 12 4 + size ≤ r.size → r.hold < 15 → v.queue.length < 4 →
           exec .publish s = .next
             ((({ s with regions := holdUp s.regions (byteAt rec 8) } : State).setLayer d l
               { v with
                 queue := v.queue ++
                   [{ region := byteAt rec 8, offset := fieldAt rec 12 4, time := BitVec.ofNat 32 (fieldAt rec 16 4) }]
                 }).ended rec .done))) ∧
  ∀ (s : State) (rec : List Byte) (d : Display) (l : ScanLayer) (e head : QueueEntry) (rest : List QueueEntry),
    Arrives s 1 rec → checkPublish s rec = .ok (d, l, e) → (s.layer d l).queue = head :: rest → 3 ≤ rest.length →
    let raised := s.raise .queueFull (displayNumber d + 256 * layerNumber l)
    ((s.rw.fault .queueFull).masked = true → Completes .publish s fun t =>
      t.regions = holdUp (holdDown s.regions head.region) e.region ∧
      t.layer d l = { s.layer d l with queue := rest ++ [e], dropped := (s.layer d l).dropped + 1 } ∧
      (∀ d' l', (d', l') ≠ (d, l) → l' ≠ .camera → l ≠ .camera → t.layer d' l' = s.layer d' l') ∧
      t.rw = ((raised.post (.released d l head 0)).ended rec .done).rw ∧ TookRecord s t ∧
      Within [.taker, .link, .rw, .regions, .displays] s t) ∧
    ((s.rw.fault .queueFull).masked = false → exec .publish s = .next (raised.ended rec (.refused .queueFull)))

/-- SET_LAYER stages the whole record with its destination brought to the display's grid, or is refused with BAD_FIELD (R136,
R137, R138); HOLD_CHANGES and RELEASE_CHANGES set and clear the display's change hold (R140, R141). -/
def Obligations.LayerRequestsStageAndHold : Prop :=
  (∀ (s : State) (rec : List Byte), Arrives s 2 rec →
    let wide := fieldAt rec 18 2
    let high := fieldAt rec 20 2
    let stride := fieldAt rec 22 2
    let bad := wide < 16 ∨ 1920 < wide ∨ wide % 2 = 1 ∨ high < 16 ∨ 1080 < high ∨ high % 2 = 1 ∨
      stride < wide * (if byteAt rec 9 = 0 then 4 else 1) ∨ 255 < fieldAt rec 16 2 ∨
      (byteAt rec 9 = 1 ∧ byteAt rec 7 = 1) ∨ reservedClear rec setLayerNamed = false
    (2 < byteAt rec 6 ∨ 1 < byteAt rec 7 ∨ 1 < byteAt rec 8 ∨ 1 < byteAt rec 9 ∨ 1 < byteAt rec 10 ∨ bad →
      exec .setLayer s = .next (s.ended rec (.refused .badField))) ∧
    ∀ d l enable format cadence, displayField (byteAt rec 6) = some d → layerField (byteAt rec 7) = some l →
      flagField (byteAt rec 8) = some enable → formatField (byteAt rec 9) = some format →
      cadenceField (byteAt rec 10) = some cadence → ¬ bad →
      exec .setLayer s = .next
        ((s.setLayer d l
          { s.layer d l with
            staged := some
              { enable := enable, format := format, sourceWidth := wide, sourceHeight := high, stride := stride
                x := min (2 * (fieldAt rec 24 2 / 2)) d.columns, y := min (2 * (fieldAt rec 26 2 / 2)) d.rows
                w := min (max (2 * ((fieldAt rec 28 2 + 1) / 2)) 16) d.columns
                h := min (max (2 * ((fieldAt rec 30 2 + 1) / 2)) 16) d.rows
                alpha := fieldAt rec 16 2, fill := BitVec.ofNat 32 (fieldAt rec 12 4), cadence := cadence } }).ended
          rec .done)) ∧
  ∀ (s : State) (rec : List Byte) (c : Instr) (held : Bool),
    (c = .holdChanges ∧ held = true ∧ Arrives s 3 rec) ∨ (c = .releaseChanges ∧ held = false ∧ Arrives s 4 rec) →
    (2 < byteAt rec 6 ∨ reservedClear rec [6] = false → exec c s = .next (s.ended rec (.refused .badField))) ∧
    ∀ d, displayField (byteAt rec 6) = some d → reservedClear rec [6] = true →
      exec c s = .next ((s.updateDisplay d fun x => { x with hold := held }).ended rec .done)

/-- PUSH_VIEW (R129, R131, R132): a SYSTEM view goes beneath a pinned CAMERA view and else on top; on a stack of 4 it raises
VIEW_OVERFLOW and then, masked, takes the place that the bottom-most SYSTEM view gives up, or, unmasked, is refused. POP_VIEW
(R133, R134): a SYSTEM view on top is removed; an unpinned CAMERA view is removed, with the reverse controller OFF and REVERSE
OFF posted; a pinned one answers VIEW_PINNED; an empty stack raises VIEW_UNDERFLOW and follows its mask. -/
def Obligations.ViewsArePushedAndPopped : Prop :=
  (∀ (s : State) (rec : List Byte), Arrives s 5 rec →
     let named := [6, 7, 8, 12, 13, 14, 15]
     (2 < byteAt rec 6 ∨ 3 < byteAt rec 7 ∨ reservedClear rec named = false →
       exec .pushView s = .next (s.ended rec (.refused .badField))) ∧
     ∀ d, displayField (byteAt rec 6) = some d → byteAt rec 7 ≤ 3 → reservedClear rec named = true →
       let v : View :=
         { owner := .system, tag := BitVec.ofNat 8 (byteAt rec 8), video := (byteAt rec 7).testBit 0
           menu := (byteAt rec 7).testBit 1, background := BitVec.ofNat 32 (fieldAt rec 12 4), pinned := false }
       let raised := s.raise .viewOverflow (displayNumber d)
       ((s.stack d).length < 4 →
         (∀ lower top, s.stack d = lower ++ [top] → top.owner = .camera → top.pinned = true →
           exec .pushView s = .next ((s.setStack d (lower ++ [v, top])).ended rec .done)) ∧
         ((∀ top, (s.stack d).getLast? = some top → top.owner = .system ∨ top.pinned = false) →
           exec .pushView s = .next ((s.setStack d (s.stack d ++ [v])).ended rec .done))) ∧
       (4 ≤ (s.stack d).length → (s.rw.fault .viewOverflow).masked = false →
         exec .pushView s = .next (raised.ended rec (.refused .viewOverflow))) ∧
       ∀ lower x upper, s.stack d = lower ++ x :: upper → 3 ≤ (lower ++ upper).length →
         (s.rw.fault .viewOverflow).masked = true → (∀ y ∈ lower, y.owner = .camera) → x.owner = .system →
         (∀ under top, lower ++ upper = under ++ [top] → top.owner = .camera → top.pinned = true →
           exec .pushView s = .next ((raised.setStack d (under ++ [v, top])).ended rec .done)) ∧
         ((∀ top, (lower ++ upper).getLast? = some top → top.owner = .system ∨ top.pinned = false) →
           exec .pushView s = .next ((raised.setStack d (lower ++ upper ++ [v])).ended rec .done))) ∧
  ∀ (s : State) (rec : List Byte), Arrives s 6 rec →
    (2 < byteAt rec 6 ∨ reservedClear rec [6] = false → exec .popView s = .next (s.ended rec (.refused .badField))) ∧
    ∀ d, displayField (byteAt rec 6) = some d → reservedClear rec [6] = true →
      let raised := s.raise .viewUnderflow (displayNumber d)
      (∀ lower top, s.stack d = lower ++ [top] →
        (top.owner = .system → exec .popView s = .next ((s.setStack d lower).ended rec .done)) ∧
        (top.owner = .camera → top.pinned = true → exec .popView s = .next (s.ended rec (.refused .viewPinned))) ∧
        (top.owner = .camera → top.pinned = false → d = .front → (∀ v ∈ lower, v.owner = .system) →
          exec .popView s = .next
            (({ s.setStack .front lower with reverse := { s.reverse with state := .off, timer := none } }.post
              (.reverse .off)).ended rec .done))) ∧
      (s.stack d = [] →
        ((s.rw.fault .viewUnderflow).masked = true → exec .popView s = .next (raised.ended rec .done)) ∧
        ((s.rw.fault .viewUnderflow).masked = false →
          exec .popView s = .next (raised.ended rec (.refused .viewUnderflow))))

/-- SHOW_CAMERA and CLOSE_CAMERA (R102, R103): OFF goes to MANUAL with an unpinned CAMERA view pushed under the rules of a SYSTEM
push; MANUAL goes to OFF with the view removed wherever it stands; in the other states SHOW_CAMERA changes nothing and
CLOSE_CAMERA answers VIEW_PINNED, or changes nothing in OFF. -/
def Obligations.CameraViewOnRequest : Prop :=
  (∀ (s : State) (rec : List Byte), Arrives s 7 rec →
    let cam : View :=
      { owner := .camera, tag := BitVec.ofNat 8 (byteAt rec 8), video := false, menu := false
        background := 0xFF000000#32, pinned := false }
    let raised := s.raise .viewOverflow 0
    let manual := fun u : State => ({ u with reverse := { u.reverse with state := .manual } }.post (.reverse .manual))
    (reservedClear rec [8] = false → exec .showCamera s = .next (s.ended rec (.refused .badField))) ∧
    (reservedClear rec [8] = true → s.reverse.state ≠ .off → exec .showCamera s = .next (s.ended rec .done)) ∧
    (reservedClear rec [8] = true → s.reverse.state = .off → (∀ v ∈ s.stack .front, v.owner = .system) →
      ((s.stack .front).length < 4 →
        exec .showCamera s = .next ((manual (s.setStack .front (s.stack .front ++ [cam]))).ended rec .done)) ∧
      ∀ bottom rest, s.stack .front = bottom :: rest → 3 ≤ rest.length →
        ((s.rw.fault .viewOverflow).masked = true →
          exec .showCamera s = .next ((manual (raised.setStack .front (rest ++ [cam]))).ended rec .done)) ∧
        ((s.rw.fault .viewOverflow).masked = false →
          exec .showCamera s = .next (raised.ended rec (.refused .viewOverflow))))) ∧
  ∀ (s : State) (rec : List Byte), Arrives s 8 rec →
    (reservedClear rec [] = false → exec .closeCamera s = .next (s.ended rec (.refused .badField))) ∧
    (reservedClear rec [] = true →
      (s.reverse.state = .engaged ∨ s.reverse.state = .holdOff →
        exec .closeCamera s = .next (s.ended rec (.refused .viewPinned))) ∧
      (s.reverse.state = .off → exec .closeCamera s = .next (s.ended rec .done)) ∧
      ∀ below cam above, s.reverse.state = .manual → s.stack .front = below ++ cam :: above → cam.owner = .camera →
        (∀ v ∈ below ++ above, v.owner = .system) →
        exec .closeCamera s = .next
          (({ s.setStack .front (below ++ above) with reverse := { s.reverse with state := .off, timer := none } }.post
            (.reverse .off)).ended rec .done))

/-- DEFINE_REGION (R9): checked in order, it makes a DYNAMIC entry under the lowest free id, and its DONE, with that id, is posted
whatever the report-wanted flag. DELETE_REGION (R10): a DYNAMIC region that no frame holds and no stream is attached to leaves
the table; the first check that fails refuses the request. Where the reserved bytes are checked is the model's choice in both (log 26): those of
DEFINE_REGION with order 1, so before the range, the overlap and the table, which R9's order 1 does not say; those of
DELETE_REGION before the id. -/
def Obligations.RegionsAreDefinedAndDeleted : Prop :=
  (∀ (s : State) (rec : List Byte), Arrives s 9 rec →
     let base := fieldAt rec 8 4
     let size := fieldAt rec 12 4
     let good := base % 4096 = 0 ∧ size % 4096 = 0 ∧ 4096 ≤ size ∧ size ≤ 0x10000000 ∧
       (byteAt rec 6 = 4 ∨ byteAt rec 6 = 5 ∨ byteAt rec 6 = 6) ∧
       reservedClear rec [6, 8, 9, 10, 11, 12, 13, 14, 15] = true
     let clear := ∀ r ∈ s.regions, base + size ≤ r.base ∨ r.base + r.size ≤ base
     (¬ good → exec .defineRegion s = .next (s.ended rec (.refused .badField))) ∧
     (good → 0x80000000 < base + size → exec .defineRegion s = .next (s.ended rec (.refused .badAddress))) ∧
     (good → base + size ≤ 0x80000000 → ¬ clear →
       exec .defineRegion s = .next (s.ended rec (.refused .regionOverlap))) ∧
     (good → base + size ≤ 0x80000000 → clear → 64 ≤ s.regions.length →
       exec .defineRegion s = .next (s.ended rec (.refused .regionTableFull))) ∧
     ∀ kind ident, good → base + size ≤ 0x80000000 → clear → s.regions.length < 64 →
       regionKindField (byteAt rec 6) = some kind → (∀ r ∈ s.regions, r.ident ≠ ident) →
       (∀ i, i < ident → ∃ r ∈ s.regions, r.ident = i) →
       exec .defineRegion s = .next
         (({ s with
             regions := s.regions ++
               [{ ident := ident, base := base, size := size, kind := kind, origin := .dynamic, hold := 0
                  stream := none }] } : State).ended rec (.doneWithId ident))) ∧
  ∀ (s : State) (rec : List Byte), Arrives s 10 rec →
    (reservedClear rec [6] = false → exec .deleteRegion s = .next (s.ended rec (.refused .badField))) ∧
    (reservedClear rec [6] = true →
      ((∀ r ∈ s.regions, r.ident ≠ byteAt rec 6) →
        exec .deleteRegion s = .next (s.ended rec (.refused .noRegion))) ∧
      ∀ r, findRegion s.regions (byteAt rec 6) = some r →
        (r.origin = .layout → exec .deleteRegion s = .next (s.ended rec (.refused .badField))) ∧
        (r.origin = .dynamic → (r.kind = .frame ∧ 0 < r.hold) ∨ (r.kind = .audioRing ∧ r.stream ≠ none) →
          exec .deleteRegion s = .next (s.ended rec (.refused .regionBusy))) ∧
        (r.origin = .dynamic → ¬ (r.kind = .frame ∧ 0 < r.hold) → ¬ (r.kind = .audioRing ∧ r.stream ≠ none) →
          exec .deleteRegion s = .next
            (({ s with regions := s.regions.filter fun x => decide (x.ident ≠ byteAt rec 6) } : State).ended rec .done)))

/-! ### Audio requests (chapter 10) -/

/-- AUDIO_START (R166, R12): its checks in order; then the stream runs on the region from consumer index 0, its gain at its
target at once, the start delay 1000 µs, the producer copy the held value where that is below the ring size, and else 0 with
REQUEST_INVALID; a stream that was running is stopped first, its fetches in flight discarded (they no longer count toward the
fetches ahead: log 53, the model's choice); the first fetch, from the new ring's base, is made (R169). -/
def Obligations.AudioStartRunsStream : Prop :=
  ∀ (s : State) (rec : List Byte), Arrives s 11 rec →
    (2 < byteAt rec 6 ∨ reservedClear rec [6, 7, 8] = false →
      exec .audioStart s = .next (s.ended rec (.refused .badField))) ∧
    ∀ d, displayField (byteAt rec 6) = some d → reservedClear rec [6, 7, 8] = true →
      ((∀ r ∈ s.regions, r.ident = byteAt rec 7 → r.kind ≠ .audioRing) →
        exec .audioStart s = .next (s.ended rec (.refused .noRegion))) ∧
      ∀ r, findRegion s.regions (byteAt rec 7) = some r → r.kind = .audioRing →
        (∀ e, r.stream = some e → e ≠ d → exec .audioStart s = .next (s.ended rec (.refused .regionBusy))) ∧
        (r.stream = none ∨ r.stream = some d → Completes .audioStart s fun t =>
          let old := s.audio.streams.get d
          let new := t.audio.streams.get d
          let gain := min (byteAt rec 8) 127
          (new.running = true ∧ new.ring = some { region := byteAt rec 7, base := r.base, size := r.size / 4 } ∧
            new.consumer = 0 ∧ new.held = old.held ∧ new.buffer = [] ∧ new.setGain = gain ∧
            new.startDelay = some (later s.time 1000) ∧ new.underrun = false) ∧
          (new.gEff = if d = .front ∧ s.audio.chimes.front.player.isPlaying = true then gain * s.audio.duck / 64
            else gain) ∧
          (old.held.toNat < r.size / 4 → new.producer = old.held.toNat ∧ FaultsKept s t) ∧
          (r.size / 4 ≤ old.held.toNat → new.producer = 0 ∧
            FaultRaised .requestInvalid (0x010 + 4 * displayNumber d) s t) ∧
          (old.running = false → t.regions = attachRegion s.regions (byteAt rec 7) d ∧
            ∃ fetches, t.audio.fetchQueue = s.audio.fetchQueue ++ fetches ∧ (∀ f ∈ fetches, f.stream = d) ∧
              ((∀ f ∈ s.audio.fetchQueue, f.stream ≠ d) → 0 < old.held.toNat → old.held.toNat < r.size / 4 →
                fetches.head? = some
                  { stream := d, addr := r.base, count := min 16 old.held.toNat, keep := min 16 old.held.toNat })) ∧
          (∀ ring, old.running = true → old.ring = some ring →
            t.regions = attachRegion (detachRegion s.regions ring.region) (byteAt rec 7) d) ∧
          (old.running = true → ∃ fetches,
            t.audio.fetchQueue =
              (s.audio.fetchQueue.map fun f => if f.stream = d then { f with keep := 0 } else f) ++ fetches ∧
            (∀ f ∈ fetches, f.stream = d) ∧
            (0 < old.held.toNat → old.held.toNat < r.size / 4 → fetches.head? = some
              { stream := d, addr := r.base, count := min 16 old.held.toNat, keep := min 16 old.held.toNat })) ∧
          (∀ e, e ≠ d → t.audio.streams.get e = s.audio.streams.get e) ∧ t.audio.chimes = s.audio.chimes ∧
          TookRecord s t ∧ Within [.taker, .link, .rw, .regions, .audio] s t)

/-- AUDIO_STOP and AUDIO_GAIN (R167): a running stream is stopped, its region attached no longer, its buffer and the fetches
in flight discarded, its consumer index and held value kept (that its start delay and ring record become absent is the model's
choice, log 54); a running stream's set gain is replaced, at most 127; on a
stream that is not running both complete and change nothing. -/
def Obligations.AudioStopAndGainActOnRunningStream : Prop :=
  (∀ (s : State) (rec : List Byte), Arrives s 12 rec →
    (2 < byteAt rec 6 ∨ reservedClear rec [6] = false → exec .audioStop s = .next (s.ended rec (.refused .badField))) ∧
    ∀ d, displayField (byteAt rec 6) = some d → reservedClear rec [6] = true →
      let st := s.audio.streams.get d
      (st.running = false → exec .audioStop s = .next (s.ended rec .done)) ∧
      ∀ ring, st.running = true → st.ring = some ring →
        exec .audioStop s = .next
          (({ s with
              regions := s.regions.map fun r => if r.ident = ring.region then { r with stream := none } else r
              audio := { s.audio with
                streams := s.audio.streams.put d
                  { st with running := false, ring := none, buffer := [], gEff := 0, startDelay := none }
                fetchQueue := s.audio.fetchQueue.map fun f => if f.stream = d then { f with keep := 0 } else f } } :
            State).ended rec .done)) ∧
  ∀ (s : State) (rec : List Byte), Arrives s 13 rec →
    (2 < byteAt rec 6 ∨ reservedClear rec [6, 8] = false →
      exec .audioGain s = .next (s.ended rec (.refused .badField))) ∧
    ∀ d, displayField (byteAt rec 6) = some d → reservedClear rec [6, 8] = true →
      let st := s.audio.streams.get d
      (st.running = false → exec .audioGain s = .next (s.ended rec .done)) ∧
      (st.running = true →
        exec .audioGain s = .next
          ((s.updateStream d fun x => { x with setGain := min (byteAt rec 8) 127 }).ended rec .done))

/-- PLAY_CHIME into an IDLE player (R173, R174, R178, R179, R180): a resident clip plays at once; a clip that the staging
buffer holds plays with no staging; another has its staging asked, or waits for the buffer, or is discarded with
CHIME_UNAVAILABLE where it is unstageable. A pair, a clip or a reserved byte that names nothing refuses it. The staging asked for
runs at once in an IDLE store, waits in a reading one, and in one that programs or erases asks for its suspension at once, unless
the operation was resumed less than 2 ms ago (R48, R49; that these count all part time is the model's choice, log 42). -/
def Obligations.PlayChimeStartsInIdlePlayer : Prop :=
  ∀ (s : State) (rec : List Byte), Arrives s 14 rec → s.ChimesSettled →
    (2 < byteAt rec 6 ∨ s.audio.clips.length ≤ byteAt rec 7 ∨ reservedClear rec [6, 7, 8] = false →
      exec .playChime s = .next (s.ended rec (.refused .badField))) ∧
    ∀ d clip, displayField (byteAt rec 6) = some d → s.audio.clips[byteAt rec 7]? = some clip →
      reservedClear rec [6, 7, 8] = true → (s.audio.chimes.get d).player = .idle →
      let c : Chime :=
        { clip := byteAt rec 7, priority := min (byteAt rec 8) 3, owner := .system
          arrival := (s.audio.chimes.get d).arrivals }
      let entered := fun (u : State) (p : Player) =>
        u.updateChimes d fun x => { queue := [], arrivals := x.arrivals + 1, player := p }
      let buffer := s.audio.buffer
      let asking := fun (state : StoreState) (phase : StagingPhase) => Host.Outcome.next
        ((entered
          { s with
            store := { s.store with
              state := state
              staging := some { clip := byteAt rec 7, offset := clip.offset, length := clip.length, phase := phase } }
            audio := { s.audio with buffer := { buffer with user := some d, asked := some (byteAt rec 7) } } }
          (.starting c)).ended rec .done)
      (clip.resident = true → exec .playChime s = .next ((entered s (.playing c .cache 0)).ended rec .done)) ∧
      (clip.resident = false → buffer.user ≠ none ∨ buffer.asked ≠ none →
        exec .playChime s = .next
          ((entered { s with audio := { s.audio with buffer := { buffer with waiters := buffer.waiters ++ [d] } } }
            (.starting c)).ended rec .done)) ∧
      (clip.resident = false → buffer.user = none → buffer.asked = none →
        (buffer.content = some (byteAt rec 7) →
          exec .playChime s = .next
            ((entered { s with audio := { s.audio with buffer := { buffer with user := some d } } }
              (.playing c .staging 0)).ended rec .done)) ∧
        (buffer.content ≠ some (byteAt rec 7) → s.store.unstageable clip.offset clip.length = false →
          s.store.state = .idle →
          exec .playChime s = asking .reading (.running s.time)) ∧
        (buffer.content ≠ some (byteAt rec 7) → s.store.unstageable clip.offset clip.length = false →
          s.store.state = .reading → exec .playChime s = asking .reading .waiting) ∧
        (∀ op, buffer.content ≠ some (byteAt rec 7) → s.store.unstageable clip.offset clip.length = false →
          s.store.state = .programming ∨ s.store.state = .erasing → s.store.op = some op →
          ((∀ t, op.lastResume = some t → 2000 ≤ elapsed s.time t) →
            exec .playChime s = asking s.store.state (.asked s.time)) ∧
          ∀ t, op.lastResume = some t → elapsed s.time t < 2000 →
            exec .playChime s = asking s.store.state .waiting) ∧
        (buffer.content ≠ some (byteAt rec 7) → s.store.unstageable clip.offset clip.length = true →
          exec .playChime s = .next
            ((entered (s.raise .chimeUnavailable (byteAt rec 7)) .idle).ended rec .done)))

/-- PLAY_CHIME on a busy player (R175, R176): not above the chime in the player, it takes its place in the queue by priority
and age, or the place of the oldest of the lowest where the queue is full, or is refused with QUEUE_FULL; above a SYSTEM
chime in the player, it stops that chime and starts: from the cache, from the staging buffer that holds its clip, or STARTING, where
its staging is asked or it waits for the buffer; a full queue gives up its oldest entry of the lowest priority all the same. The
chime stopped leaves the buffer or the wait list (R179); a chime that then finds the buffer free goes before the newcomer (log
13: the model's choice). A REVERSE_TONE stops a chime on FRONT in the same way, and where that is a PARK_BEEP in a CONTINUOUS band
the pattern, told of it once the tone is placed (log 15: the model's choice), offers the next beep, which waits behind the tone
(R108, R173). A tone waits behind a tone, a beep behind a tone or a beep, and a beep stops a SYSTEM chime on FRONT. -/
def Obligations.PlayChimeOnBusyPlayerQueuesOrPreempts : Prop :=
  (∀ (s : State) (rec : List Byte) (d : Display) (clip : Clip) (now : Chime), Arrives s 14 rec → s.ChimesSettled →
    displayField (byteAt rec 6) = some d → s.audio.clips[byteAt rec 7]? = some clip →
    reservedClear rec [6, 7, 8] = true → (s.audio.chimes.get d).player.chime = some now →
    let q := (s.audio.chimes.get d).queue
    let c : Chime :=
      { clip := byteAt rec 7, priority := min (byteAt rec 8) 3, owner := .system
        arrival := (s.audio.chimes.get d).arrivals }
    let placed := fun old : List Chime =>
      old.takeWhile (fun x => decide (c.priority ≤ x.priority)) ++ c ::
        old.dropWhile (fun x => decide (c.priority ≤ x.priority))
    (c.priority ≤ now.priority → q.length < 4 →
      exec .playChime s = .next
        ((s.updateChimes d fun x => { x with queue := placed q, arrivals := x.arrivals + 1 }).ended rec .done)) ∧
    (c.priority ≤ now.priority → q.length = 4 → (∀ x ∈ q, c.priority ≤ x.priority) →
      exec .playChime s = .next (s.ended rec (.refused .queueFull))) ∧
    (∀ before low after, c.priority ≤ now.priority → q.length = 4 → q = before ++ low :: after →
      low.priority < c.priority → (∀ x ∈ before, low.priority < x.priority) → (∀ x ∈ after, low.priority ≤ x.priority) →
      exec .playChime s = .next
        ((s.updateChimes d fun x => { x with queue := placed (before ++ after), arrivals := x.arrivals + 1 }).ended rec
          .done)) ∧
    (now.priority < c.priority → now.owner = .system → q.length < 4 → (∀ x ∈ q, x.priority < c.priority) →
      clip.resident = true → s.audio.buffer.user ≠ some d → d ∉ s.audio.buffer.waiters →
      exec .playChime s = .next
        ((s.updateChimes d fun x => { x with arrivals := x.arrivals + 1, player := .playing c .cache 0 }).ended rec .done)) ∧
    ∀ kept, now.priority < c.priority → now.owner = .system → MakesRoom q kept c.priority →
      (∀ x ∈ kept, x.priority < c.priority) →
      let left := s.audio.buffer.without d
      let holding := fun b : StagingBuffer => { s with audio := { s.audio with buffer := b } }
      let asking := fun (u : State) (clip : Nat) (k : Clip) =>
        { u with
          store := { u.store with
            state := .reading
            staging := some { clip := clip, offset := k.offset, length := k.length, phase := .running s.time } } }
      let enters := fun (u : State) (p : Player) => exec .playChime s = .next
        ((u.updateChimes d fun x => { queue := kept, arrivals := x.arrivals + 1, player := p }).ended rec .done)
      (clip.resident = true → left.user ≠ none ∨ left.asked ≠ none ∨ left.waiters = [] →
        enters (holding left) (.playing c .cache 0)) ∧
      (clip.resident = false → left.user ≠ none ∨ left.asked ≠ none →
        enters (holding { left with waiters := left.waiters ++ [d] }) (.starting c)) ∧
      (clip.resident = false → left.user = none → left.asked = none → left.waiters = [] →
        (left.content = some c.clip → enters (holding { left with user := some d }) (.playing c .staging 0)) ∧
        (left.content ≠ some c.clip → s.store.unstageable clip.offset clip.length = false → s.store.state = .idle →
          enters (asking (holding { left with user := some d, asked := some c.clip }) c.clip clip) (.starting c)) ∧
        (left.content ≠ some c.clip → s.store.unstageable clip.offset clip.length = true → kept = [] →
          enters ((holding left).raise .chimeUnavailable c.clip) .idle)) ∧
      ∀ w more waiting k, left.user = none → left.asked = none → left.waiters = w :: more →
        (s.audio.chimes.get w).player = .starting waiting → s.audio.clips[waiting.clip]? = some k →
        let later := if clip.resident = true then more else more ++ [d]
        let p := if clip.resident = true then Player.playing c .cache 0 else .starting c
        (left.content = some waiting.clip →
          enters ((holding { left with user := some w, waiters := later }).updateChimes w fun x =>
            { x with player := .playing waiting .staging 0 }) p) ∧
        (left.content ≠ some waiting.clip → s.store.unstageable k.offset k.length = false → s.store.state = .idle →
          enters
            (asking (holding { left with user := some w, asked := some waiting.clip, waiters := later }) waiting.clip k) p)) ∧
  (∀ (s : State) (now : Chime) (clip : Clip) (kept : List Chime), s.ChimesSettled →
    s.audio.chimes.front.player.chime = some now → now.priority < 6 → s.audio.clips[0]? = some clip →
    clip.resident = true → (∀ x ∈ s.audio.chimes.front.queue, ¬ (x.owner = .part ∧ x.clip = 0)) →
    MakesRoom s.audio.chimes.front.queue kept 6 → (∀ x ∈ kept, x.priority < 6) →
    let left := s.audio.buffer.without .front
    let arrivals := s.audio.chimes.front.arrivals
    let toned := fun (queue : List Chime) (count : Nat) =>
      { s with
        audio := { s.audio with
          buffer := left
          chimes := { s.audio.chimes with
            front :=
              { queue := queue, arrivals := count
                player := .playing { clip := 0, priority := 6, owner := .part, arrival := arrivals } .cache 0 } } } }
    let beep : Chime := { clip := 1, priority := 5, owner := .part, arrival := arrivals + 1 }
    let continuous := s.park.active = true ∧
      ∃ i b, s.park.band = some i ∧ s.park.table[i]? = some b ∧ b.interval = none
    left.user ≠ none ∨ left.asked ≠ none ∨ left.waiters = [] →
    (¬ (now.owner = .part ∧ now.clip = 1 ∧ continuous) → s.offerTone = toned kept (arrivals + 1)) ∧
    (now.owner = .part → now.clip = 1 → continuous →
      ((∃ x ∈ kept, x.owner = .part ∧ x.clip = 1) → s.offerTone = toned kept (arrivals + 1)) ∧
      ∀ rest, (∀ x ∈ kept, ¬ (x.owner = .part ∧ x.clip = 1)) → MakesRoom kept rest 5 →
        s.offerTone = toned
          (rest.takeWhile (fun x => decide (5 ≤ x.priority)) ++ beep ::
            rest.dropWhile fun x => decide (5 ≤ x.priority)) (arrivals + 2))) ∧
  ∀ (s : State) (now : Chime) (kept : List Chime), s.ChimesSettled → s.audio.chimes.front.player.chime = some now →
    let front := s.audio.chimes.front
    let waits := fun c : Chime =>
      { s with
        audio := { s.audio with
          chimes := { s.audio.chimes with
            front := { front with
              arrivals := front.arrivals + 1
              queue := kept.takeWhile (fun x => decide (c.priority ≤ x.priority)) ++ c ::
                kept.dropWhile fun x => decide (c.priority ≤ x.priority) } } } }
    let beep : Chime := { clip := 1, priority := 5, owner := .part, arrival := front.arrivals }
    ((∀ x ∈ front.queue, ¬ (x.owner = .part ∧ x.clip = 0)) → 6 ≤ now.priority → MakesRoom front.queue kept 6 →
      s.offerTone = waits { clip := 0, priority := 6, owner := .part, arrival := front.arrivals }) ∧
    ((∀ x ∈ front.queue, ¬ (x.owner = .part ∧ x.clip = 1)) → MakesRoom front.queue kept 5 →
      (5 ≤ now.priority → s.offerBeep = waits beep) ∧
      ∀ clip, now.priority < 5 → s.audio.clips[1]? = some clip → clip.resident = true →
        (∀ x ∈ kept, x.priority < 5) →
        let left := s.audio.buffer.without .front
        left.user ≠ none ∨ left.asked ≠ none ∨ left.waiters = [] →
        s.offerBeep =
          { s with
            audio := { s.audio with
              buffer := left
              chimes := { s.audio.chimes with
                front := { queue := kept, arrivals := front.arrivals + 1, player := .playing beep .cache 0 } } } })

/-- STOP_CHIMES (R177): every pending SYSTEM entry of the pair goes, and the SYSTEM chime in its player, which gives up the
staging buffer; PART entries keep their places, and the first of them starts where the player is left IDLE. -/
def Obligations.StopChimesRemovesSystemChimes : Prop :=
  ∀ (s : State) (rec : List Byte), Arrives s 15 rec → s.ChimesSettled →
    (2 < byteAt rec 6 ∨ reservedClear rec [6] = false →
      exec .stopChimes s = .next (s.ended rec (.refused .badField))) ∧
    ∀ d, displayField (byteAt rec 6) = some d → reservedClear rec [6] = true →
      let p := s.audio.chimes.get d
      let own := p.queue.filter fun c => decide (c.owner = .part)
      ((∀ c, p.player.chime = some c → c.owner = .part) →
        exec .stopChimes s = .next ((s.updateChimes d fun x => { x with queue := own }).ended rec .done)) ∧
      ∀ c, p.player.chime = some c → c.owner = .system →
        (own = [] → s.audio.buffer.waiters.filter (fun w => decide (w ≠ d)) = [] →
          exec .stopChimes s = .next
            (({ s with
                audio := { s.audio with
                  chimes := s.audio.chimes.put d { p with queue := [], player := .idle }
                  buffer := { s.audio.buffer with
                    user := if s.audio.buffer.user = some d then none else s.audio.buffer.user
                    waiters := [] } } } : State).ended rec .done)) ∧
        ∀ head rest clip, own = head :: rest → s.audio.clips[head.clip]? = some clip → clip.resident = true →
          s.audio.buffer.user ≠ some d → d ∉ s.audio.buffer.waiters →
          exec .stopChimes s = .next
            ((s.updateChimes d fun x => { x with queue := rest, player := .playing head .cache 0 }).ended rec .done)

/-! ### The store (chapter 3) -/

/-- The checks of the four store requests (R13, R40, R41, R43, R44, R45): the first that fails refuses the request; one that
passes while the store is busy joins the tail of the queue and posts nothing. -/
def Obligations.StoreRequestIsCheckedAndQueued : Prop :=
  ∀ (s : State) (rec : List Byte),
    let offset := fieldAt rec 8 4
    let length := fieldAt rec 12 4
    let addr := fieldAt rec 16 4
    let named := [8, 9, 10, 11, 12, 13, 14, 15, 16, 17, 18, 19]
    let outOfReach := 0x80000000 < addr + length ∨ ∃ r ∈ s.regions, (r.kind = .locked ∨ r.kind = .status) ∧
      addr < r.base + r.size ∧ r.base < addr + length
    let lockSet := s.store.lockCopy = true ∨ (∃ op, s.store.op = some op ∧ op.request.work = .lock) ∨
      ∃ r ∈ s.store.queue, r.work = .lock
    let full := 4 ≤ s.store.queue.length
    let busy := s.store.state ≠ .idle ∨ s.store.staging ≠ none
    let queued := fun w : StoreWork =>
      (({ s with store := { s.store with queue := s.store.queue ++ [{ tag := reqTag rec, work := w }] } } :
        State).ended rec .queued)
    (Arrives s 16 rec →
      let bad := length = 0 ∨ 4096 < length ∨ 0x200000 < offset + length ∨ reservedClear rec named = false
      (bad → exec .storeRead s = .next (s.ended rec (.refused .badField))) ∧
      (¬ bad → outOfReach → exec .storeRead s = .next (s.ended rec (.refused .badAddress))) ∧
      (¬ bad → ¬ outOfReach → full → exec .storeRead s = .next (s.ended rec (.refused .storeBusy))) ∧
      (¬ bad → ¬ outOfReach → ¬ full → busy → exec .storeRead s = .next (queued (.read offset length addr)))) ∧
    (Arrives s 17 rec →
      let bad := offset % 256 ≠ 0 ∨ 0x1FFF00 < offset ∨ length = 0 ∨ 256 < length ∨ reservedClear rec named = false
      let locked := offset < 0x10000 ∧ lockSet
      (bad → exec .storeProgram s = .next (s.ended rec (.refused .badField))) ∧
      (¬ bad → outOfReach → exec .storeProgram s = .next (s.ended rec (.refused .badAddress))) ∧
      (¬ bad → ¬ outOfReach → locked → exec .storeProgram s = .next (s.ended rec (.refused .storeLocked))) ∧
      (¬ bad → ¬ outOfReach → ¬ locked → full → exec .storeProgram s = .next (s.ended rec (.refused .storeBusy))) ∧
      (¬ bad → ¬ outOfReach → ¬ locked → ¬ full → busy →
        exec .storeProgram s = .next (queued (.program offset length addr)))) ∧
    (Arrives s 18 rec →
      let bad := 31 < byteAt rec 6 ∨ reservedClear rec [6] = false
      let locked := byteAt rec 6 = 0 ∧ lockSet
      (bad → exec .storeErase s = .next (s.ended rec (.refused .badField))) ∧
      (¬ bad → locked → exec .storeErase s = .next (s.ended rec (.refused .storeLocked))) ∧
      (¬ bad → ¬ locked → full → exec .storeErase s = .next (s.ended rec (.refused .storeBusy))) ∧
      (¬ bad → ¬ locked → ¬ full → busy → exec .storeErase s = .next (queued (.erase (byteAt rec 6))))) ∧
    (Arrives s 19 rec →
      let bad := reservedClear rec [] = false
      (bad → exec .storeLockCalibration s = .next (s.ended rec (.refused .badField))) ∧
      (¬ bad → full → exec .storeLockCalibration s = .next (s.ended rec (.refused .storeBusy))) ∧
      (¬ bad → ¬ full → busy → exec .storeLockCalibration s = .next (queued .lock)))

/-- A store request that passes its checks in an IDLE store with nothing waiting starts at once (R39, R40, R42 to R45): a read
presents its destination writes, a byte of an INCOMPLETE block as 0; a program presents its source reads; a program and an
erase make their block INCOMPLETE and empty a staging buffer that holds a clip of it (R179); a lock write starts, or, with
the lock already set, completes at once, its kind and code being written at 0x07E before its tag at 0x080. That order, the ascending
order of the source reads, and the cut of reads and writes into the fewest accesses are the model's choice (log 43): the spec
orders neither the two writes nor the reads; and so is that all of them are presented at the start (log 57). -/
def Obligations.StoreRequestStartsInIdleStore : Prop :=
  ∀ (s : State) (rec : List Byte), s.store.state = .idle → s.store.staging = none → s.store.queue = [] →
    s.store.op = none →
    let offset := fieldAt rec 8 4
    let length := fieldAt rec 12 4
    let addr := fieldAt rec 16 4
    let begun := fun (w : StoreWork) (counting : Option Time) => some
      ({ request := { tag := reqTag rec, work := w }, source := [], counting := counting, ran := 0, lastResume := none } :
        StoreOp)
    let emptied := fun block : Nat => match s.audio.buffer.content with
      | none => s.audio
      | some k => match s.audio.clips[k]? with
        | none => s.audio
        | some clip =>
          if blockOf clip.offset ≤ block ∧ block ≤ blockOf (clip.offset + clip.length - 1) then
            { s.audio with buffer := { s.audio.buffer with content := none } }
          else s.audio
    (Arrives s 16 rec → checkRead s rec = none →
      exec .storeRead s = .next
        (({ s with
            store := { s.store with
              state := .reading, op := begun (.read offset length addr) none
              transfers := s.store.transfers ++
                (blockWrites addr ((List.range length).map fun i =>
                  if s.store.status (blockOf (offset + i)) = .incomplete then 0 else s.store.byte (offset + i))).map
                    fun p => Transfer.write p.1 p.2 } } : State).ended rec .queued)) ∧
    (Arrives s 17 rec → checkProgram s rec = none →
      exec .storeProgram s = .next
        (({ s with
            store := { s.store with
              state := .programming, op := begun (.program offset length addr) none
              transfers := s.store.transfers ++ (blockPieces length addr length).map fun p => Transfer.source p.1 p.2
              marks := s.store.marks.setIfInBounds (blockOf offset) .incomplete
              table := s.store.table.setIfInBounds (blockOf offset) .incomplete }
            audio := emptied (blockOf offset) } : State).ended rec .queued)) ∧
    (Arrives s 18 rec → checkErase s rec = none →
      exec .storeErase s = .next
        (({ s with
            store := { s.store with
              state := .erasing, op := begun (.erase (byteAt rec 6)) (some s.time)
              marks := s.store.marks.setIfInBounds (byteAt rec 6) .incomplete
              table := s.store.table.setIfInBounds (byteAt rec 6) .incomplete }
            audio := emptied (byteAt rec 6) } : State).ended rec .queued)) ∧
    (Arrives s 19 rec → reservedClear rec [] = true →
      (s.store.lockCopy = false →
        exec .storeLockCalibration s = .next
          (({ s with store := { s.store with state := .programming, op := begun .lock (some s.time) } } :
            State).ended rec .queued)) ∧
      ∀ roles, s.store.lockCopy = true → s.roles = some roles →
        exec .storeLockCalibration s = .next
          ((({ s with
              store := { s.store with lastTag := reqTag rec, lastKind := 19, lastCode := .ok }
              rw := { s.rw with
                queue := s.rw.queue ++
                  [{ addr := roles.statusBlock + 0x07E, bytes := [19, 0], bringUp := false },
                   { addr := roles.statusBlock + 0x080, bytes := bytesOf 2 (reqTag rec), bringUp := false }] } } :
                State).post (.done (reqTag rec) .ok 0)).ended rec .queued))

/-- SYSTEM_RESTART (R25, R63, R105): every block restores its link-side state, the ring index words are rewritten with 0 at
once, and the DONE, where wanted, is the first report of the restarted ring, in slot 0; a REVERSE OFF follows where the
controller was in MANUAL. That a nonzero reserved byte refuses it is the model's reading of R186 (log 11), and that of the two
index words 0x024 is written before 0x028 is its choice (log 12). -/
def Obligations.SystemRestartRestoresLinkSide : Prop :=
  ∀ (s : State) (rec : List Byte) (roles : Roles), Arrives s 22 rec → s.roles = some roles → s.link.up = true →
    (reservedClear rec [] = false → exec .systemRestart s = .next (s.ended rec (.refused .badField))) ∧
    (reservedClear rec [] = true → Completes .systemRestart s fun t =>
      let reports := (if reqWanted rec = 1 then [encodeReport s.time (.done (reqTag rec) .ok 0)] else []) ++
        if s.reverse.state = .manual then [encodeReport s.time (.reverse .off)] else []
      Restarted s t ∧ t.link.up = true ∧ t.link.responses = s.link.responses ∧ t.link.held = s.link.held ∧
      t.link.answered = s.link.answered ∧ t.rw.producer = reports.length ∧
      ((t.rw.queue.map fun w => (w.addr, w.bytes)) =
        (s.rw.queue.map fun w => (w.addr, w.bytes)) ++
          [(roles.statusBlock + 0x024, bytesOf 4 0), (roles.statusBlock + 0x028, bytesOf 4 0)] ++
          ((List.range reports.length).map fun n =>
            [(roles.reportRing + 32 * n, reports.getD n []), (roles.statusBlock + 0x028, bytesOf 4 (n + 1))]).flatten) ∧
      ∀ a ∈ t.link.path, ∀ b live, a = .record b live → live = false)

/-- What a completion records, and what follows it (R39, R40, R46, R48): tag, kind and code become the last store completion and
are written into the status block at once, each side of its 64-byte boundary by an access of its own (1.4), kind and code before
the tag (log 43: the model's choice), then the DONE is posted; a waiting staging runs before the queue, else the oldest queued
request starts, else the store is IDLE. -/
def Obligations.StoreCompletionIsRecordedAndFollowed : Prop :=
  ∀ (s : State) (r : StoreRequest) (code : Code) (roles : Roles), s.roles = some roles →
    let told :=
      ({ s with
        store := { s.store with lastTag := r.tag, lastKind := storeWorkKind r.work, lastCode := code, op := none }
        rw := { s.rw with
          queue := s.rw.queue ++
            [{ addr := roles.statusBlock + 0x07E
               bytes := [BitVec.ofNat 8 (storeWorkKind r.work), BitVec.ofNat 8 (codeNumber code)], bringUp := false },
             { addr := roles.statusBlock + 0x080, bytes := bytesOf 2 r.tag, bringUp := false }] } } : State).post
        (.done r.tag code 0)
    (∀ g, s.store.staging = some g → s.finishStore r code =
      { told with
        store := { told.store with staging := some { g with phase := .running s.time }, state := .reading } }) ∧
    (s.store.staging = none → s.store.queue = [] → s.finishStore r code =
      { told with store := { told.store with state := .idle } }) ∧
    ∀ next rest, s.store.staging = none → s.store.queue = next :: rest → next.work ≠ .lock ∨ s.store.lockCopy = false →
      let t := s.finishStore r code
      t.store.queue = rest ∧ (∃ op, t.store.op = some op ∧ op.request = next ∧ op.source = [] ∧ op.ran = 0 ∧
        op.lastResume = none) ∧
      t.store.state = (match next.work with
        | .read _ _ _ => .reading
        | .program _ _ _ => .programming
        | .erase _ => .erasing
        | .lock => .programming) ∧
      t.rw = told.rw ∧ t.store.cells = s.store.cells ∧ t.store.lockMark = s.store.lockMark

/-- A page program ends (R42): each programmed byte is the AND of its old content and the source byte, every other byte is as it
was, the block is WRITTEN, and the code is OK exactly where every byte equals its source; else VERIFY_FAIL, with STORE_FAIL
raised first. It does not end before 600 µs of running time (that the command then has no effect is log 19). That
STORE_FAIL comes before the completion fields are written, and not only before the DONE (R46), is the model's choice (log 45). -/
def Obligations.ProgramAndsSourceIntoPage : Prop :=
  ∀ (s : State) (op : StoreOp) (offset length addr : Nat) (since : Time), s.Canonical → s.store.state = .programming →
    s.store.op = some op → op.request.work = .program offset length addr → op.source.length = length →
    op.counting = some since →
    (op.ran + elapsed s.time since < 600 → exec .storeProgramComplete s = .next s) ∧
    (600 ≤ op.ran + elapsed s.time since → ∃ st : Store,
      (∀ a, a < offset ∨ offset + length ≤ a → st.byte a = s.store.byte a) ∧
      (∀ i v, op.source[i]? = some v → st.byte (offset + i) = s.store.byte (offset + i) &&& v) ∧
      { st with cells := s.store.cells, marks := s.store.marks, table := s.store.table } = s.store ∧
      st.marks = s.store.marks.setIfInBounds (offset / 65536) .written ∧
      st.table = s.store.table.setIfInBounds (offset / 65536) .written ∧
      ((∀ i v, op.source[i]? = some v → s.store.byte (offset + i) &&& v = v) →
        exec .storeProgramComplete s = .next (({ s with store := st } : State).finishStore op.request .ok)) ∧
      ((∃ i v, op.source[i]? = some v ∧ s.store.byte (offset + i) &&& v ≠ v) →
        exec .storeProgramComplete s = .next
          ((({ s with store := st } : State).raise .storeFail (offset / 65536)).finishStore op.request .verifyFail)))

/-- An erase ends (R43): every byte of the block reads 0xFF and the block is ERASED, no other byte changed; a lock write ends
(R45): the lock is set and its copy with it, no block changed. Each completes with OK, after 120 ms or 600 µs of running time
(that an earlier command has no effect is log 19). A read ends when its last destination write has been granted (R44): with OK
where no block of its range is INCOMPLETE, else with BLOCK_INCOMPLETE after STORE_FAIL for the lowest such block; that it is
raised before the completion fields are written is the model's choice (log 45). -/
def Obligations.EraseLockAndReadComplete : Prop :=
  (∀ (s : State) (op : StoreOp) (since : Time), s.store.op = some op → op.counting = some since →
     (∀ block, s.store.state = .erasing → op.request.work = .erase block → block < 32 →
       120000 ≤ op.ran + elapsed s.time since → ∃ st : Store,
         (∀ a, st.byte a = if a / 65536 = block then 0xFF else s.store.byte a) ∧
         { st with cells := s.store.cells, background := s.store.background, marks := s.store.marks
                   table := s.store.table } = s.store ∧
         st.marks = s.store.marks.setIfInBounds block .erased ∧ st.table = s.store.table.setIfInBounds block .erased ∧
         exec .storeEraseComplete s = .next (({ s with store := st } : State).finishStore op.request .ok)) ∧
     (s.store.state = .programming → op.request.work = .lock → 600 ≤ op.ran + elapsed s.time since →
       exec .lockWriteComplete s = .next
         (({ s with store := { s.store with lockMark := true, lockCopy := true } } : State).finishStore op.request .ok)) ∧
     (∀ block, op.request.work = .erase block → op.ran + elapsed s.time since < 120000 →
       exec .storeEraseComplete s = .next s) ∧
     (op.request.work = .lock → op.ran + elapsed s.time since < 600 → exec .lockWriteComplete s = .next s)) ∧
  ∀ (s : State) (op : StoreOp) (offset length dest : Nat), s.store.state = .reading → s.store.op = some op →
    op.request.work = .read offset length dest → 0 < length →
    let spans := fun b => offset / 65536 ≤ b ∧ b ≤ (offset + length - 1) / 65536
    (s.store.transfers ≠ [] → exec .storeReadComplete s = .next s) ∧
    (s.store.transfers = [] → (∀ b, spans b → s.store.status b ≠ .incomplete) →
      exec .storeReadComplete s = .next (s.finishStore op.request .ok)) ∧
    ∀ b, s.store.transfers = [] → spans b → s.store.status b = .incomplete →
      (∀ k, spans k → k < b → s.store.status k ≠ .incomplete) →
      exec .storeReadComplete s = .next ((s.raise .storeFail b).finishStore op.request .blockIncomplete)

/-- Suspension (R49): asked for at once where the operation has not been resumed, else after 2 ms since the resume, which count
also the time in which a program awaits its source (log 42: the model's choice; a command before its time has no effect, log 19); taking effect, it stops the running time and the staging runs, and until the resume no
access of the store is granted (log 41). A staging's end (R39, R48, R49, R179) gives the buffer the clip and plays it for the
chime that still uses the buffer; then the suspended operation resumes, or the oldest queued request starts, or the store is
IDLE; and with the buffer free the first chime on the wait list takes it, to play the clip held or to have its own staged. -/
def Obligations.StagingSuspendsAndResumes : Prop :=
  (∀ s : State, s.store.state = .suspendedProgram ∨ s.store.state = .suspendedErase →
    chooseClient s.arb s.waits ≠ some .store) ∧
  ∀ (s : State) (g : Staging), s.store.staging = some g →
    (∀ op, s.store.op = some op → s.store.state = .programming ∨ s.store.state = .erasing →
      (g.phase = .waiting → (∀ t, op.lastResume = some t → 2000 ≤ elapsed s.time t) →
        exec .suspensionAsk s = .next
          { s with store := { s.store with staging := some { g with phase := .asked s.time } } }) ∧
      (∀ t, op.lastResume = some t → elapsed s.time t < 2000 → exec .suspensionAsk s = .next s) ∧
      ∀ asked, g.phase = .asked asked →
        exec .suspensionTakesEffect s = .next
          { s with
            store := { s.store with
              op := some
                { op with
                  ran := match op.counting with
                    | none => op.ran
                    | some since => op.ran + elapsed s.time since
                  counting := none }
              staging := some { g with phase := .running s.time }
              state := if s.store.state = .erasing then .suspendedErase else .suspendedProgram } }) ∧
    ∀ since, g.phase = .running since →
      (elapsed s.time since < 40 + 4 * ((g.length + 255) / 256) → exec .stagingComplete s = .next s) ∧
      (40 + 4 * ((g.length + 255) / 256) ≤ elapsed s.time since → s.ChimesSettled →
        let staged :=
          { s.audio.buffer with content := some g.clip, bytes := s.store.bytes g.offset g.length, asked := none }
        (∀ op d c, s.store.op = some op → s.store.state = .suspendedProgram ∨ s.store.state = .suspendedErase →
          s.audio.buffer.user = some d → (s.audio.chimes.get d).player = .starting c →
          exec .stagingComplete s = .next
            { s with
              audio := { s.audio with
                buffer := staged
                chimes := s.audio.chimes.put d { s.audio.chimes.get d with player := .playing c .staging 0 } }
              store := { s.store with
                op := some { op with counting := if op.awaits = 0 then some s.time else none, lastResume := some s.time }
                staging := none
                state := if s.store.state = .suspendedErase then .erasing else .programming } }) ∧
        (s.store.state = .reading → s.store.queue = [] → s.audio.buffer.user = none → s.audio.buffer.waiters = [] →
          exec .stagingComplete s = .next
            { s with
              audio := { s.audio with buffer := staged }
              store := { s.store with staging := none, state := .idle } }) ∧
        (∀ d c, s.store.state = .reading → s.store.queue = [] → s.audio.buffer.user = some d →
          (s.audio.chimes.get d).player = .starting c →
          exec .stagingComplete s = .next
            { s with
              audio := { s.audio with
                buffer := staged
                chimes := s.audio.chimes.put d { s.audio.chimes.get d with player := .playing c .staging 0 } }
              store := { s.store with staging := none, state := .idle } }) ∧
        (∀ next rest, s.store.state = .reading → s.store.queue = next :: rest →
          next.work ≠ .lock ∨ s.store.lockCopy = false → s.audio.buffer.user = none → s.audio.buffer.waiters = [] →
          Completes .stagingComplete s fun t =>
            t.store.staging = none ∧ t.store.queue = rest ∧
            (∃ op, t.store.op = some op ∧ op.request = next ∧ op.source = [] ∧ op.ran = 0 ∧ op.lastResume = none) ∧
            t.store.state = (match next.work with
              | .read _ _ _ => .reading
              | .program _ _ _ => .programming
              | .erase _ => .erasing
              | .lock => .programming) ∧
            t.audio = { s.audio with buffer := { staged with content := t.audio.buffer.content } } ∧
            ((∀ c, s.audio.clips[g.clip]? = some c → ∀ b, blockOf c.offset ≤ b → b ≤ blockOf (c.offset + c.length - 1) →
              (match next.work with
                | .read _ _ _ => none
                | .program offset _ _ => some (blockOf offset)
                | .erase block => some block
                | .lock => none) ≠ some b) → t.audio.buffer.content = some g.clip) ∧
            Within [.store, .audio] s t) ∧
        ∀ d more c clip, s.store.state = .reading → s.store.queue = [] → s.audio.buffer.user = none →
          s.audio.buffer.waiters = d :: more → (s.audio.chimes.get d).player = .starting c →
          s.audio.clips[c.clip]? = some clip →
          (c.clip = g.clip → exec .stagingComplete s = .next
            { s with
              audio := { s.audio with
                buffer := { staged with user := some d, waiters := more }
                chimes := s.audio.chimes.put d { s.audio.chimes.get d with player := .playing c .staging 0 } }
              store := { s.store with staging := none, state := .idle } }) ∧
          (c.clip ≠ g.clip → s.store.unstageable clip.offset clip.length = false →
            exec .stagingComplete s = .next
              { s with
                audio := { s.audio with buffer := { staged with user := some d, asked := some c.clip, waiters := more } }
                store := { s.store with
                  staging := some
                    { clip := c.clip, offset := clip.offset, length := clip.length, phase := .running s.time }
                  state := .reading } }))

/-! ### The camera receiver (chapter 5) -/

/-- FRAME_START (R67, R68, R71, R73, R78, R79): it opens a frame in the lowest-numbered buffer that is neither newest nor
displaying; in SEARCH and NO_SIGNAL it moves the receiver to VERIFY with a CAMERA report for each change; a frame still open
is first ended as errored, as the fourth in LOCKED with SEARCH on the way to VERIFY; and it waits while the capture of the last
usable frame is not complete. That one which waits has restarted the timer and ended NO_SIGNAL, with its report, when it arrived is
the model's reading (log 25); that the writes of an errored frame's rows that still wait stay queued is its choice (log 55). Entering
SEARCH makes the direction candidate none (R86). -/
def Obligations.FrameStartOpensFrame : Prop :=
  ∀ (s : State) (number : Byte), s.camera.running = true → s.camera.deferred = [] →
    let timer := some (later s.time 20000)
    let opened := fun (c : Camera) (k : Fin 3) =>
      { c with
        writing := some k, previous := some number
        frame := some
          { number := number, expected := 0, concealed := 0, inOrder := true, lumaSum := 0
            jumped := match c.previous with
              | none => false
              | some p => decide (number ≠ p + 1)
            rowAbove := none } }
    let used := fun k : Fin 3 => s.camera.newest.map Prod.fst = some k ∨ s.camera.displaying = some k
    (s.camera.align ≠ .noSignal → s.camera.completing ≠ none →
      exec (.frameStart number) s = .next
        { s with camera := { s.camera with timer := timer, deferred := [.frameStart number] } }) ∧
    (s.camera.align = .noSignal → s.camera.completing ≠ none →
      exec (.frameStart number) s = .next
        (({ s with
            camera := { s.camera with
              align := .search, timer := timer, candidate := none, deferred := [.frameStart number] } } : State).post
          (.camera .search))) ∧
    ∀ k : Fin 3, ¬ used k → (∀ j, j < k → used j) → s.camera.completing = none →
      (s.camera.frame = none → s.camera.align = .verify ∨ s.camera.align = .locked →
        exec (.frameStart number) s = .next { s with camera := opened { s.camera with timer := timer } k }) ∧
      (s.camera.frame = none → s.camera.align = .search ∨ s.camera.align = .noSignal →
        Completes (.frameStart number) s fun t =>
          t.camera = opened
            { s.camera with
              timer := timer, align := .verify, goodRun := 0
              candidate := if s.camera.align = .noSignal then none else s.camera.candidate } k ∧
          t.rw = (if s.camera.align = .search then s.post (.camera .verify)
            else (s.post (.camera .search)).post (.camera .verify)).rw ∧ Within [.camera, .rw] s t) ∧
      (∀ f, s.camera.frame = some f → (s.camera.align = .verify ∨ (s.camera.align = .locked ∧ s.camera.erroredRun < 3)) →
        Completes (.frameStart number) s fun t =>
          t.camera = opened
            { s.camera with
              timer := timer
              goodRun := if s.camera.align = .verify then 0 else s.camera.goodRun
              erroredRun := if s.camera.align = .verify then s.camera.erroredRun else s.camera.erroredRun + 1
              candidate := if s.camera.align = .verify then s.camera.candidate else none } k ∧
          FaultRaised .cameraErrored f.number.toNat s t ∧ Within [.camera, .rw] s t) ∧
      ∀ f, s.camera.frame = some f → s.camera.align = .locked → 3 ≤ s.camera.erroredRun →
        Completes (.frameStart number) s fun t =>
          t.camera = opened
            { s.camera with
              timer := timer, align := .verify, previous := none, goodRun := 0, erroredRun := 0, candidate := none } k ∧
          t.rw = (((s.raise .cameraErrored f.number.toNat).post (.camera .search)).post (.camera .verify)).rw ∧
          Within [.camera, .rw] s t

/-- A LINE (R65, R66, R69, R75, R76, R77). Before the receiver starts it is not received; with no frame open it is heard and
discarded; behind packets that wait it waits (R79, log 25). In an open frame, a repeat or a number above 759 clears the in-order
flag. Of a line at or above the expected line the missing lines before it are concealed first: the row of each is written as the
row above the gap, or as black, counts as concealed, and adds its luma. A line with the right CRC and length is then cropped,
mirrored and written to its row of the writing buffer, or, off the crop rows, only counted; a bad line is concealed like a
missing one. That the row above is taken from an on-chip copy, not from DRAM, is the model's reading (log 36), and that a row is
written in ascending pieces is its choice (log 43). -/
def Obligations.LineIsTakenOrConcealed : Prop :=
  ∀ (s : State) (n : BitVec 16) (rest : List Byte),
    (s.camera.running = false → exec (.line n rest) s = .next s) ∧
    (s.camera.running = true → s.camera.deferred = [] → s.camera.frame = none → exec (.line n rest) s = .next (s.heard [])) ∧
    (s.camera.running = true → s.camera.deferred ≠ [] →
      exec (.line n rest) s = .next (s.heard [.line n.toNat rest])) ∧
    ∀ f : OpenFrame, s.camera.running = true → s.camera.deferred = [] → s.camera.align = .verify ∨ s.camera.align = .locked →
      s.camera.frame = some f →
      let cfg := s.camera.config
      let timed := { s.camera with timer := some (later s.time 20000) }
      let payload := rest.take 2688
      let right := rest.length = 2690 ∧
        crc16 (bytesOf 2 n.toNat ++ payload) = BitVec.ofNat 16 (256 * byteAt rest 2688 + byteAt rest 2689)
      let inCrop := cfg.cropRow ≤ n.toNat ∧ n.toNat < cfg.cropRow + 720
      let row := n.toNat - cfg.cropRow
      let g := f.concealedTo cfg n.toNat
      let gap := s.concealing f n.toNat
      (n.toNat < f.expected ∨ 759 < n.toNat →
        exec (.line n rest) s = .next { s with camera := { timed with frame := some { f with inOrder := false } } }) ∧
      (f.expected ≤ n.toNat → n.toNat ≤ 759 → right → inCrop → cfg.cropCol ≤ 64 → ∃ out, out.length = 2560 ∧
        (∀ i, i < 2560 → out.getD i 0 =
          if cfg.mirror then
            payload.getD (2 * cfg.cropCol + 4 * (639 - i / 4) +
              (if i % 4 = 0 then 2 else if i % 4 = 2 then 0 else i % 4)) 0
          else payload.getD (2 * cfg.cropCol + i) 0) ∧
        exec (.line n rest) s = .next
          { s with
            camera :=
              { timed with
                queue := s.camera.queue ++ (gap ++ s.rowWrites row out)
                frame := some
                  { g with
                    expected := n.toNat + 1, rowAbove := some out, lumaSum := g.lumaSum + rowLuma row out } } }) ∧
      (f.expected ≤ n.toNat → n.toNat ≤ 759 → right → ¬ inCrop →
        exec (.line n rest) s = .next
          { s with
            camera :=
              { timed with queue := s.camera.queue ++ gap, frame := some { g with expected := n.toNat + 1 } } }) ∧
      (f.expected ≤ n.toNat → n.toNat ≤ 759 → ¬ right →
        exec (.line n rest) s = .next
          { s with
            camera :=
              { timed with
                queue := s.camera.queue ++ s.concealing f (n.toNat + 1)
                frame := some (f.concealedTo cfg (n.toNat + 1)) } })

/-- FRAME_END (R70, R72, R73, R76, R79). Before the receiver starts it is not received; with no frame open it is heard and
discarded; behind packets that wait it waits (log 25). With a frame open the lines still missing are concealed first, each row of
theirs written as the row above, or as black, with its luma. Then a usable frame (right number, count 760, no number jump, at most
16 concealed) in LOCKED waits for its capture to complete; a second good frame in VERIFY gives LOCKED with the fresh-lock flag; an
errored frame frees its buffer, raises CAMERA_ERRORED and, as the fourth in LOCKED, gives SEARCH (rows: logs 36, 43).
That the writes of a frame whose buffer is freed stay queued is the model's choice (log 55). -/
def Obligations.FrameEndClassifiesFrame : Prop :=
  ∀ (s : State) (number : Byte) (count : BitVec 16),
    (s.camera.running = false → exec (.frameEnd number count) s = .next s) ∧
    (s.camera.running = true → s.camera.deferred = [] → s.camera.frame = none →
      exec (.frameEnd number count) s = .next (s.heard [])) ∧
    (s.camera.running = true → s.camera.deferred ≠ [] →
      exec (.frameEnd number count) s = .next (s.heard [.frameEnd number count.toNat])) ∧
    ∀ f : OpenFrame, s.camera.running = true → s.camera.deferred = [] → s.camera.frame = some f →
      let g := f.concealedTo s.camera.config 760
      let closed :=
        { s.camera with
          timer := some (later s.time 20000), frame := none, queue := s.camera.queue ++ s.concealing f 760 }
      let freed := { closed with writing := none }
      let usable := number = f.number ∧ count = 760 ∧ f.jumped = false ∧ g.concealed ≤ 16
      let good := usable ∧ g.concealed = 0 ∧ f.inOrder = true
      let errored := fun c : Camera => ({ s with camera := c } : State).raise .cameraErrored f.number.toNat
      (s.camera.align = .locked → usable →
        exec (.frameEnd number count) s = .next
          { s with camera := { closed with erroredRun := 0, completing := some g.lumaSum } }) ∧
      (s.camera.align = .verify → good → s.camera.goodRun = 0 →
        exec (.frameEnd number count) s = .next { s with camera := { freed with goodRun := 1 } }) ∧
      (s.camera.align = .verify → good → s.camera.goodRun = 1 →
        exec (.frameEnd number count) s = .next
          (({ s with
              camera := { freed with goodRun := 2, erroredRun := 0, freshLock := true, align := .locked } } :
            State).post (.camera .locked))) ∧
      (s.camera.align = .verify → usable → ¬ good →
        exec (.frameEnd number count) s = .next { s with camera := { freed with goodRun := 0 } }) ∧
      (s.camera.align = .verify → ¬ usable →
        exec (.frameEnd number count) s = .next (errored { freed with goodRun := 0 })) ∧
      (s.camera.align = .locked → ¬ usable → s.camera.erroredRun < 3 →
        exec (.frameEnd number count) s = .next
          (errored { freed with erroredRun := s.camera.erroredRun + 1, candidate := none })) ∧
      (s.camera.align = .locked → ¬ usable → 3 ≤ s.camera.erroredRun →
        exec (.frameEnd number count) s = .next
          ((errored
            { freed with align := .search, previous := none, goodRun := 0, erroredRun := 0, candidate := none }).post
              (.camera .search)))

/-- The signal timer and other packets (R65, R67, R190): a packet of another kind restarts the timer, and in NO_SIGNAL gives
SEARCH with its report and no direction candidate (R86); 20 ms without a packet end an open frame as errored and give NO_SIGNAL
with its report, the writes of its rows that still wait staying queued (log 55: the model's choice; an expiry before its time has
no effect, log 19). Bytes of one of the three kinds cannot arrive as another packet (R190; that the model stops there is its choice, log 34). -/
def Obligations.SignalTimerWatchesPackets : Prop :=
  (∀ (s : State) (bytes : List Byte), s.camera.running = true → s.camera.deferred = [] → isOtherPacket bytes = true →
    let timed := { s.camera with timer := some (later s.time 20000) }
    (s.camera.align ≠ .noSignal → exec (.otherCameraPacket bytes) s = .next { s with camera := timed }) ∧
    (s.camera.align = .noSignal → exec (.otherCameraPacket bytes) s = .next
      (({ s with camera := { timed with align := .search, candidate := none } } : State).post (.camera .search)))) ∧
  (∀ (s : State) (bytes : List Byte), isOtherPacket bytes = false →
    exec (.otherCameraPacket bytes) s = .fault .cannotArrive) ∧
  ∀ (s : State) (deadline : Time), s.camera.running = true → s.camera.align ≠ .noSignal →
    s.camera.timer = some deadline →
    let silent :=
      { s.camera with
        align := .noSignal, timer := none, frame := none, previous := none, goodRun := 0, erroredRun := 0
        candidate := none }
    ((s.time - deadline).toInt < 0 → exec .signalTimerExpiry s = .next s) ∧
    (0 ≤ (s.time - deadline).toInt → s.camera.frame = none →
      exec .signalTimerExpiry s = .next (({ s with camera := silent } : State).post (.camera .noSignal))) ∧
    ∀ f, 0 ≤ (s.time - deadline).toInt → s.camera.frame = some f → Completes .signalTimerExpiry s fun t =>
      t.camera = { silent with writing := none } ∧
      t.rw = ((s.raise .cameraErrored f.number.toNat).post (.camera .noSignal)).rw ∧ Within [.camera, .rw] s t

/-- A capture completes (R79, R83 to R86): its buffer becomes newest, and level control sets the gain from the mean of the frame:
in fast mode after a fresh lock or far from the target, by one step on the second frame in one direction, else held. With writes
of the capture still waiting nothing happens (log 1). A FRAME_START that waited for the capture is taken right after it: it opens
its frame, in SEARCH and NO_SIGNAL on the way to VERIFY (R67, log 25). -/
def Obligations.CaptureCompletesAndSetsGain : Prop :=
  ∀ (s : State) (lumaSum : Nat), s.camera.completing = some lumaSum →
    (s.camera.queue ≠ [] → exec .captureComplete s = .next s) ∧
    (s.camera.queue = [] → s.camera.deferred = [] → 16 ≤ s.camera.gain → s.camera.gain ≤ 63 →
      let mean := lumaSum / 230400
      let cfg := s.camera.config
      let aim := (cfg.tLo + cfg.tHi) / 2
      let predicted := min 235 (max 16 (16 + (((mean : Int) - 16) * s.camera.gain + 8) / 16))
      let fast := s.camera.freshLock = true ∨ predicted < cfg.dLo ∨ (cfg.dHi : Int) < predicted
      let after := fun (gain : Nat) (candidate : Option Direction) =>
        { s with
          camera :=
            { s.camera with
              newest := s.camera.writing.map fun k => (k, s.time), writing := none, completing := none
              gain := gain, candidate := candidate, freshLock := false } }
      (fast → mean ≤ 16 → exec .captureComplete s = .next (after 63 none)) ∧
      (fast → 16 < mean → exec .captureComplete s = .next
        (after (max 16 (min 63 ((32 * (aim - 16) + (mean - 16)) / (2 * (mean - 16))))) none)) ∧
      (¬ fast → predicted < cfg.tLo → exec .captureComplete s = .next
        (if s.camera.candidate = some .up then after (min 63 (s.camera.gain + 1)) none
          else after s.camera.gain (some .up))) ∧
      (¬ fast → (cfg.tLo : Int) ≤ predicted → (cfg.tHi : Int) < predicted → exec .captureComplete s = .next
        (if s.camera.candidate = some .down then after (max 16 (s.camera.gain - 1)) none
          else after s.camera.gain (some .down))) ∧
      (¬ fast → (cfg.tLo : Int) ≤ predicted → predicted ≤ cfg.tHi →
        exec .captureComplete s = .next (after s.camera.gain none))) ∧
    ∀ (number : Byte) (u : State) (k : Fin 3), s.camera.queue = [] → s.camera.deferred = [.frameStart number] →
      s.camera.frame = none →
      exec .captureComplete { s with camera := { s.camera with deferred := [] } } = .next u →
      let used := fun j : Fin 3 => u.camera.newest.map Prod.fst = some j ∨ u.camera.displaying = some j
      ¬ used k → (∀ j, j < k → used j) →
      let opened := fun c : Camera =>
        { c with
          writing := some k, previous := some number
          frame := some
            { number := number, expected := 0, concealed := 0, inOrder := true, lumaSum := 0
              jumped := match c.previous with
                | none => false
                | some p => decide (number ≠ p + 1)
              rowAbove := none } }
      (s.camera.align = .verify ∨ s.camera.align = .locked →
        exec .captureComplete s = .next { u with camera := opened u.camera }) ∧
      (s.camera.align = .search → Completes .captureComplete s fun t =>
        t.camera = opened { u.camera with align := .verify, goodRun := 0 } ∧
        t.rw = (u.post (.camera .verify)).rw ∧ Within [.camera, .rw] s t) ∧
      (s.camera.align = .noSignal → Completes .captureComplete s fun t =>
        t.camera = opened
          { u.camera with
            align := .verify, goodRun := 0, timer := some (later s.time 20000), candidate := none } ∧
        t.rw = ((u.post (.camera .search)).post (.camera .verify)).rw ∧ Within [.camera, .rw] s t)

/-! ### Vehicle signals and reverse (chapter 6) -/

/-- A CAN frame that one entry names refreshes its signal (R89 to R92, R94, R101, R115): the record becomes FRESH with the value
and a new deadline, REVERSE through its debounce; STEERING sets the curvature, SPEED above the exit speed ends HOLDOFF and
MANUAL, PARK_DISTANCE has an active pattern choose its band anew (R107). A frame too short, with the invalid marker, or with an
identifier that no entry names has no effect. A frame that several entries name refreshes the signal of each, in table order
(log 50: the model's choice). One
whose data does not fit its length code cannot arrive (that the model stops there is its choice, log 34). -/
def Obligations.CanFrameRefreshesSignal : Prop :=
  (∀ (s : State) (ident : BitVec 11) (dlc : BitVec 4) (data : List Byte), data.length = min dlc.toNat 8 →
    s.vehicle.receiving = false ∨ (∀ e ∈ s.vehicle.table, e.ident ≠ ident.toNat) →
    exec (.canFrame ident dlc data) s = .next s) ∧
  (∀ (s : State) (ident : BitVec 11) (dlc : BitVec 4) (data : List Byte), data.length ≠ min dlc.toNat 8 →
    exec (.canFrame ident dlc data) s = .fault .cannotArrive) ∧
  (∀ (s : State) (ident : BitVec 11) (dlc : BitVec 4) (data : List Byte), data.length = min dlc.toNat 8 →
    s.vehicle.receiving = true → (∀ e ∈ s.vehicle.table, e.width = 1 ∨ e.width = 2) →
    let field := fun e : AcceptEntry => if e.width = 1 then byteAt data e.startByte
      else 256 * byteAt data e.startByte + byteAt data (e.startByte + 1)
    let value := fun e : AcceptEntry =>
      if e.signed = true ∧ (if e.width = 1 then 128 else 32768) ≤ field e then
        (field e : Int) - (if e.width = 1 then 256 else 65536) else (field e : Int)
    exec (.canFrame ident dlc data) s = .next
      ((s.vehicle.table.filter fun e =>
          decide (e.ident = ident.toNat ∧ e.startByte + e.width ≤ data.length ∧ e.marker ≠ some (field e))).foldl
        (fun (u : State) e => u.refresh e (value e)) s)) ∧
  ∀ (s : State) (ident : BitVec 11) (dlc : BitVec 4) (data : List Byte) (before after : List AcceptEntry)
    (e : AcceptEntry), data.length = min dlc.toNat 8 → s.vehicle.receiving = true →
    s.vehicle.table = before ++ e :: after → e.ident = ident.toNat →
    (∀ x ∈ before ++ after, x.ident ≠ ident.toNat) → e.width = 1 ∨ e.width = 2 →
    let field := if e.width = 1 then byteAt data e.startByte
      else 256 * byteAt data e.startByte + byteAt data (e.startByte + 1)
    let v : Int := if e.signed = true ∧ (if e.width = 1 then 128 else 32768) ≤ field then
      (field : Int) - (if e.width = 1 then 256 else 65536) else field
    let fresh := fun value : Int =>
      ({ value := value, state := .fresh, deadline := some (later s.time (1000 * e.limitMs)), staleSince := none } :
        SignalRecord)
    let recorded := fun g : Signal =>
      { s with vehicle := { s.vehicle with records := s.vehicle.records.put g (fresh v) } }
    (data.length < e.startByte + e.width ∨ e.marker = some field → exec (.canFrame ident dlc data) s = .next s) ∧
    (e.startByte + e.width ≤ data.length → e.marker ≠ some field →
      (∀ c, e.signal = .steering → s.guide.config = some c → exec (.canFrame ident dlc data) s = .next
        { recorded .steering with
          guide := { s.guide with kappa := curvature c.curve v, flags := { s.guide.flags with isStatic := false } } }) ∧
      (e.signal = .steering → s.guide.config = none → exec (.canFrame ident dlc data) s = .next (recorded .steering)) ∧
      (e.signal = .speed → s.reverse.running = true → s.reverse.exitSpeed < v →
        s.reverse.state = .holdOff ∨ s.reverse.state = .manual → exec (.canFrame ident dlc data) s = .next
          (({ recorded .speed with
              displays := (s.setStack .front ((s.stack .front).filter fun x => decide (x.owner = .system))).displays
              reverse := { s.reverse with state := .off, timer := none } } : State).post (.reverse .off))) ∧
      (e.signal = .speed → v ≤ s.reverse.exitSpeed ∨ s.reverse.state = .off ∨ s.reverse.state = .engaged →
        exec (.canFrame ident dlc data) s = .next (recorded .speed)) ∧
      (e.signal = .parkDistance → s.park.active = false →
        exec (.canFrame ident dlc data) s = .next (recorded .parkDistance)) ∧
      (e.signal = .parkDistance → s.park.active = true →
        exec (.canFrame ident dlc data) s = .next (recorded .parkDistance).chooseBand) ∧
      (e.signal = .reverse →
        let old := s.vehicle.records.reverse.value
        let said := decide (v ≠ 0)
        let kept := fun (value : Int) (candidate : Option Bool) =>
          ({ s with
            vehicle := { s.vehicle with
              records := s.vehicle.records.put .reverse (fresh value), candidate := candidate
              stalePeriodOver := false } } : State)
        (said = decide (old ≠ 0) → exec (.canFrame ident dlc data) s = .next (kept old none).evaluateReverse) ∧
        (said ≠ decide (old ≠ 0) → s.vehicle.candidate = some said → exec (.canFrame ident dlc data) s = .next
          (kept (if said then 1 else 0) none).evaluateReverse) ∧
        (said ≠ decide (old ≠ 0) → s.vehicle.candidate ≠ some said → exec (.canFrame ident dlc data) s = .next
          (kept old (some said)).evaluateReverse)))

/-- A FRESH record goes STALE at its deadline (R93, R107, R115): SIGNAL_STALE is raised, the value is kept, REVERSE loses its
debounce candidate, STEERING straightens the lines, PARK_DISTANCE silences the pattern; a REVERSE record holding ASSERTED that
has been STALE for 2000 ms is taken as released from then on (R95), which the model keeps as a flag of its own (log 32). That the
STALE record holds no deadline is its choice (log 38), and so is that an earlier command has no effect (log 19). -/
def Obligations.SignalGoesStale : Prop :=
  (∀ (s : State) (g : Signal) (deadline : Time), (s.vehicle.records.get g).state = .fresh →
    (s.vehicle.records.get g).deadline = some deadline →
    ((s.time - deadline).toInt < 0 → exec (.freshnessExpiry g) s = .next s) ∧
    (0 ≤ (s.time - deadline).toInt → Completes (.freshnessExpiry g) s fun t =>
      FaultRaised .signalStale (signalNumber g) s t ∧
      t.vehicle =
        { s.vehicle with
          records := s.vehicle.records.put g
            { value := (s.vehicle.records.get g).value, state := .stale, deadline := none, staleSince := some deadline }
          candidate := if g = .reverse then none else s.vehicle.candidate
          stalePeriodOver := if g = .reverse then false else s.vehicle.stalePeriodOver } ∧
      (t.guide = if g = .steering ∧ s.guide.config ≠ none then
          { s.guide with kappa := 0, flags := { s.guide.flags with isStatic := true } } else s.guide) ∧
      (t.park = if g = .parkDistance ∧ s.park.active = true then { s.park with band := none, nextOffer := none }
        else s.park) ∧
      Within [.vehicle, .guide, .park, .rw] s t)) ∧
  ∀ (s : State) (since : Time), s.vehicle.records.reverse.state = .stale → s.vehicle.records.reverse.value ≠ 0 →
    s.vehicle.records.reverse.staleSince = some since → s.vehicle.stalePeriodOver = false →
    ((s.time - (since + 2000000)).toInt < 0 → exec .stalePeriodEnd s = .next s) ∧
    (0 ≤ (s.time - (since + 2000000)).toInt →
      exec .stalePeriodEnd s = .next
        (({ s with vehicle := { s.vehicle with stalePeriodOver := true } } : State).evaluateReverse))

/-- The reverse pin (R96): each change of level records its time; a level kept for 20 ms that is not the accepted one becomes
accepted, and asserted reverse is evaluated; asserted reverse follows the reverse source (R95, R97). The end of the hold-off
(R100): the CAMERA view leaves the FRONT stack wherever it stands, the controller is OFF, and REVERSE OFF is posted; before its
time, and outside HOLDOFF, nothing happens (log 19). -/
def Obligations.ReversePinAndHoldOffTimers : Prop :=
  ((∀ (s : State) (high : Bool), high ≠ s.vehicle.pinLevel → exec (.reversePinChange high) s = .next
     { s with vehicle := { s.vehicle with pinLevel := high, pinChanged := s.time } }) ∧
   (∀ s : State, s.vehicle.pinLevel ≠ s.vehicle.pinAccepted →
     (elapsed s.time s.vehicle.pinChanged < 20000 → exec .pinDebounceExpiry s = .next s) ∧
     (20000 ≤ elapsed s.time s.vehicle.pinChanged → exec .pinDebounceExpiry s = .next
       (({ s with vehicle := { s.vehicle with pinAccepted := s.vehicle.pinLevel } } : State).evaluateReverse))) ∧
   ∀ s : State,
     let r := s.vehicle.records.reverse
     let bus := r.value ≠ 0 ∧ (r.state = .fresh ∨ (r.state = .stale ∧ s.vehicle.stalePeriodOver = false))
     (s.reverse.source = .pin → (s.assertedReverse = true ↔ s.vehicle.pinAccepted = true)) ∧
     (s.reverse.source = .bus → (s.assertedReverse = true ↔ bus)) ∧
     (s.reverse.source = .either → (s.assertedReverse = true ↔ s.vehicle.pinAccepted = true ∨ bus))) ∧
  ∀ (s : State) (deadline : Time), s.reverse.timer = some deadline →
    ((s.time - deadline).toInt < 0 ∨ s.reverse.state ≠ .holdOff → exec .holdOffExpiry s = .next s) ∧
    ∀ below cam above, 0 ≤ (s.time - deadline).toInt → s.reverse.state = .holdOff →
      s.stack .front = below ++ cam :: above → cam.owner = .camera → (∀ v ∈ below ++ above, v.owner = .system) →
      exec .holdOffExpiry s = .next
        (({ s.setStack .front (below ++ above) with reverse := { s.reverse with state := .off, timer := none } }).post
          (.reverse .off))

/-- What the reverse controller does with a change of asserted reverse (R97 to R100, R104, R109): OFF to ENGAGED with a forced
push and a REVERSE_TONE, MANUAL to ENGAGED with its view promoted and pinned and a REVERSE_TONE, HOLDOFF to ENGAGED with neither,
ENGAGED to HOLDOFF with its timer, and on to OFF with a hold-off of 0. Each change posts REVERSE: on entering ENGAGED from OFF or
MANUAL before the tone is offered and the pattern started, from HOLDOFF after the pattern has been started. The pattern starts
where the table has a PARK_DISTANCE entry: active, with no band, and its band then chosen, none where the distance is not FRESH
(R107, R109). A REVERSE_TONE is dropped where one is pending on FRONT; it plays in an IDLE player where its clip is resident, or as
the substitute tone with CHIME_UNAVAILABLE where the table lacks its clip (R171, R173). -/
def Obligations.ReverseControllerFollowsAssertion : Prop :=
  ∀ s : State,
    let cam : View :=
      { owner := .camera, tag := 0, video := false, menu := false, background := 0xFF000000#32, pinned := true }
    let t := s.evaluateReverse
    let engaged := { s.reverse with state := .engaged }
    let started := fun u : State =>
      if ∃ e ∈ s.vehicle.table, e.signal = .parkDistance then
        ({ u with park := { u.park with active := true, band := none, nextOffer := none } } : State).chooseBand
      else u
    let told := fun (u : State) (stack : List View) =>
      ({ u.setStack .front stack with reverse := engaged } : State).post (.reverse .engaged)
    (s.reverse.running = false ∨ (s.assertedReverse = true ↔ s.reverse.state = .engaged) → t = s) ∧
    (s.reverse.running = true → s.assertedReverse = true → s.reverse.state = .off →
      (∀ v ∈ s.stack .front, v.owner = .system) →
      t.reverse = engaged ∧ Within [.displays, .reverse, .park, .audio, .store, .rw] s t ∧
      ((s.stack .front).length < 4 → t.displays = (s.setStack .front (s.stack .front ++ [cam])).displays ∧
        t = started (told s (s.stack .front ++ [cam])).offerTone) ∧
      (∀ bottom rest, s.stack .front = bottom :: rest → 3 ≤ rest.length →
        t.displays = (s.setStack .front (rest ++ [cam])).displays ∧
        t = started (told (s.raise .viewOverflow 0) (rest ++ [cam])).offerTone ∧
        t.rw.fault .viewOverflow = (s.rw.fault .viewOverflow).occur 0) ∧
      (t.park.active = true ↔ s.park.active = true ∨ ∃ e ∈ s.vehicle.table, e.signal = .parkDistance) ∧
      ∀ clip, s.ChimesSettled → s.audio.chimes.front.player = .idle → s.audio.clips[0]? = some clip →
        clip.resident = true → (∀ e ∈ s.vehicle.table, e.signal ≠ .parkDistance) →
        t.audio = { s.audio with
          chimes := { s.audio.chimes with
            front :=
              { queue := [], arrivals := s.audio.chimes.front.arrivals + 1
                player := .playing
                  { clip := 0, priority := 6, owner := .part, arrival := s.audio.chimes.front.arrivals } .cache 0 } } }) ∧
    (∀ below old above, s.reverse.running = true → s.assertedReverse = true → s.reverse.state = .manual →
      s.stack .front = below ++ old :: above → old.owner = .camera → (∀ v ∈ below ++ above, v.owner = .system) →
      t.reverse = engaged ∧
      t.displays = (s.setStack .front (below ++ above ++ [{ old with pinned := true }])).displays ∧
      t = started (told s (below ++ above ++ [{ old with pinned := true }])).offerTone ∧
      Within [.displays, .reverse, .park, .audio, .store, .rw] s t) ∧
    (s.reverse.running = true → s.assertedReverse = true → s.reverse.state = .holdOff →
      t.reverse = { engaged with timer := none } ∧ Within [.reverse, .park, .audio, .store, .rw] s t ∧
      t = (started { s with reverse := { engaged with timer := none } }).post (.reverse .engaged) ∧
      ((∀ e ∈ s.vehicle.table, e.signal ≠ .parkDistance) →
        t = ({ s with reverse := { engaged with timer := none } } : State).post (.reverse .engaged))) ∧
    (s.vehicle.records.parkDistance.state ≠ .fresh →
      s.chooseBand = { s with park := { s.park with band := none, nextOffer := none } }) ∧
    ((∃ c ∈ s.audio.chimes.front.queue, c.owner = .part ∧ c.clip = 0) → s.offerTone = s) ∧
    (s.ChimesSettled → s.audio.chimes.front.player = .idle →
      let toned := fun (u : State) (src : ChimeSource) =>
        { u with
          audio := { u.audio with
            chimes := { u.audio.chimes with
              front :=
                { queue := [], arrivals := s.audio.chimes.front.arrivals + 1
                  player := .playing
                    { clip := 0, priority := 6, owner := .part, arrival := s.audio.chimes.front.arrivals } src 0 } } } }
      (∀ clip, s.audio.clips[0]? = some clip → clip.resident = true → s.offerTone = toned s .cache) ∧
      (s.audio.clips = [] → s.offerTone = toned (s.raise .chimeUnavailable 0) (.tone 24000 64))) ∧
    (s.reverse.running = true → s.assertedReverse = false → s.reverse.state = .engaged →
      let holding :=
        (({ s with
          park := { s.park with active := false, band := none, nextOffer := none }
          reverse := { s.reverse with
            state := .holdOff, timer := some (later s.time (1000 * s.reverse.holdOffMs)) } } : State).post
              (.reverse .holdOff))
      (0 < s.reverse.holdOffMs → t = holding) ∧
      (∀ below, s.reverse.holdOffMs = 0 → s.stack .front = below ++ [cam] → (∀ v ∈ below, v.owner = .system) →
        t = ({ holding.setStack .front below with reverse := { s.reverse with state := .off, timer := none } }).post
          (.reverse .off)))

/-- The park pattern (R107, R108): the band is the first whose limit is at least the FRESH distance. Entering a band from none, the
CONTINUOUS band from any (from another CONTINUOUS band too: log 31, the model's choice), or an interval band from CONTINUOUS or too late for its next offer, offers a beep at once; an interval
band then has its last offer now and its next one interval later; another interval band in time keeps the last offer and offers
nothing. At each offer time a beep is offered on FRONT and the next time is one interval on (a command before it has no effect,
log 19); in the CONTINUOUS band a beep is offered whenever one ends. A beep offered plays in an IDLE player where its clip is
resident, and is dropped where one is pending on FRONT. -/
def Obligations.ParkPatternOffersBeeps : Prop :=
  (∀ (s : State) (ms : Nat) (next : Time) (i : Nat) (b : Band), s.park.active = true → s.park.band = some i →
    s.park.table[i]? = some b → b.interval = some ms → s.park.nextOffer = some next →
    let moved := { s.park with lastOffer := some next, nextOffer := some (later next (1000 * ms)) }
    ((s.time - next).toInt < 0 → exec .parkOfferTime s = .next s) ∧
    (0 ≤ (s.time - next).toInt →
      ((∃ c ∈ s.audio.chimes.front.queue, c.owner = .part ∧ c.clip = 1) →
        exec .parkOfferTime s = .next { s with park := moved }) ∧
      ∀ clip, s.ChimesSettled → s.audio.chimes.front.player = .idle → s.audio.clips[1]? = some clip →
        clip.resident = true →
        exec .parkOfferTime s = .next
          { s with
            park := moved
            audio := { s.audio with
              chimes := { s.audio.chimes with
                front :=
                  { queue := [], arrivals := s.audio.chimes.front.arrivals + 1
                    player := .playing
                      { clip := 1, priority := 5, owner := .part, arrival := s.audio.chimes.front.arrivals }
                      .cache 0 } } } })) ∧
  (∀ s : State, s.park.active = true → s.vehicle.records.parkDistance.state = .fresh →
    let t := s.chooseBand
    let band := s.park.table.findIdx? fun b => decide (s.vehicle.records.parkDistance.value ≤ b.limit)
    let offered := fun p : Park =>
      t.park = p ∧ Within [.park, .audio, .store, .rw] s t ∧
      ((∃ c ∈ s.audio.chimes.front.queue, c.owner = .part ∧ c.clip = 1) → t = { s with park := p }) ∧
      ∀ clip, s.ChimesSettled → s.audio.chimes.front.player = .idle → s.audio.clips[1]? = some clip →
        clip.resident = true →
        t =
          { s with
            park := p
            audio := { s.audio with
              chimes := { s.audio.chimes with
                front :=
                  { queue := [], arrivals := s.audio.chimes.front.arrivals + 1
                    player := .playing
                      { clip := 1, priority := 5, owner := .part, arrival := s.audio.chimes.front.arrivals }
                      .cache 0 } } } }
    (band = none → t = { s with park := { s.park with band := none, nextOffer := none } }) ∧
    (s.park.band = band → band ≠ none → t = s) ∧
    ∀ i b, band = some i → s.park.table[i]? = some b → s.park.band ≠ band →
      (b.interval = none → offered { s.park with band := some i, nextOffer := none }) ∧
      ∀ ms, b.interval = some ms →
        let entered :=
          { s.park with band := some i, lastOffer := some s.time, nextOffer := some (later s.time (1000 * ms)) }
        (s.park.band = none ∨ (∃ j c, s.park.band = some j ∧ s.park.table[j]? = some c ∧ c.interval = none) →
          offered entered) ∧
        ∀ j c old last, s.park.band = some j → s.park.table[j]? = some c → c.interval = some old →
          s.park.lastOffer = some last →
          ((s.time - later last (1000 * ms)).toInt ≤ 0 →
            t = { s with park := { s.park with band := some i, nextOffer := some (later last (1000 * ms)) } }) ∧
          (0 < (s.time - later last (1000 * ms)).toInt → offered entered)) ∧
  ∀ (s : State) (i : Nat) (b : Band) (c : Chime) (src : ChimeSource) (pos : Nat) (clip : Clip), s.park.active = true →
    s.park.band = some i → s.park.table[i]? = some b → b.interval = none → s.ChimesSettled →
    s.audio.chimes.front.player = .playing c src pos → chimeSamples s.audio.clips c src ≤ pos → c.owner = .part →
    c.clip = 1 → s.audio.chimes.front.queue = [] → s.audio.buffer.waiters = [] → s.audio.clips[1]? = some clip →
    clip.resident = true →
    exec (.chimeEnd .front) s = .next
      { s with
        audio := { s.audio with
          chimes := { s.audio.chimes with
            front :=
              { queue := [], arrivals := s.audio.chimes.front.arrivals + 1
                player := .playing
                  { clip := 1, priority := 5, owner := .part, arrival := s.audio.chimes.front.arrivals } .cache 0 } }
          buffer := { s.audio.buffer with
            user := if s.audio.buffer.user = some .front then none else s.audio.buffer.user } } }

/-! ### Guide lines (chapter 7) -/

/-- Rounding and curvature (R113, R114): rnd gives the nearest integer with halves away from zero; the curvature is clamped to
the first and the last breakpoint, follows the segment that a value lies in, and lies between that segment's ends. Pixels
(R87, R159, R160): a blend with effective alpha 255 gives the layer pixel and with 0 the pixel beneath, and else rounds half up;
the conversion of luma and chroma is the three floors, clamped to 0 to 255; the gain scales a luma about 16, rounded half up
and clamped to 16 to 235, so gain 16 leaves a luma of 16 to 235 as it is. -/
def Obligations.CurvatureAndPixelsAreExact : Prop :=
  ((∀ p q : Int, q ≠ 0 → 2 * |q * rndDiv p q - p| ≤ |q| ∧ (2 * |q * rndDiv p q - p| = |q| → |p| < |q * rndDiv p q|)) ∧
   ∀ (table : List (Int × Int)) (a : Int), (table.map Prod.fst).Pairwise (· < ·) →
     (∀ p, table.head? = some p → a ≤ p.1 → curvature table a = p.2) ∧
     (∀ p, table.getLast? = some p → p.1 ≤ a → curvature table a = p.2) ∧
     ∀ before p q after, table = before ++ p :: q :: after → p.1 ≤ a → a < q.1 →
       curvature table a = p.2 + rndDiv ((q.2 - p.2) * (a - p.1)) (q.1 - p.1) ∧
       min p.2 q.2 ≤ curvature table a ∧ curvature table a ≤ max p.2 q.2) ∧
  (∀ (p : LayerPixel) (ga : Nat) (bg : Rgb), p.alpha ≤ 255 → ga ≤ 255 →
    let a := (p.alpha * ga + 127) / 255
    (a = 255 → blend p ga bg = p.rgb) ∧ (a = 0 → blend p ga bg = bg) ∧
    (blend p ga bg).r = (a * p.rgb.r + (255 - a) * bg.r + 127) / 255 ∧
    (blend p ga bg).g = (a * p.rgb.g + (255 - a) * bg.g + 127) / 255 ∧
    (blend p ga bg).b = (a * p.rgb.b + (255 - a) * bg.b + 127) / 255 ∧
    2 * (a * 255) ≤ 2 * (p.alpha * ga) + 255 ∧ 2 * (p.alpha * ga) ≤ 2 * (a * 255) + 255) ∧
  (∀ y u v : Int,
    let c := yuvRgb y u v
    (c.r : Int) = min 255 (max 0 ((298 * (y - 16) + 409 * (v - 128) + 128) / 256)) ∧
    (c.g : Int) = min 255 (max 0 ((298 * (y - 16) - 100 * (u - 128) - 208 * (v - 128) + 128) / 256)) ∧
    (c.b : Int) = min 255 (max 0 ((298 * (y - 16) + 516 * (u - 128) + 128) / 256))) ∧
  (∀ y g : Int, gainedLuma y g = min 235 (max 16 (16 + ((y - 16) * g + 8) / 16))) ∧
  ∀ y : Int, 16 ≤ y → y ≤ 235 → gainedLuma y 16 = y

/-- A build completes (R117, R118): the pending selector names its table, the three result flags stand as it left them, and
GUIDE_CLIPPED is raised where it set BEHIND or OFFSCREEN, and only there. The lateral offset and the projection are the rounded
quotients, clamped (R119, R120). In the table of any build every span is one that a segment of an edge or a crossbar gives
(R121 to R124), and, where none was dropped, every such span is in it; BEHIND and OFFSCREEN say whether a point was invalid or
clamped; every span lies on the screen, no row holds more than 6, and each row's spans stand in ascending order of start and
then of end (R125). Of the spans offered to a row, each as often as it is offered, the row keeps all, or the six that rank highest
by band, start and end; SPANS_DROPPED says whether some row was offered more than six. -/
def Obligations.GuideBuildIsBoundedAndHandedOver : Prop :=
  (∀ (s : State) (n : TableName) (kappa : Int) (c : GuideConfig), s.guide.building = some (n, kappa) →
     s.guide.config = some c →
     let r := c.build kappa
     let flags := { s.guide.flags with behind := r.behind, offscreen := r.offscreen, spansDropped := r.dropped }
     let built :=
       { s with
         guide := { s.guide with
           tableZero := if n = .zero then r.spans else s.guide.tableZero
           tableOne := if n = .one then r.spans else s.guide.tableOne
           flags := flags, building := none, ready := some n } }
     (r.behind = false → r.offscreen = false → exec .guideBuildComplete s = .next built) ∧
     (r.behind = true ∨ r.offscreen = true →
       exec .guideBuildComplete s = .next (built.raise .guideClipped
         ((if flags.isStatic then 1 else 0) + (if flags.unavailable then 2 else 0) + (if flags.behind then 4 else 0) +
           (if flags.offscreen then 8 else 0) + (if flags.spansDropped then 16 else 0))))) ∧
  (∀ kappa d overhang : Int,
    let x := rndDiv (kappa * d * (d + 2 * overhang)) (2 ^ 25)
    (-8000 ≤ x → x ≤ 8000 → pathOffset kappa d overhang = x) ∧ (x < -8000 → pathOffset kappa d overhang = -8000) ∧
      (8000 < x → pathOffset kappa d overhang = 8000)) ∧
  (∀ (m : Homography) (x y : Int),
    let w := m.h31 * x + m.h32 * y + m.h33
    let u := rndDiv (m.h11 * x + m.h12 * y + m.h13) w
    let v := rndDiv (m.h21 * x + m.h22 * y + m.h23) w
    (w ≤ 0 → (project m x y).point = none ∧ (project m x y).clamped = false) ∧
    (0 < w →
      (project m x y).point = some { u := min 8191 (max (-4096) u), v := min 8191 (max (-4096) v) } ∧
      ((project m x y).clamped = true ↔ u < -4096 ∨ 8191 < u ∨ v < -4096 ∨ 8191 < v))) ∧
  ∀ (c : GuideConfig) (kappa : Int),
    let ground := fun side d : Int => project c.homography (side * c.halfWidth + pathOffset kappa d c.overhang) d
    let points := fun p : Projected → Prop =>
      ∃ d ∈ 0 :: c.marks, p (ground (-1) d) ∨ p (ground 1 d)
    ((c.build kappa).behind = true ↔ points fun p => p.point = none) ∧
    ((c.build kappa).offscreen = true ↔ points fun p => p.clamped = true) ∧
    (0 ≤ c.lineHalf →
      (∀ x ∈ (c.build kappa).spans, c.segmentDraws kappa x ∨ c.crossbarDraws kappa x) ∧
      ((c.build kappa).dropped = false → ∀ x, c.segmentDraws kappa x ∨ c.crossbarDraws kappa x →
        x ∈ (c.build kappa).spans)) ∧
    (∀ x ∈ (c.build kappa).spans, x.row ≤ 719 ∧ x.startCol ≤ x.endCol ∧ x.endCol ≤ 1279) ∧
    (∀ row, ((c.build kappa).spans.countP fun x => x.row == row) ≤ 6) ∧
    (0 ≤ c.lineHalf →
      let offered := fun row : Nat => (c.offered kappa).filter fun x => x.row == row
      ((c.build kappa).dropped = true ↔ ∃ row, 6 < (offered row).length) ∧
      ∀ row,
        let kept := (c.build kappa).spans.filter fun x => x.row == row
        kept.length = min 6 (offered row).length ∧
          ∃ lost, (kept ++ lost).Perm (offered row) ∧ ∀ x ∈ kept, ∀ y ∈ lost, x.ranksOver y) ∧
    (c.build kappa).spans.Pairwise fun x y => x.row < y.row ∨
      (x.row = y.row ∧ (x.startCol < y.startCol ∨ (x.startCol = y.startCol ∧ x.endCol ≤ y.endCol)))

/-! ### Views, layers and presentation (chapters 8 and 9) -/

/-- What a frame boundary does to a system layer (R139, R142, R144, R151 to R154): a staged record applies where the change hold is
clear, and on a source change releases the whole queue, while without one queue and current frame stay; then the last entry of
the due prefix becomes current, what it replaces and drops is counted; with nothing due the current frame stays and its shown
count rises; a STREAM layer with an empty queue for 500,000 µs raises LAYER_STARVED once, the watch beginning anew at a
selection and where a record enables the layer or changes its cadence to STREAM. The releases go in order, the former current
frame with its shown count and then the dropped entries with 0, each with its RELEASED report and its region's hold count
lowered: those of the records that apply, then those of each selection with LAYER_STARVED in its place, and on FRONT a CAMERA_LOST
and the full rewrite behind them. That both layers apply before either selects, that CAMERA_LOST comes after their reports, and
that video comes before menu, is the model's choice (logs 22, 40). -/
def Obligations.BoundarySelectsAndReleasesFrames : Prop :=
  (∀ (s : State) (d : Display), s.startup.state ≠ .loading → 0 ≤ (s.time - (s.displays.get d).nextBoundary).toInt →
     Completes (.displayFrameBoundary d) s fun t =>
       (∀ e, e ≠ d → t.displays.get e = s.displays.get e) ∧ (t.displays.get d).hold = (s.displays.get d).hold ∧
       t.stack d = s.stack d ∧
       ∀ l, l = .video ∨ l = .menu →
         let v := s.layer d l
         let after := t.layer d l
         let goneShown : Option (QueueEntry × Nat) → Nat := fun current => match current with
           | some (_, n) => if 0 < n then 1 else 0
           | none => 0
         let goneUnshown : Option (QueueEntry × Nat) → Nat := fun current => match current with
           | some (_, n) => if 0 < n then 0 else 1
           | none => 0
         let selects := fun (setting : LayerSetting) (queue : List QueueEntry) (current : Option (QueueEntry × Nat))
             (last : Time) (armed : Bool) (shown dropped : BitVec 32) =>
           let run := queue.takeWhile fun e => decide ((e.time - s.time).toInt ≤ 8333)
           let starved := setting.enable = true ∧ setting.cadence = .stream ∧ armed = true ∧ queue = [] ∧
             500000 ≤ (s.time - last).toInt
           (run = [] → after.queue = queue ∧ after.current = current.map (fun c => (c.1, min (c.2 + 1) 4294967295)) ∧
             after.releasedShown = shown ∧ after.dropped = dropped ∧ after.lastSelection = last ∧
             (¬ starved → after.armed = armed) ∧
             (starved → after.armed = false ∧ ((∀ k, k ≠ l → k ≠ .camera → (s.layer d k).armed = false) →
               t.rw.fault .layerStarved =
                 (s.rw.fault .layerStarved).occur (displayNumber d + 256 * layerNumber l)))) ∧
           ∀ earlier chosen, run = earlier ++ [chosen] → after.queue = queue.drop run.length ∧
             after.current = some (chosen, 1) ∧ after.lastSelection = s.time ∧ after.armed = true ∧
             after.releasedShown = shown + BitVec.ofNat 32 (goneShown current) ∧
             after.dropped = dropped + BitVec.ofNat 32 (goneUnshown current + earlier.length)
         (v.staged = none ∨ (s.displays.get d).hold = true →
           after.applied = v.applied ∧ after.staged = v.staged ∧
           selects v.applied v.queue v.current v.lastSelection v.armed v.releasedShown v.dropped) ∧
         ∀ new, v.staged = some new → (s.displays.get d).hold = false → after.applied = new ∧ after.staged = none ∧
           let anew := (v.applied.enable = false ∧ new.enable = true) ∨
             (v.applied.cadence ≠ .stream ∧ new.cadence = .stream)
           let source := new.enable ≠ v.applied.enable ∨ new.format ≠ v.applied.format ∨
             new.sourceWidth ≠ v.applied.sourceWidth ∨ new.sourceHeight ≠ v.applied.sourceHeight ∨
             new.stride ≠ v.applied.stride
           ∀ last armed, (anew → last = s.time ∧ armed = true) →
             (¬ anew → last = v.lastSelection ∧ armed = v.armed) →
             (¬ source → selects new v.queue v.current last armed v.releasedShown v.dropped) ∧
             (source → selects new [] none last armed
               (v.releasedShown + BitVec.ofNat 32 (goneShown v.current))
               (v.dropped + BitVec.ofNat 32 (goneUnshown v.current + v.queue.length)))) ∧
  ∀ (s : State) (d : Display), s.startup.state ≠ .loading → 0 ≤ (s.time - (s.displays.get d).nextBoundary).toInt →
    Completes (.displayFrameBoundary d) s fun t =>
      t.regions = (s.releasedAtBoundary d).foldl (fun r p => holdDown r p.2.1.region) s.regions ∧
      Within (footprint (.displayFrameBoundary d)) s t ∧
      (d ≠ .front → t.rw = (s.layersTell d).rw) ∧
      (d = .front →
        let lost := s.compositor.fallbackShown = false ∧ (∃ v, (s.stack .front).getLast? = some v ∧ v.owner = .camera) ∧
          ∀ k since area, s.camera.newest = some (k, since) → s.cameraArea = some area →
            100000 < (s.time - since).toInt
        ∀ last : State, (lost → last = (s.layersTell d).raise .cameraLost 0) → (¬ lost → last = s.layersTell d) →
          (s.roles = none → t.rw = last.rw) ∧
          ∀ roles, s.roles = some roles → ∃ shot, t.rw =
            { last.rw with
              queue := last.rw.queue ++ rewriteAccesses roles.statusBlock last.rw.updateCount shot false
              updateCount := last.rw.updateCount + 2 })

/-- What a boundary takes for the frame it begins (R80, R81, R87, R116, R117, R135, R143, R155, R161, R163): the top view; each
layer's contribution; on FRONT also the newest buffer, the applied gain, the built guide table, the freshness of the picture and
the fallback flag, and a guide build. A FRONT boundary then has the report writer present a full rewrite of the status block
(R34, R188), behind the reports of the boundary's own work: the update count made odd, every byte from 0x024 on showing the state
after that work and before the build clears its flags (log 22: the model's choice), in ascending pieces (log 43: its choice
too), and the count made even. The fetches of row 0 are presented, of each contributing system layer or of the fresh picture (R164;
that it is at the boundary itself, behind the fetches of the former frame that still wait, is the model's choice, logs 51 and 55, and
so are what a row fetches and its order, logs 33, 43 and 44).
CAMERA_LOST after the layers' reports is its choice too (log 22). -/
def Obligations.BoundaryTakesFrame : Prop :=
  ∀ (s : State) (d : Display), s.startup.state ≠ .loading → 0 ≤ (s.time - (s.displays.get d).nextBoundary).toInt →
    s.roles ≠ none → Completes (.displayFrameBoundary d) s fun t =>
      let scan := (t.displays.get d).scan
      let bad := fun l : ScanLayer => ∃ new, (s.layer d l).staged = some new ∧ (s.displays.get d).hold = false ∧
        sourceChange (s.layer d l).applied new = true
      let contributes := fun (l : ScanLayer) (c : Contribution) =>
        let v := t.layer d l
        (v.applied.enable = false → c = .nothing) ∧
        (v.applied.enable = true → bad l ∨ v.current = none → c = .fill v.applied) ∧
        ∀ e n r, v.applied.enable = true → ¬ bad l → v.current = some (e, n) → findRegion t.regions e.region = some r →
          c = .frame v.applied (r.base + e.offset)
      (t.displays.get d).nextBoundary = (s.displays.get d).nextBoundary + 16667 ∧
      scan.frameNo = (s.displays.get d).scan.frameNo + 1 ∧ scan.view = (s.stack d).getLast? ∧ scan.row = none ∧
      scan.late = [] ∧ scan.data = [] ∧ contributes .video scan.video ∧ contributes .menu scan.menu ∧
      (let presents := fun pieces : List (ScanLayer × Nat × Nat) =>
        scan.queue = (s.displays.get d).scan.queue ++ pieces.map fun p =>
          { layer := p.1, frameNo := scan.frameNo, row := 0, addr := p.2.1, len := p.2.2 }
       (scan.view = none → presents []) ∧
       ∀ v, scan.view = some v →
         (v.owner = .system → presents
           ((if v.video = true then (scan.video.source d 0).map fun p => (.video, p) else []) ++
             if v.menu = true then (scan.menu.source d 0).map fun p => (.menu, p) else [])) ∧
         (∀ base gain, v.owner = .camera → scan.camera = .fresh base gain →
           presents ((blockPieces 2560 base 2560).map fun p => (.camera, p))) ∧
         (v.owner = .camera → scan.camera = .absent ∨ scan.camera = .fallback → presents [])) ∧
      Within (footprint (.displayFrameBoundary d)) s t ∧
      (d ≠ .front → scan.camera = .absent) ∧
      (d = .front →
        let shows := ∃ v, (s.stack .front).getLast? = some v ∧ v.owner = .camera
        let picture := fun base : Nat => ∃ k since area, s.camera.newest = some (k, since) ∧
          (s.time - since).toInt ≤ 100000 ∧ s.cameraArea = some area ∧ base = area + k.val * 1843200
        t.compositor.appliedGain = s.camera.gain ∧ t.rw.updateCount = s.rw.updateCount + 2 ∧
        (∀ roles, s.roles = some roles → ∃ (told : List DeviceWrite) (shot : List Byte) (field : Nat → Nat → List Byte),
          t.rw.queue = s.rw.queue ++ told ++ rewriteAccesses roles.statusBlock s.rw.updateCount shot false ∧
          (s.link.up = false → told = []) ∧ StatusShows { t with guide := s.guide } shot field) ∧
        t.guide.shown = s.guide.ready ∧ t.guide.ready = none ∧
        (¬ shows → t.camera = { s.camera with displaying := none } ∧ scan.camera = .absent ∧
          t.compositor.fallbackShown = false ∧ t.guide.building = s.guide.building ∧
          t.rw.fault .cameraLost = s.rw.fault .cameraLost) ∧
        (shows → t.camera = { s.camera with displaying := s.camera.newest.map Prod.fst } ∧
          (∀ base, picture base → scan.camera = .fresh base s.camera.gain ∧ t.compositor.fallbackShown = false ∧
            t.rw.fault .cameraLost = s.rw.fault .cameraLost) ∧
          ((∀ base, ¬ picture base) → scan.camera = .fallback ∧ t.compositor.fallbackShown = true ∧
            t.rw.fault .cameraLost =
              if s.compositor.fallbackShown then s.rw.fault .cameraLost else (s.rw.fault .cameraLost).occur 0) ∧
          (s.startup.state = .normal → s.guide.config ≠ none →
            t.guide.building = some (if s.guide.ready = some .zero then .one else .zero, s.guide.kappa) ∧
            t.guide.flags = { s.guide.flags with behind := false, offscreen := false, spansDropped := false })))

/-- ACTIVE_ROW_FETCH (R155 to R157, R161 to R164): the row being sent is settled as composed when the next begins (log 21: the
model's choice), the next begins with no layer late, and the fetches of the row after it are presented: the source row of each
contributing system layer, or the row of the fresh picture. That they are presented as the row begins (log 51), that it is the
whole source row (log 33), that video comes before menu and luma before chroma (log 44), that a run goes in ascending pieces (log 43), and that the
rows of a frame in which a system restart is taken are fetched to its end (log 47), and that fetches of rows already past stay
queued (log 55), are the model's choices. Each system layer blends its pixel over what lies beneath, video and then menu: its fill colour, late or without its data (log 21) too, or the nearest ARGB8888 or NV12 sample. A CAMERA view shows
the fresh picture with the applied gain, grey where it is late, under the highest band of the spans shown; else the fallback
picture over grey. LATE_PIXEL (R164): the first of a layer in a row marks it late from that column on and raises
SCANOUT_UNDERRUN; a later one, or one whose data has been granted, changes nothing (log 1). A pixel that is not on the display
cannot arrive (that the model stops there is its choice, log 34). -/
def Obligations.RowsAreSentAsComposed : Prop :=
  (∀ (s : State) (d : Display),
     let sc := (s.displays.get d).scan
     (0 < sc.frameNo → sc.nextRow < d.rows → Completes (.activeRowFetch d) s fun t =>
       let after := (t.displays.get d).scan
       let next := sc.nextRow + 1
       let presents := fun pieces : List (ScanLayer × Nat × Nat) =>
         after.queue = sc.queue ++ pieces.map fun p =>
           { layer := p.1, frameNo := sc.frameNo, row := next, addr := p.2.1, len := p.2.2 }
       after.row = some sc.nextRow ∧ after.late = [] ∧
       (∀ r, sc.row = some r →
         after.sent = some { row := r, pixels := (List.range d.columns).map fun col => (s.screenPixel sc col r).bits }) ∧
       (d.rows ≤ next ∨ sc.view = none → after.queue = sc.queue) ∧
       (∀ v, next < d.rows → sc.view = some v →
         (v.owner = .system → presents
           ((if v.video = true then (sc.video.source d next).map fun p => (.video, p) else []) ++
             if v.menu = true then (sc.menu.source d next).map fun p => (.menu, p) else [])) ∧
         (∀ base gain, v.owner = .camera → sc.camera = .fresh base gain →
           presents ((blockPieces 2560 (base + 2560 * next) 2560).map fun p => (.camera, p))) ∧
         (v.owner = .camera → sc.camera = .absent ∨ sc.camera = .fallback → after.queue = sc.queue)) ∧
       (∀ e, e ≠ d → t.displays.get e = s.displays.get e) ∧ Within [.displays] s t) ∧
     (∀ col row, sc.view = none → s.screenPixel sc col row = { r := 0, g := 0, b := 0 }) ∧
     (∀ v col row, sc.view = some v → v.owner = .system →
       let ground : Rgb :=
         { r := v.background.toNat / 65536 % 256, g := v.background.toNat / 256 % 256, b := v.background.toNat % 256 }
       let noVideo := v.video = false ∨ sc.video.leaves col row
       let noMenu := v.menu = false ∨ sc.menu.leaves col row
       (noVideo → noMenu → s.screenPixel sc col row = ground) ∧
       (∀ p ga, v.video = true → sc.draws .video sc.video col row p ga → noMenu →
         s.screenPixel sc col row = blend p ga ground) ∧
       (∀ q gb, noVideo → v.menu = true → sc.draws .menu sc.menu col row q gb →
         s.screenPixel sc col row = blend q gb ground) ∧
       ∀ p ga q gb, v.video = true → sc.draws .video sc.video col row p ga → v.menu = true →
         sc.draws .menu sc.menu col row q gb → s.screenPixel sc col row = blend q gb (blend p ga ground)) ∧
     ∀ v col row, sc.view = some v → v.owner = .camera →
       let grey : Rgb := { r := 32, g := 32, b := 32 }
       (∀ base gain under, sc.camera = .fresh base gain →
         (let at' := fun k => sc.byteFor .camera row (base + 2560 * row + 4 * (col / 2) + k)
          let luma := at' (if col % 2 = 0 then 0 else 2)
          (sc.isLate .camera col = true ∨ luma = none ∨ at' 1 = none ∨ at' 3 = none) ∧ under = grey ∨
          ∃ y u w, sc.isLate .camera col = false ∧ luma = some y ∧ at' 1 = some u ∧ at' 3 = some w ∧
            under = yuvRgb (min 235 (max 16 (16 + (((y.toNat : Int) - 16) * gain + 8) / 16))) u.toNat w.toNat) →
         (s.guide.shown = none ∨ s.guide.config = none → s.screenPixel sc col row = under) ∧
         ∀ n c, s.guide.shown = some n → s.guide.config = some c →
           let covering := (s.guide.table n).filter fun x => decide (x.row = row ∧ x.startCol ≤ col ∧ col ≤ x.endCol)
           (covering = [] → s.screenPixel sc col row = under) ∧
           ∀ x ∈ covering, (∀ z ∈ covering, z.band.rank ≤ x.band.rank) →
             s.screenPixel sc col row =
               blend (colourPixel (match x.band with
                 | .near => c.near
                 | .mid => c.mid
                 | .far => c.far)) 255 under) ∧
       (sc.camera = .fallback →
         let inside := 512 ≤ col ∧ col < 768 ∧ 296 ≤ row ∧ row < 424
         let pair := byteAt s.compositor.fallbackIndices (128 * (row - 296) + (col - 512) / 2)
         (¬ inside → s.screenPixel sc col row = grey) ∧
         (inside → s.screenPixel sc col row =
           blend (colourPixel (s.compositor.fallbackPalette.getD (if col % 2 = 0 then pair % 16 else pair / 16) 0)) 255
             grey))) ∧
  ∀ (s : State) (d : Display) (l : ScanLayer) (col row : Nat),
    let sc := (s.displays.get d).scan
    (d.columns ≤ col ∨ (l = .camera ∧ d ≠ .front) → exec (.latePixel d l col) s = .fault .cannotArrive) ∧
    (col < d.columns → (l = .camera → d = .front) → sc.row = some row →
      (sc.missing l col row = true → (∀ x ∈ sc.late, x.1 ≠ l) →
        exec (.latePixel d l col) s = .next
          ((s.updateDisplay d fun x => { x with scan := { x.scan with late := x.scan.late ++ [(l, col)] } }).raise
            .scanoutUnderrun (displayNumber d + 256 * layerNumber l))) ∧
      (sc.missing l col row = false ∨ (∃ x ∈ sc.late, x.1 = l) → exec (.latePixel d l col) s = .next s))

/-! ### Mixing and ramps (chapter 10) -/

/-- A sample time (R170, R181, R182, R183): a running stream takes its frame or underruns, a PLAYING chime advances, each channel
is the rounded sum of stream and chime, clamped to 16 bits, with a stopped, delayed or dry stream giving 0; a stream that
becomes dry raises AUDIO_UNDERRUN once, with its number, and a pair of which a channel is clamped raises AUDIO_CLIP once, with
its number; every 48th sample time brings a millisecond tick (one that is still due stays one, and its sample is mixed before the
tick moves a gain: log 30, the model's choice). That the occurrences of a
kind go in the order FRONT, REAR_LEFT, REAR_RIGHT is the model's choice (log 48). -/
def Obligations.SampleTimeMixesStreamsAndChimes : Prop :=
  ∀ s : State, s.audio.running = true → Completes .sampleTime s fun t =>
    (∀ d,
      let st := s.audio.streams.get d
      let after := t.audio.streams.get d
      let begun := st.running = true ∧ ∀ at', st.startDelay = some at' → 0 ≤ (s.time - at').toInt
      (¬ begun → after = st) ∧
      (∀ frame rest ring, begun → st.ring = some ring → st.buffer = frame :: rest → st.consumer ≠ st.producer →
        after = { st with buffer := rest, consumer := (st.consumer + 1) % ring.size, underrun := false }) ∧
      (begun → st.buffer = [] ∨ st.consumer = st.producer → after = { st with underrun := true })) ∧
    (∃ tdm, t.audio.tdm = some tdm ∧
      let begun := fun d : Display => (s.audio.streams.get d).running && (match (s.audio.streams.get d).startDelay with
        | none => true
        | some at' => decide (0 ≤ (s.time - at').toInt))
      let dry := fun d : Display =>
        decide ((s.audio.streams.get d).ring = none ∨ (s.audio.streams.get d).buffer = [] ∨
          (s.audio.streams.get d).consumer = (s.audio.streams.get d).producer)
      let frame : Display → Stereo := fun d =>
        if begun d = true ∧ dry d = false then (s.audio.streams.get d).buffer.headD { left := 0, right := 0 }
        else { left := 0, right := 0 }
      let sum := fun (d : Display) (x : BitVec 16) =>
        rndDiv (x.toInt * (s.audio.streams.get d).gEff) 64 +
          rndDiv (s.audio.chimeSample (s.audio.chimes.get d).player * s.audio.chimeGain (s.audio.chimes.get d).player) 64
      let clamped := fun x : Int => decide (x < -32768 ∨ 32767 < x)
      (∀ d, (tdm.get d).left.toInt = min 32767 (max (-32768) (sum d (frame d).left)) ∧
        (tdm.get d).right.toInt = min 32767 (max (-32768) (sum d (frame d).right))) ∧
      t.rw.fault .audioUnderrun =
        ([Display.front, .rearLeft, .rearRight].filter fun d =>
          begun d && dry d && !(s.audio.streams.get d).underrun).foldl
          (fun f d => f.occur (displayNumber d)) (s.rw.fault .audioUnderrun) ∧
      t.rw.fault .audioClip =
        ([Display.front, .rearLeft, .rearRight].filter fun d =>
          clamped (sum d (frame d).left) || clamped (sum d (frame d).right)).foldl
          (fun f d => f.occur (displayNumber d)) (s.rw.fault .audioClip) ∧
      ∀ k, k ≠ .audioUnderrun → k ≠ .audioClip → t.rw.fault k = s.rw.fault k) ∧
    (∃ tdm, t.audio.tdm = some tdm ∧ ∀ d, (s.audio.streams.get d).running = false →
      (s.audio.chimes.get d).player = .idle → tdm.get d = { left := 0, right := 0 }) ∧
    (∀ d, (t.audio.chimes.get d).queue = (s.audio.chimes.get d).queue ∧
      ∀ c src pos, (s.audio.chimes.get d).player = .playing c src pos → pos < chimeSamples s.audio.clips c src →
        (t.audio.chimes.get d).player = .playing c src (pos + 1)) ∧
    (s.audio.sampleCount + 1 < 48 → t.audio.sampleCount = s.audio.sampleCount + 1 ∧ t.audio.tickDue = s.audio.tickDue) ∧
    (48 ≤ s.audio.sampleCount + 1 → t.audio.sampleCount = 0 ∧ t.audio.tickDue = true) ∧
    Within [.audio, .rw] s t

/-- The audio timers (R108, R166, R173, R181, R183): the start delay's end lets a stream take frames; a millisecond tick moves
each running stream's gain by 4 toward its target and no further; a chime past its last sample leaves the player IDLE, gives
up the buffer, and the next head starts. A command before its time has no effect (log 19), nor has a tick that is not due (log 1);
a tick that is due is taken once (log 30). -/
def Obligations.AudioTimersActAtTheirTimes : Prop :=
  (∀ (s : State) (d : Display) (at' : Time), (s.audio.streams.get d).startDelay = some at' →
    ((s.time - at').toInt < 0 → exec (.startDelayExpiry d) s = .next s) ∧
    (0 ≤ (s.time - at').toInt →
      exec (.startDelayExpiry d) s = .next (s.updateStream d fun x => { x with startDelay := none }))) ∧
  (∀ s : State, s.audio.tickDue = false → exec .millisecondTick s = .next s) ∧
  (∀ s : State, s.audio.tickDue = true → Completes .millisecondTick s fun t =>
    t.audio.tickDue = false ∧ { t.audio with streams := s.audio.streams, tickDue := true } = s.audio ∧ Within [.audio] s t ∧
    ∀ d,
      let st := s.audio.streams.get d
      let target := if d = .front ∧ s.audio.chimes.front.player.isPlaying = true then st.setGain * s.audio.duck / 64
        else st.setGain
      (st.running = false → t.audio.streams.get d = st) ∧
      (st.running = true → ∃ g, t.audio.streams.get d = { st with gEff := g } ∧
        (st.gEff ≤ target → g = min (st.gEff + 4) target) ∧ (target ≤ st.gEff → g = max (st.gEff - 4) target))) ∧
  ∀ (s : State) (d : Display) (c : Chime) (src : ChimeSource) (pos : Nat),
    (s.audio.chimes.get d).player = .playing c src pos →
    (pos < chimeSamples s.audio.clips c src → exec (.chimeEnd d) s = .next s) ∧
    (chimeSamples s.audio.clips c src ≤ pos → s.ChimesSettled →
      ((s.audio.chimes.get d).queue = [] → s.audio.buffer.waiters = [] →
        d ≠ .front ∨ ¬ (c.owner = .part ∧ c.clip = 1) ∨ s.park.active = false →
        exec (.chimeEnd d) s = .next
          { s with
            audio := { s.audio with
              chimes := s.audio.chimes.put d { s.audio.chimes.get d with player := .idle }
              buffer := { s.audio.buffer with
                user := if s.audio.buffer.user = some d then none else s.audio.buffer.user } } }) ∧
      ∀ head rest clip, (s.audio.chimes.get d).queue = head :: rest → s.audio.clips[head.clip]? = some clip →
        clip.resident = true → s.audio.buffer.user ≠ some d →
        d ≠ .front ∨ ¬ (c.owner = .part ∧ c.clip = 1) ∨ s.park.active = false →
        exec (.chimeEnd d) s = .next
          (s.updateChimes d fun x => { x with queue := rest, player := .playing head .cache 0 }))

/-! ### Headlines -/

/-- What a command may change (00; R16 for DRAM): a command that completes changes nothing outside its footprint, so a byte of
DRAM changes by a grant of the arbiter and by nothing else, and a reset alone sets part time; every command whose operands
can arrive completes, and one whose operands cannot arrive stops (log 34: the model's choice). -/
def Obligations.CommandsStayWithinFootprint : Prop :=
  (∀ (c : Instr) (s t : State), exec c s = .next t → Within (footprint c) s t) ∧
  (∀ (c : Instr) (s : State), c.WellFormed = true → ∃ t, exec c s = .next t) ∧
  ∀ (c : Instr) (s : State), c.WellFormed = false → exec c s = .fault .cannotArrive

/-- In State.reset, the device as delivered right after a power-on reset (log 4), every invariant that the steps keep holds; that
the applied gain is 16 there is the model's choice (log 5). -/
def Obligations.InvariantsHoldAtReset : Prop :=
  State.reset.Canonical ∧ State.reset.StacksLegal ∧ State.reset.PictureSafe ∧ State.reset.Bounded ∧
    State.reset.HoldsMatch ∧ State.reset.ChimesSettled ∧ State.reset.LockSafe

/-- Every step keeps what the manual says of the whole device: DRAM and the store stay canonical (the model's own form); the
view stacks agree with the reverse state (R130); the buffer being written is neither newest nor displaying (R78) and the gain
lies in 16 to 63 (R85); indices, counters, lists and queues keep their bounds (R3, R16, R17, R20, R28, R30, R40). -/
def Obligations.StepKeepsDeviceInvariants : Prop :=
  ∀ s t : State, step s = .next t →
    (s.Canonical → t.Canonical) ∧ (s.StacksLegal → t.StacksLegal) ∧ (s.PictureSafe → t.PictureSafe) ∧
      (s.Bounded → t.Bounded)

/-- Every step keeps each FRAME region's hold count equal to the number of frames, pending or current, that name it (R11). -/
def Obligations.StepKeepsHoldCounts : Prop :=
  ∀ s t : State, s.HoldsMatch → step s = .next t → t.HoldsMatch

/-- Every step leaves the chime queues and the staging buffer settled (R173, R175, R179). -/
def Obligations.StepKeepsChimesSettled : Prop :=
  ∀ s t : State, s.ChimesSettled → step s = .next t → t.ChimesSettled

/-- The calibration lock (R38): the store's own invariant is kept, and once the lock is set, no step clears it or changes a byte
of block 0. -/
def Obligations.LockedCalibrationNeverChanges : Prop :=
  ∀ s t : State, s.LockSafe → step s = .next t →
    t.LockSafe ∧ (s.store.lockMark = true →
      t.store.lockMark = true ∧ ∀ a, a < 65536 → t.store.byte a = s.store.byte a)
end

