-- ==== Sys2Proof/Laws/State.lean ====
section
/-! SUPPORT. One lemma per field per update of the state: an update leaves every field it does not name as it was. -/

namespace Sys2Proof.Machine

/-! ### State.present -/

@[simp] theorem State.present_time (s : State) (a : Nat) (b : List Byte) (u : Bool) : (s.present a b u).time = s.time := rfl
@[simp] theorem State.present_pending (s : State) (a : Nat) (b : List Byte) (u : Bool) : (s.present a b u).pending = s.pending := rfl
@[simp] theorem State.present_dram (s : State) (a : Nat) (b : List Byte) (u : Bool) : (s.present a b u).dram = s.dram := rfl
@[simp] theorem State.present_startup (s : State) (a : Nat) (b : List Byte) (u : Bool) : (s.present a b u).startup = s.startup := rfl
@[simp] theorem State.present_link (s : State) (a : Nat) (b : List Byte) (u : Bool) : (s.present a b u).link = s.link := rfl
@[simp] theorem State.present_regions (s : State) (a : Nat) (b : List Byte) (u : Bool) : (s.present a b u).regions = s.regions := rfl
@[simp] theorem State.present_roles (s : State) (a : Nat) (b : List Byte) (u : Bool) : (s.present a b u).roles = s.roles := rfl
@[simp] theorem State.present_arb (s : State) (a : Nat) (b : List Byte) (u : Bool) : (s.present a b u).arb = s.arb := rfl
@[simp] theorem State.present_taker (s : State) (a : Nat) (b : List Byte) (u : Bool) : (s.present a b u).taker = s.taker := rfl
@[simp] theorem State.present_store (s : State) (a : Nat) (b : List Byte) (u : Bool) : (s.present a b u).store = s.store := rfl
@[simp] theorem State.present_camera (s : State) (a : Nat) (b : List Byte) (u : Bool) : (s.present a b u).camera = s.camera := rfl
@[simp] theorem State.present_vehicle (s : State) (a : Nat) (b : List Byte) (u : Bool) : (s.present a b u).vehicle = s.vehicle := rfl
@[simp] theorem State.present_reverse (s : State) (a : Nat) (b : List Byte) (u : Bool) : (s.present a b u).reverse = s.reverse := rfl
@[simp] theorem State.present_park (s : State) (a : Nat) (b : List Byte) (u : Bool) : (s.present a b u).park = s.park := rfl
@[simp] theorem State.present_guide (s : State) (a : Nat) (b : List Byte) (u : Bool) : (s.present a b u).guide = s.guide := rfl
@[simp] theorem State.present_displays (s : State) (a : Nat) (b : List Byte) (u : Bool) : (s.present a b u).displays = s.displays := rfl
@[simp] theorem State.present_compositor (s : State) (a : Nat) (b : List Byte) (u : Bool) : (s.present a b u).compositor = s.compositor := rfl
@[simp] theorem State.present_audio (s : State) (a : Nat) (b : List Byte) (u : Bool) : (s.present a b u).audio = s.audio := rfl

/-! ### State.updateDisplay -/

@[simp] theorem State.updateDisplay_time (s : State) (d : Display) (f : DisplayState → DisplayState) : (s.updateDisplay d f).time = s.time := rfl
@[simp] theorem State.updateDisplay_pending (s : State) (d : Display) (f : DisplayState → DisplayState) : (s.updateDisplay d f).pending = s.pending := rfl
@[simp] theorem State.updateDisplay_dram (s : State) (d : Display) (f : DisplayState → DisplayState) : (s.updateDisplay d f).dram = s.dram := rfl
@[simp] theorem State.updateDisplay_startup (s : State) (d : Display) (f : DisplayState → DisplayState) : (s.updateDisplay d f).startup = s.startup := rfl
@[simp] theorem State.updateDisplay_link (s : State) (d : Display) (f : DisplayState → DisplayState) : (s.updateDisplay d f).link = s.link := rfl
@[simp] theorem State.updateDisplay_regions (s : State) (d : Display) (f : DisplayState → DisplayState) : (s.updateDisplay d f).regions = s.regions := rfl
@[simp] theorem State.updateDisplay_roles (s : State) (d : Display) (f : DisplayState → DisplayState) : (s.updateDisplay d f).roles = s.roles := rfl
@[simp] theorem State.updateDisplay_arb (s : State) (d : Display) (f : DisplayState → DisplayState) : (s.updateDisplay d f).arb = s.arb := rfl
@[simp] theorem State.updateDisplay_taker (s : State) (d : Display) (f : DisplayState → DisplayState) : (s.updateDisplay d f).taker = s.taker := rfl
@[simp] theorem State.updateDisplay_rw (s : State) (d : Display) (f : DisplayState → DisplayState) : (s.updateDisplay d f).rw = s.rw := rfl
@[simp] theorem State.updateDisplay_store (s : State) (d : Display) (f : DisplayState → DisplayState) : (s.updateDisplay d f).store = s.store := rfl
@[simp] theorem State.updateDisplay_camera (s : State) (d : Display) (f : DisplayState → DisplayState) : (s.updateDisplay d f).camera = s.camera := rfl
@[simp] theorem State.updateDisplay_vehicle (s : State) (d : Display) (f : DisplayState → DisplayState) : (s.updateDisplay d f).vehicle = s.vehicle := rfl
@[simp] theorem State.updateDisplay_reverse (s : State) (d : Display) (f : DisplayState → DisplayState) : (s.updateDisplay d f).reverse = s.reverse := rfl
@[simp] theorem State.updateDisplay_park (s : State) (d : Display) (f : DisplayState → DisplayState) : (s.updateDisplay d f).park = s.park := rfl
@[simp] theorem State.updateDisplay_guide (s : State) (d : Display) (f : DisplayState → DisplayState) : (s.updateDisplay d f).guide = s.guide := rfl
@[simp] theorem State.updateDisplay_compositor (s : State) (d : Display) (f : DisplayState → DisplayState) : (s.updateDisplay d f).compositor = s.compositor := rfl
@[simp] theorem State.updateDisplay_audio (s : State) (d : Display) (f : DisplayState → DisplayState) : (s.updateDisplay d f).audio = s.audio := rfl

/-! ### State.updateScan -/

@[simp] theorem State.updateScan_time (s : State) (d : Display) (f : Scan → Scan) : (s.updateScan d f).time = s.time := rfl
@[simp] theorem State.updateScan_pending (s : State) (d : Display) (f : Scan → Scan) : (s.updateScan d f).pending = s.pending := rfl
@[simp] theorem State.updateScan_dram (s : State) (d : Display) (f : Scan → Scan) : (s.updateScan d f).dram = s.dram := rfl
@[simp] theorem State.updateScan_startup (s : State) (d : Display) (f : Scan → Scan) : (s.updateScan d f).startup = s.startup := rfl
@[simp] theorem State.updateScan_link (s : State) (d : Display) (f : Scan → Scan) : (s.updateScan d f).link = s.link := rfl
@[simp] theorem State.updateScan_regions (s : State) (d : Display) (f : Scan → Scan) : (s.updateScan d f).regions = s.regions := rfl
@[simp] theorem State.updateScan_roles (s : State) (d : Display) (f : Scan → Scan) : (s.updateScan d f).roles = s.roles := rfl
@[simp] theorem State.updateScan_arb (s : State) (d : Display) (f : Scan → Scan) : (s.updateScan d f).arb = s.arb := rfl
@[simp] theorem State.updateScan_taker (s : State) (d : Display) (f : Scan → Scan) : (s.updateScan d f).taker = s.taker := rfl
@[simp] theorem State.updateScan_rw (s : State) (d : Display) (f : Scan → Scan) : (s.updateScan d f).rw = s.rw := rfl
@[simp] theorem State.updateScan_store (s : State) (d : Display) (f : Scan → Scan) : (s.updateScan d f).store = s.store := rfl
@[simp] theorem State.updateScan_camera (s : State) (d : Display) (f : Scan → Scan) : (s.updateScan d f).camera = s.camera := rfl
@[simp] theorem State.updateScan_vehicle (s : State) (d : Display) (f : Scan → Scan) : (s.updateScan d f).vehicle = s.vehicle := rfl
@[simp] theorem State.updateScan_reverse (s : State) (d : Display) (f : Scan → Scan) : (s.updateScan d f).reverse = s.reverse := rfl
@[simp] theorem State.updateScan_park (s : State) (d : Display) (f : Scan → Scan) : (s.updateScan d f).park = s.park := rfl
@[simp] theorem State.updateScan_guide (s : State) (d : Display) (f : Scan → Scan) : (s.updateScan d f).guide = s.guide := rfl
@[simp] theorem State.updateScan_compositor (s : State) (d : Display) (f : Scan → Scan) : (s.updateScan d f).compositor = s.compositor := rfl
@[simp] theorem State.updateScan_audio (s : State) (d : Display) (f : Scan → Scan) : (s.updateScan d f).audio = s.audio := rfl

/-! ### State.setStack -/

@[simp] theorem State.setStack_time (s : State) (d : Display) (st : List View) : (s.setStack d st).time = s.time := rfl
@[simp] theorem State.setStack_pending (s : State) (d : Display) (st : List View) : (s.setStack d st).pending = s.pending := rfl
@[simp] theorem State.setStack_dram (s : State) (d : Display) (st : List View) : (s.setStack d st).dram = s.dram := rfl
@[simp] theorem State.setStack_startup (s : State) (d : Display) (st : List View) : (s.setStack d st).startup = s.startup := rfl
@[simp] theorem State.setStack_link (s : State) (d : Display) (st : List View) : (s.setStack d st).link = s.link := rfl
@[simp] theorem State.setStack_regions (s : State) (d : Display) (st : List View) : (s.setStack d st).regions = s.regions := rfl
@[simp] theorem State.setStack_roles (s : State) (d : Display) (st : List View) : (s.setStack d st).roles = s.roles := rfl
@[simp] theorem State.setStack_arb (s : State) (d : Display) (st : List View) : (s.setStack d st).arb = s.arb := rfl
@[simp] theorem State.setStack_taker (s : State) (d : Display) (st : List View) : (s.setStack d st).taker = s.taker := rfl
@[simp] theorem State.setStack_rw (s : State) (d : Display) (st : List View) : (s.setStack d st).rw = s.rw := rfl
@[simp] theorem State.setStack_store (s : State) (d : Display) (st : List View) : (s.setStack d st).store = s.store := rfl
@[simp] theorem State.setStack_camera (s : State) (d : Display) (st : List View) : (s.setStack d st).camera = s.camera := rfl
@[simp] theorem State.setStack_vehicle (s : State) (d : Display) (st : List View) : (s.setStack d st).vehicle = s.vehicle := rfl
@[simp] theorem State.setStack_reverse (s : State) (d : Display) (st : List View) : (s.setStack d st).reverse = s.reverse := rfl
@[simp] theorem State.setStack_park (s : State) (d : Display) (st : List View) : (s.setStack d st).park = s.park := rfl
@[simp] theorem State.setStack_guide (s : State) (d : Display) (st : List View) : (s.setStack d st).guide = s.guide := rfl
@[simp] theorem State.setStack_compositor (s : State) (d : Display) (st : List View) : (s.setStack d st).compositor = s.compositor := rfl
@[simp] theorem State.setStack_audio (s : State) (d : Display) (st : List View) : (s.setStack d st).audio = s.audio := rfl

/-! ### State.setLayer -/

@[simp] theorem State.setLayer_time (s : State) (d : Display) (l : ScanLayer) (v : LayerState) : (s.setLayer d l v).time = s.time := rfl
@[simp] theorem State.setLayer_pending (s : State) (d : Display) (l : ScanLayer) (v : LayerState) : (s.setLayer d l v).pending = s.pending := rfl
@[simp] theorem State.setLayer_dram (s : State) (d : Display) (l : ScanLayer) (v : LayerState) : (s.setLayer d l v).dram = s.dram := rfl
@[simp] theorem State.setLayer_startup (s : State) (d : Display) (l : ScanLayer) (v : LayerState) : (s.setLayer d l v).startup = s.startup := rfl
@[simp] theorem State.setLayer_link (s : State) (d : Display) (l : ScanLayer) (v : LayerState) : (s.setLayer d l v).link = s.link := rfl
@[simp] theorem State.setLayer_regions (s : State) (d : Display) (l : ScanLayer) (v : LayerState) : (s.setLayer d l v).regions = s.regions := rfl
@[simp] theorem State.setLayer_roles (s : State) (d : Display) (l : ScanLayer) (v : LayerState) : (s.setLayer d l v).roles = s.roles := rfl
@[simp] theorem State.setLayer_arb (s : State) (d : Display) (l : ScanLayer) (v : LayerState) : (s.setLayer d l v).arb = s.arb := rfl
@[simp] theorem State.setLayer_taker (s : State) (d : Display) (l : ScanLayer) (v : LayerState) : (s.setLayer d l v).taker = s.taker := rfl
@[simp] theorem State.setLayer_rw (s : State) (d : Display) (l : ScanLayer) (v : LayerState) : (s.setLayer d l v).rw = s.rw := rfl
@[simp] theorem State.setLayer_store (s : State) (d : Display) (l : ScanLayer) (v : LayerState) : (s.setLayer d l v).store = s.store := rfl
@[simp] theorem State.setLayer_camera (s : State) (d : Display) (l : ScanLayer) (v : LayerState) : (s.setLayer d l v).camera = s.camera := rfl
@[simp] theorem State.setLayer_vehicle (s : State) (d : Display) (l : ScanLayer) (v : LayerState) : (s.setLayer d l v).vehicle = s.vehicle := rfl
@[simp] theorem State.setLayer_reverse (s : State) (d : Display) (l : ScanLayer) (v : LayerState) : (s.setLayer d l v).reverse = s.reverse := rfl
@[simp] theorem State.setLayer_park (s : State) (d : Display) (l : ScanLayer) (v : LayerState) : (s.setLayer d l v).park = s.park := rfl
@[simp] theorem State.setLayer_guide (s : State) (d : Display) (l : ScanLayer) (v : LayerState) : (s.setLayer d l v).guide = s.guide := rfl
@[simp] theorem State.setLayer_compositor (s : State) (d : Display) (l : ScanLayer) (v : LayerState) : (s.setLayer d l v).compositor = s.compositor := rfl
@[simp] theorem State.setLayer_audio (s : State) (d : Display) (l : ScanLayer) (v : LayerState) : (s.setLayer d l v).audio = s.audio := rfl

/-! ### State.updateStream -/

@[simp] theorem State.updateStream_time (s : State) (d : Display) (f : Stream → Stream) : (s.updateStream d f).time = s.time := rfl
@[simp] theorem State.updateStream_pending (s : State) (d : Display) (f : Stream → Stream) : (s.updateStream d f).pending = s.pending := rfl
@[simp] theorem State.updateStream_dram (s : State) (d : Display) (f : Stream → Stream) : (s.updateStream d f).dram = s.dram := rfl
@[simp] theorem State.updateStream_startup (s : State) (d : Display) (f : Stream → Stream) : (s.updateStream d f).startup = s.startup := rfl
@[simp] theorem State.updateStream_link (s : State) (d : Display) (f : Stream → Stream) : (s.updateStream d f).link = s.link := rfl
@[simp] theorem State.updateStream_regions (s : State) (d : Display) (f : Stream → Stream) : (s.updateStream d f).regions = s.regions := rfl
@[simp] theorem State.updateStream_roles (s : State) (d : Display) (f : Stream → Stream) : (s.updateStream d f).roles = s.roles := rfl
@[simp] theorem State.updateStream_arb (s : State) (d : Display) (f : Stream → Stream) : (s.updateStream d f).arb = s.arb := rfl
@[simp] theorem State.updateStream_taker (s : State) (d : Display) (f : Stream → Stream) : (s.updateStream d f).taker = s.taker := rfl
@[simp] theorem State.updateStream_rw (s : State) (d : Display) (f : Stream → Stream) : (s.updateStream d f).rw = s.rw := rfl
@[simp] theorem State.updateStream_store (s : State) (d : Display) (f : Stream → Stream) : (s.updateStream d f).store = s.store := rfl
@[simp] theorem State.updateStream_camera (s : State) (d : Display) (f : Stream → Stream) : (s.updateStream d f).camera = s.camera := rfl
@[simp] theorem State.updateStream_vehicle (s : State) (d : Display) (f : Stream → Stream) : (s.updateStream d f).vehicle = s.vehicle := rfl
@[simp] theorem State.updateStream_reverse (s : State) (d : Display) (f : Stream → Stream) : (s.updateStream d f).reverse = s.reverse := rfl
@[simp] theorem State.updateStream_park (s : State) (d : Display) (f : Stream → Stream) : (s.updateStream d f).park = s.park := rfl
@[simp] theorem State.updateStream_guide (s : State) (d : Display) (f : Stream → Stream) : (s.updateStream d f).guide = s.guide := rfl
@[simp] theorem State.updateStream_displays (s : State) (d : Display) (f : Stream → Stream) : (s.updateStream d f).displays = s.displays := rfl
@[simp] theorem State.updateStream_compositor (s : State) (d : Display) (f : Stream → Stream) : (s.updateStream d f).compositor = s.compositor := rfl

/-! ### State.updateChimes -/

@[simp] theorem State.updateChimes_time (s : State) (d : Display) (f : PairChimes → PairChimes) : (s.updateChimes d f).time = s.time := rfl
@[simp] theorem State.updateChimes_pending (s : State) (d : Display) (f : PairChimes → PairChimes) : (s.updateChimes d f).pending = s.pending := rfl
@[simp] theorem State.updateChimes_dram (s : State) (d : Display) (f : PairChimes → PairChimes) : (s.updateChimes d f).dram = s.dram := rfl
@[simp] theorem State.updateChimes_startup (s : State) (d : Display) (f : PairChimes → PairChimes) : (s.updateChimes d f).startup = s.startup := rfl
@[simp] theorem State.updateChimes_link (s : State) (d : Display) (f : PairChimes → PairChimes) : (s.updateChimes d f).link = s.link := rfl
@[simp] theorem State.updateChimes_regions (s : State) (d : Display) (f : PairChimes → PairChimes) : (s.updateChimes d f).regions = s.regions := rfl
@[simp] theorem State.updateChimes_roles (s : State) (d : Display) (f : PairChimes → PairChimes) : (s.updateChimes d f).roles = s.roles := rfl
@[simp] theorem State.updateChimes_arb (s : State) (d : Display) (f : PairChimes → PairChimes) : (s.updateChimes d f).arb = s.arb := rfl
@[simp] theorem State.updateChimes_taker (s : State) (d : Display) (f : PairChimes → PairChimes) : (s.updateChimes d f).taker = s.taker := rfl
@[simp] theorem State.updateChimes_rw (s : State) (d : Display) (f : PairChimes → PairChimes) : (s.updateChimes d f).rw = s.rw := rfl
@[simp] theorem State.updateChimes_store (s : State) (d : Display) (f : PairChimes → PairChimes) : (s.updateChimes d f).store = s.store := rfl
@[simp] theorem State.updateChimes_camera (s : State) (d : Display) (f : PairChimes → PairChimes) : (s.updateChimes d f).camera = s.camera := rfl
@[simp] theorem State.updateChimes_vehicle (s : State) (d : Display) (f : PairChimes → PairChimes) : (s.updateChimes d f).vehicle = s.vehicle := rfl
@[simp] theorem State.updateChimes_reverse (s : State) (d : Display) (f : PairChimes → PairChimes) : (s.updateChimes d f).reverse = s.reverse := rfl
@[simp] theorem State.updateChimes_park (s : State) (d : Display) (f : PairChimes → PairChimes) : (s.updateChimes d f).park = s.park := rfl
@[simp] theorem State.updateChimes_guide (s : State) (d : Display) (f : PairChimes → PairChimes) : (s.updateChimes d f).guide = s.guide := rfl
@[simp] theorem State.updateChimes_displays (s : State) (d : Display) (f : PairChimes → PairChimes) : (s.updateChimes d f).displays = s.displays := rfl
@[simp] theorem State.updateChimes_compositor (s : State) (d : Display) (f : PairChimes → PairChimes) : (s.updateChimes d f).compositor = s.compositor := rfl

/-! ### State.setPlayer -/

@[simp] theorem State.setPlayer_time (s : State) (d : Display) (p : Player) : (s.setPlayer d p).time = s.time := rfl
@[simp] theorem State.setPlayer_pending (s : State) (d : Display) (p : Player) : (s.setPlayer d p).pending = s.pending := rfl
@[simp] theorem State.setPlayer_dram (s : State) (d : Display) (p : Player) : (s.setPlayer d p).dram = s.dram := rfl
@[simp] theorem State.setPlayer_startup (s : State) (d : Display) (p : Player) : (s.setPlayer d p).startup = s.startup := rfl
@[simp] theorem State.setPlayer_link (s : State) (d : Display) (p : Player) : (s.setPlayer d p).link = s.link := rfl
@[simp] theorem State.setPlayer_regions (s : State) (d : Display) (p : Player) : (s.setPlayer d p).regions = s.regions := rfl
@[simp] theorem State.setPlayer_roles (s : State) (d : Display) (p : Player) : (s.setPlayer d p).roles = s.roles := rfl
@[simp] theorem State.setPlayer_arb (s : State) (d : Display) (p : Player) : (s.setPlayer d p).arb = s.arb := rfl
@[simp] theorem State.setPlayer_taker (s : State) (d : Display) (p : Player) : (s.setPlayer d p).taker = s.taker := rfl
@[simp] theorem State.setPlayer_rw (s : State) (d : Display) (p : Player) : (s.setPlayer d p).rw = s.rw := rfl
@[simp] theorem State.setPlayer_store (s : State) (d : Display) (p : Player) : (s.setPlayer d p).store = s.store := rfl
@[simp] theorem State.setPlayer_camera (s : State) (d : Display) (p : Player) : (s.setPlayer d p).camera = s.camera := rfl
@[simp] theorem State.setPlayer_vehicle (s : State) (d : Display) (p : Player) : (s.setPlayer d p).vehicle = s.vehicle := rfl
@[simp] theorem State.setPlayer_reverse (s : State) (d : Display) (p : Player) : (s.setPlayer d p).reverse = s.reverse := rfl
@[simp] theorem State.setPlayer_park (s : State) (d : Display) (p : Player) : (s.setPlayer d p).park = s.park := rfl
@[simp] theorem State.setPlayer_guide (s : State) (d : Display) (p : Player) : (s.setPlayer d p).guide = s.guide := rfl
@[simp] theorem State.setPlayer_displays (s : State) (d : Display) (p : Player) : (s.setPlayer d p).displays = s.displays := rfl
@[simp] theorem State.setPlayer_compositor (s : State) (d : Display) (p : Player) : (s.setPlayer d p).compositor = s.compositor := rfl

/-! ### State.leavePlayer -/

@[simp] theorem State.leavePlayer_time (s : State) (d : Display) : (s.leavePlayer d).time = s.time := rfl
@[simp] theorem State.leavePlayer_pending (s : State) (d : Display) : (s.leavePlayer d).pending = s.pending := rfl
@[simp] theorem State.leavePlayer_dram (s : State) (d : Display) : (s.leavePlayer d).dram = s.dram := rfl
@[simp] theorem State.leavePlayer_startup (s : State) (d : Display) : (s.leavePlayer d).startup = s.startup := rfl
@[simp] theorem State.leavePlayer_link (s : State) (d : Display) : (s.leavePlayer d).link = s.link := rfl
@[simp] theorem State.leavePlayer_regions (s : State) (d : Display) : (s.leavePlayer d).regions = s.regions := rfl
@[simp] theorem State.leavePlayer_roles (s : State) (d : Display) : (s.leavePlayer d).roles = s.roles := rfl
@[simp] theorem State.leavePlayer_arb (s : State) (d : Display) : (s.leavePlayer d).arb = s.arb := rfl
@[simp] theorem State.leavePlayer_taker (s : State) (d : Display) : (s.leavePlayer d).taker = s.taker := rfl
@[simp] theorem State.leavePlayer_rw (s : State) (d : Display) : (s.leavePlayer d).rw = s.rw := rfl
@[simp] theorem State.leavePlayer_store (s : State) (d : Display) : (s.leavePlayer d).store = s.store := rfl
@[simp] theorem State.leavePlayer_camera (s : State) (d : Display) : (s.leavePlayer d).camera = s.camera := rfl
@[simp] theorem State.leavePlayer_vehicle (s : State) (d : Display) : (s.leavePlayer d).vehicle = s.vehicle := rfl
@[simp] theorem State.leavePlayer_reverse (s : State) (d : Display) : (s.leavePlayer d).reverse = s.reverse := rfl
@[simp] theorem State.leavePlayer_park (s : State) (d : Display) : (s.leavePlayer d).park = s.park := rfl
@[simp] theorem State.leavePlayer_guide (s : State) (d : Display) : (s.leavePlayer d).guide = s.guide := rfl
@[simp] theorem State.leavePlayer_displays (s : State) (d : Display) : (s.leavePlayer d).displays = s.displays := rfl
@[simp] theorem State.leavePlayer_compositor (s : State) (d : Display) : (s.leavePlayer d).compositor = s.compositor := rfl

/-! ### State.deviceWrite -/

@[simp] theorem State.deviceWrite_time (s : State) (w : DeviceWrite) : (s.deviceWrite w).time = s.time := rfl
@[simp] theorem State.deviceWrite_pending (s : State) (w : DeviceWrite) : (s.deviceWrite w).pending = s.pending := rfl
@[simp] theorem State.deviceWrite_startup (s : State) (w : DeviceWrite) : (s.deviceWrite w).startup = s.startup := rfl
@[simp] theorem State.deviceWrite_link (s : State) (w : DeviceWrite) : (s.deviceWrite w).link = s.link := rfl
@[simp] theorem State.deviceWrite_regions (s : State) (w : DeviceWrite) : (s.deviceWrite w).regions = s.regions := rfl
@[simp] theorem State.deviceWrite_roles (s : State) (w : DeviceWrite) : (s.deviceWrite w).roles = s.roles := rfl
@[simp] theorem State.deviceWrite_arb (s : State) (w : DeviceWrite) : (s.deviceWrite w).arb = s.arb := rfl
@[simp] theorem State.deviceWrite_taker (s : State) (w : DeviceWrite) : (s.deviceWrite w).taker = s.taker := rfl
@[simp] theorem State.deviceWrite_rw (s : State) (w : DeviceWrite) : (s.deviceWrite w).rw = s.rw := rfl
@[simp] theorem State.deviceWrite_store (s : State) (w : DeviceWrite) : (s.deviceWrite w).store = s.store := rfl
@[simp] theorem State.deviceWrite_camera (s : State) (w : DeviceWrite) : (s.deviceWrite w).camera = s.camera := rfl
@[simp] theorem State.deviceWrite_vehicle (s : State) (w : DeviceWrite) : (s.deviceWrite w).vehicle = s.vehicle := rfl
@[simp] theorem State.deviceWrite_reverse (s : State) (w : DeviceWrite) : (s.deviceWrite w).reverse = s.reverse := rfl
@[simp] theorem State.deviceWrite_park (s : State) (w : DeviceWrite) : (s.deviceWrite w).park = s.park := rfl
@[simp] theorem State.deviceWrite_guide (s : State) (w : DeviceWrite) : (s.deviceWrite w).guide = s.guide := rfl
@[simp] theorem State.deviceWrite_displays (s : State) (w : DeviceWrite) : (s.deviceWrite w).displays = s.displays := rfl
@[simp] theorem State.deviceWrite_compositor (s : State) (w : DeviceWrite) : (s.deviceWrite w).compositor = s.compositor := rfl
@[simp] theorem State.deviceWrite_audio (s : State) (w : DeviceWrite) : (s.deviceWrite w).audio = s.audio := rfl

/-! ### State.startSignalTimer -/

@[simp] theorem State.startSignalTimer_time (s : State) : (s.startSignalTimer).time = s.time := rfl
@[simp] theorem State.startSignalTimer_pending (s : State) : (s.startSignalTimer).pending = s.pending := rfl
@[simp] theorem State.startSignalTimer_dram (s : State) : (s.startSignalTimer).dram = s.dram := rfl
@[simp] theorem State.startSignalTimer_startup (s : State) : (s.startSignalTimer).startup = s.startup := rfl
@[simp] theorem State.startSignalTimer_link (s : State) : (s.startSignalTimer).link = s.link := rfl
@[simp] theorem State.startSignalTimer_regions (s : State) : (s.startSignalTimer).regions = s.regions := rfl
@[simp] theorem State.startSignalTimer_roles (s : State) : (s.startSignalTimer).roles = s.roles := rfl
@[simp] theorem State.startSignalTimer_arb (s : State) : (s.startSignalTimer).arb = s.arb := rfl
@[simp] theorem State.startSignalTimer_taker (s : State) : (s.startSignalTimer).taker = s.taker := rfl
@[simp] theorem State.startSignalTimer_rw (s : State) : (s.startSignalTimer).rw = s.rw := rfl
@[simp] theorem State.startSignalTimer_store (s : State) : (s.startSignalTimer).store = s.store := rfl
@[simp] theorem State.startSignalTimer_vehicle (s : State) : (s.startSignalTimer).vehicle = s.vehicle := rfl
@[simp] theorem State.startSignalTimer_reverse (s : State) : (s.startSignalTimer).reverse = s.reverse := rfl
@[simp] theorem State.startSignalTimer_park (s : State) : (s.startSignalTimer).park = s.park := rfl
@[simp] theorem State.startSignalTimer_guide (s : State) : (s.startSignalTimer).guide = s.guide := rfl
@[simp] theorem State.startSignalTimer_displays (s : State) : (s.startSignalTimer).displays = s.displays := rfl
@[simp] theorem State.startSignalTimer_compositor (s : State) : (s.startSignalTimer).compositor = s.compositor := rfl
@[simp] theorem State.startSignalTimer_audio (s : State) : (s.startSignalTimer).audio = s.audio := rfl

/-! ### State.tick -/

@[simp] theorem State.tick_pending (s : State) : (s.tick).pending = s.pending := rfl
@[simp] theorem State.tick_dram (s : State) : (s.tick).dram = s.dram := rfl
@[simp] theorem State.tick_startup (s : State) : (s.tick).startup = s.startup := rfl
@[simp] theorem State.tick_link (s : State) : (s.tick).link = s.link := rfl
@[simp] theorem State.tick_regions (s : State) : (s.tick).regions = s.regions := rfl
@[simp] theorem State.tick_roles (s : State) : (s.tick).roles = s.roles := rfl
@[simp] theorem State.tick_arb (s : State) : (s.tick).arb = s.arb := rfl
@[simp] theorem State.tick_taker (s : State) : (s.tick).taker = s.taker := rfl
@[simp] theorem State.tick_rw (s : State) : (s.tick).rw = s.rw := rfl
@[simp] theorem State.tick_store (s : State) : (s.tick).store = s.store := rfl
@[simp] theorem State.tick_camera (s : State) : (s.tick).camera = s.camera := rfl
@[simp] theorem State.tick_vehicle (s : State) : (s.tick).vehicle = s.vehicle := rfl
@[simp] theorem State.tick_reverse (s : State) : (s.tick).reverse = s.reverse := rfl
@[simp] theorem State.tick_park (s : State) : (s.tick).park = s.park := rfl
@[simp] theorem State.tick_guide (s : State) : (s.tick).guide = s.guide := rfl
@[simp] theorem State.tick_displays (s : State) : (s.tick).displays = s.displays := rfl
@[simp] theorem State.tick_compositor (s : State) : (s.tick).compositor = s.compositor := rfl
@[simp] theorem State.tick_audio (s : State) : (s.tick).audio = s.audio := rfl

/-! ### State.clearFaults -/

@[simp] theorem State.clearFaults_time (s : State) (n : Nat) : (s.clearFaults n).time = s.time := rfl
@[simp] theorem State.clearFaults_pending (s : State) (n : Nat) : (s.clearFaults n).pending = s.pending := rfl
@[simp] theorem State.clearFaults_dram (s : State) (n : Nat) : (s.clearFaults n).dram = s.dram := rfl
@[simp] theorem State.clearFaults_startup (s : State) (n : Nat) : (s.clearFaults n).startup = s.startup := rfl
@[simp] theorem State.clearFaults_link (s : State) (n : Nat) : (s.clearFaults n).link = s.link := rfl
@[simp] theorem State.clearFaults_regions (s : State) (n : Nat) : (s.clearFaults n).regions = s.regions := rfl
@[simp] theorem State.clearFaults_roles (s : State) (n : Nat) : (s.clearFaults n).roles = s.roles := rfl
@[simp] theorem State.clearFaults_arb (s : State) (n : Nat) : (s.clearFaults n).arb = s.arb := rfl
@[simp] theorem State.clearFaults_taker (s : State) (n : Nat) : (s.clearFaults n).taker = s.taker := rfl
@[simp] theorem State.clearFaults_store (s : State) (n : Nat) : (s.clearFaults n).store = s.store := rfl
@[simp] theorem State.clearFaults_camera (s : State) (n : Nat) : (s.clearFaults n).camera = s.camera := rfl
@[simp] theorem State.clearFaults_vehicle (s : State) (n : Nat) : (s.clearFaults n).vehicle = s.vehicle := rfl
@[simp] theorem State.clearFaults_reverse (s : State) (n : Nat) : (s.clearFaults n).reverse = s.reverse := rfl
@[simp] theorem State.clearFaults_park (s : State) (n : Nat) : (s.clearFaults n).park = s.park := rfl
@[simp] theorem State.clearFaults_guide (s : State) (n : Nat) : (s.clearFaults n).guide = s.guide := rfl
@[simp] theorem State.clearFaults_displays (s : State) (n : Nat) : (s.clearFaults n).displays = s.displays := rfl
@[simp] theorem State.clearFaults_compositor (s : State) (n : Nat) : (s.clearFaults n).compositor = s.compositor := rfl
@[simp] theorem State.clearFaults_audio (s : State) (n : Nat) : (s.clearFaults n).audio = s.audio := rfl

/-! ### What the touched field becomes -/

@[simp] theorem State.present_queue (s : State) (a : Nat) (b : List Byte) (u : Bool) :
    (s.present a b u).rw = { s.rw with queue := s.rw.queue ++ [{ addr := a, bytes := b, bringUp := u }] } := rfl
@[simp] theorem State.tick_time (s : State) : s.tick.time = s.time + 1 := rfl
@[simp] theorem State.deviceWrite_dram (s : State) (w : DeviceWrite) :
    (s.deviceWrite w).dram = s.dram.writeBytes w.addr w.bytes := rfl

theorem PerDisplay.get_put_same {α : Type} (p : PerDisplay α) (d : Display) (v : α) : (p.put d v).get d = v := by
  cases d <;> rfl
theorem PerDisplay.get_put_other {α : Type} (p : PerDisplay α) {d e : Display} (v : α) (h : e ≠ d) :
    (p.put d v).get e = p.get e := by
  cases d <;> cases e <;> first | rfl | exact absurd rfl h
@[simp] theorem PerDisplay.get_put {α : Type} (p : PerDisplay α) (d e : Display) (v : α) :
    (p.put d v).get e = if e = d then v else p.get e := by
  cases d <;> cases e <;> rfl
theorem PerSignal.get_put_same {α : Type} (p : PerSignal α) (g : Signal) (v : α) : (p.put g v).get g = v := by
  cases g <;> rfl
@[simp] theorem PerSignal.get_put {α : Type} (p : PerSignal α) (g h : Signal) (v : α) :
    (p.put g v).get h = if h = g then v else p.get h := by
  cases g <;> cases h <;> rfl

@[simp] theorem State.updateDisplay_get (s : State) (d e : Display) (f : DisplayState → DisplayState) :
    (s.updateDisplay d f).displays.get e = if e = d then f (s.displays.get d) else s.displays.get e := by
  cases d <;> cases e <;> rfl
@[simp] theorem State.stack_setStack (s : State) (d e : Display) (st : List View) :
    (s.setStack d st).stack e = if e = d then st else s.stack e := by
  cases d <;> cases e <;> rfl
@[simp] theorem State.stream_updateStream (s : State) (d e : Display) (f : Stream → Stream) :
    (s.updateStream d f).audio.streams.get e = if e = d then f (s.audio.streams.get d) else s.audio.streams.get e := by
  cases d <;> cases e <;> rfl
@[simp] theorem State.chimes_updateChimes (s : State) (d e : Display) (f : PairChimes → PairChimes) :
    (s.updateChimes d f).audio.chimes.get e = if e = d then f (s.audio.chimes.get d) else s.audio.chimes.get e := by
  cases d <;> cases e <;> rfl

/-! ### Updates that change the report writer alone -/

/-- `t` differs from `s` in the report writer alone. -/
def RwOnly (s t : State) : Prop := t = { s with rw := t.rw }

theorem RwOnly.refl (s : State) : RwOnly s s := rfl
theorem RwOnly.of_rw (s : State) (w : ReportWriter) : RwOnly s { s with rw := w } := rfl
theorem RwOnly.trans {s t u : State} (h : RwOnly s t) (g : RwOnly t u) : RwOnly s u := by
  unfold RwOnly at *; rw [g, h]
theorem RwOnly.present (s : State) (a : Nat) (b : List Byte) (u : Bool) : RwOnly s (s.present a b u) := rfl

theorem State.placeReport_eq (s : State) (r : Report) : RwOnly s (s.placeReport r) := by
  unfold State.placeReport; split
  · exact .refl s
  · exact .of_rw s _
theorem State.post_eq (s : State) (r : Report) : RwOnly s (s.post r) := by
  unfold State.post; split
  · exact .refl s
  · split
    · exact s.placeReport_eq r
    · exact .of_rw s _
theorem State.raise_eq (s : State) (k : FaultKind) (n : Nat) : RwOnly s (s.raise k n) := by
  unfold State.raise; extract_lets; split
  · exact (RwOnly.of_rw s _).trans (State.post_eq _ _)
  · exact .of_rw s _
theorem State.statusNow_eq (s : State) (o : Nat) (b : List Byte) : RwOnly s (s.statusNow o b) := by
  unfold State.statusNow; split
  · exact .refl s
  · exact .present s _ _ _
theorem State.takeReportConsumer_eq (s : State) (v : BitVec 32) : RwOnly s (s.takeReportConsumer v) := by
  unfold State.takeReportConsumer; split
  · exact s.raise_eq _ _
  · split
    · exact s.raise_eq _ _
    · extract_lets; split
      · exact (RwOnly.of_rw s _).trans (State.placeReport_eq _ _)
      · exact .of_rw s _
theorem RwOnly.foldl {α : Type} (f : State → α → State) (h : ∀ s x, RwOnly s (f s x)) (xs : List α) (s : State) :
    RwOnly s (xs.foldl f s) := by
  induction xs generalizing s with
  | nil => exact .refl s
  | cons x xs ih => exact (h s x).trans (ih (f s x))
theorem State.setFaultMask_eq (s : State) (n : Nat) : RwOnly s (s.setFaultMask n) := by
  unfold State.setFaultMask
  refine (RwOnly.of_rw s _).trans (RwOnly.foldl _ (fun t k => ?_) _ _)
  split
  · exact t.post_eq _
  · exact .refl t
theorem State.presentAll_eq (s : State) (a : Nat) (b : List Byte) (u : Bool) : RwOnly s (s.presentAll a b u) :=
  RwOnly.foldl _ (fun t _ => .present t _ _ _) _ _
theorem State.fullRewrite_eq (s : State) (u : Bool) : RwOnly s (s.fullRewrite u) := by
  unfold State.fullRewrite; split
  · exact .refl s
  · exact (((RwOnly.present s _ _ _).trans (State.presentAll_eq _ _ _ _)).trans (.present _ _ _ _)).trans (.of_rw _ _)
theorem State.writeIdentity_eq (s : State) : RwOnly s s.writeIdentity := by
  unfold State.writeIdentity; split
  · exact .refl s
  · exact .present s _ _ _

/-! ### State.placeReport -/

@[simp] theorem State.placeReport_time (s : State) (r : Report) : (s.placeReport r).time = s.time := by
  rw [s.placeReport_eq r]
@[simp] theorem State.placeReport_pending (s : State) (r : Report) : (s.placeReport r).pending = s.pending := by
  rw [s.placeReport_eq r]
@[simp] theorem State.placeReport_dram (s : State) (r : Report) : (s.placeReport r).dram = s.dram := by
  rw [s.placeReport_eq r]
@[simp] theorem State.placeReport_startup (s : State) (r : Report) : (s.placeReport r).startup = s.startup := by
  rw [s.placeReport_eq r]
@[simp] theorem State.placeReport_link (s : State) (r : Report) : (s.placeReport r).link = s.link := by
  rw [s.placeReport_eq r]
@[simp] theorem State.placeReport_regions (s : State) (r : Report) : (s.placeReport r).regions = s.regions := by
  rw [s.placeReport_eq r]
@[simp] theorem State.placeReport_roles (s : State) (r : Report) : (s.placeReport r).roles = s.roles := by
  rw [s.placeReport_eq r]
@[simp] theorem State.placeReport_arb (s : State) (r : Report) : (s.placeReport r).arb = s.arb := by
  rw [s.placeReport_eq r]
@[simp] theorem State.placeReport_taker (s : State) (r : Report) : (s.placeReport r).taker = s.taker := by
  rw [s.placeReport_eq r]
@[simp] theorem State.placeReport_store (s : State) (r : Report) : (s.placeReport r).store = s.store := by
  rw [s.placeReport_eq r]
@[simp] theorem State.placeReport_camera (s : State) (r : Report) : (s.placeReport r).camera = s.camera := by
  rw [s.placeReport_eq r]
@[simp] theorem State.placeReport_vehicle (s : State) (r : Report) : (s.placeReport r).vehicle = s.vehicle := by
  rw [s.placeReport_eq r]
@[simp] theorem State.placeReport_reverse (s : State) (r : Report) : (s.placeReport r).reverse = s.reverse := by
  rw [s.placeReport_eq r]
@[simp] theorem State.placeReport_park (s : State) (r : Report) : (s.placeReport r).park = s.park := by
  rw [s.placeReport_eq r]
@[simp] theorem State.placeReport_guide (s : State) (r : Report) : (s.placeReport r).guide = s.guide := by
  rw [s.placeReport_eq r]
@[simp] theorem State.placeReport_displays (s : State) (r : Report) : (s.placeReport r).displays = s.displays := by
  rw [s.placeReport_eq r]
@[simp] theorem State.placeReport_compositor (s : State) (r : Report) : (s.placeReport r).compositor = s.compositor := by
  rw [s.placeReport_eq r]
@[simp] theorem State.placeReport_audio (s : State) (r : Report) : (s.placeReport r).audio = s.audio := by
  rw [s.placeReport_eq r]

/-! ### State.post -/

@[simp] theorem State.post_time (s : State) (r : Report) : (s.post r).time = s.time := by
  rw [s.post_eq r]
@[simp] theorem State.post_pending (s : State) (r : Report) : (s.post r).pending = s.pending := by
  rw [s.post_eq r]
@[simp] theorem State.post_dram (s : State) (r : Report) : (s.post r).dram = s.dram := by
  rw [s.post_eq r]
@[simp] theorem State.post_startup (s : State) (r : Report) : (s.post r).startup = s.startup := by
  rw [s.post_eq r]
@[simp] theorem State.post_link (s : State) (r : Report) : (s.post r).link = s.link := by
  rw [s.post_eq r]
@[simp] theorem State.post_regions (s : State) (r : Report) : (s.post r).regions = s.regions := by
  rw [s.post_eq r]
@[simp] theorem State.post_roles (s : State) (r : Report) : (s.post r).roles = s.roles := by
  rw [s.post_eq r]
@[simp] theorem State.post_arb (s : State) (r : Report) : (s.post r).arb = s.arb := by
  rw [s.post_eq r]
@[simp] theorem State.post_taker (s : State) (r : Report) : (s.post r).taker = s.taker := by
  rw [s.post_eq r]
@[simp] theorem State.post_store (s : State) (r : Report) : (s.post r).store = s.store := by
  rw [s.post_eq r]
@[simp] theorem State.post_camera (s : State) (r : Report) : (s.post r).camera = s.camera := by
  rw [s.post_eq r]
@[simp] theorem State.post_vehicle (s : State) (r : Report) : (s.post r).vehicle = s.vehicle := by
  rw [s.post_eq r]
@[simp] theorem State.post_reverse (s : State) (r : Report) : (s.post r).reverse = s.reverse := by
  rw [s.post_eq r]
@[simp] theorem State.post_park (s : State) (r : Report) : (s.post r).park = s.park := by
  rw [s.post_eq r]
@[simp] theorem State.post_guide (s : State) (r : Report) : (s.post r).guide = s.guide := by
  rw [s.post_eq r]
@[simp] theorem State.post_displays (s : State) (r : Report) : (s.post r).displays = s.displays := by
  rw [s.post_eq r]
@[simp] theorem State.post_compositor (s : State) (r : Report) : (s.post r).compositor = s.compositor := by
  rw [s.post_eq r]
@[simp] theorem State.post_audio (s : State) (r : Report) : (s.post r).audio = s.audio := by
  rw [s.post_eq r]

/-! ### State.raise -/

@[simp] theorem State.raise_time (s : State) (k : FaultKind) (n : Nat) : (s.raise k n).time = s.time := by
  rw [s.raise_eq k n]
@[simp] theorem State.raise_pending (s : State) (k : FaultKind) (n : Nat) : (s.raise k n).pending = s.pending := by
  rw [s.raise_eq k n]
@[simp] theorem State.raise_dram (s : State) (k : FaultKind) (n : Nat) : (s.raise k n).dram = s.dram := by
  rw [s.raise_eq k n]
@[simp] theorem State.raise_startup (s : State) (k : FaultKind) (n : Nat) : (s.raise k n).startup = s.startup := by
  rw [s.raise_eq k n]
@[simp] theorem State.raise_link (s : State) (k : FaultKind) (n : Nat) : (s.raise k n).link = s.link := by
  rw [s.raise_eq k n]
@[simp] theorem State.raise_regions (s : State) (k : FaultKind) (n : Nat) : (s.raise k n).regions = s.regions := by
  rw [s.raise_eq k n]
@[simp] theorem State.raise_roles (s : State) (k : FaultKind) (n : Nat) : (s.raise k n).roles = s.roles := by
  rw [s.raise_eq k n]
@[simp] theorem State.raise_arb (s : State) (k : FaultKind) (n : Nat) : (s.raise k n).arb = s.arb := by
  rw [s.raise_eq k n]
@[simp] theorem State.raise_taker (s : State) (k : FaultKind) (n : Nat) : (s.raise k n).taker = s.taker := by
  rw [s.raise_eq k n]
@[simp] theorem State.raise_store (s : State) (k : FaultKind) (n : Nat) : (s.raise k n).store = s.store := by
  rw [s.raise_eq k n]
@[simp] theorem State.raise_camera (s : State) (k : FaultKind) (n : Nat) : (s.raise k n).camera = s.camera := by
  rw [s.raise_eq k n]
@[simp] theorem State.raise_vehicle (s : State) (k : FaultKind) (n : Nat) : (s.raise k n).vehicle = s.vehicle := by
  rw [s.raise_eq k n]
@[simp] theorem State.raise_reverse (s : State) (k : FaultKind) (n : Nat) : (s.raise k n).reverse = s.reverse := by
  rw [s.raise_eq k n]
@[simp] theorem State.raise_park (s : State) (k : FaultKind) (n : Nat) : (s.raise k n).park = s.park := by
  rw [s.raise_eq k n]
@[simp] theorem State.raise_guide (s : State) (k : FaultKind) (n : Nat) : (s.raise k n).guide = s.guide := by
  rw [s.raise_eq k n]
@[simp] theorem State.raise_displays (s : State) (k : FaultKind) (n : Nat) : (s.raise k n).displays = s.displays := by
  rw [s.raise_eq k n]
@[simp] theorem State.raise_compositor (s : State) (k : FaultKind) (n : Nat) : (s.raise k n).compositor = s.compositor := by
  rw [s.raise_eq k n]
@[simp] theorem State.raise_audio (s : State) (k : FaultKind) (n : Nat) : (s.raise k n).audio = s.audio := by
  rw [s.raise_eq k n]

/-! ### State.statusNow -/

@[simp] theorem State.statusNow_time (s : State) (o : Nat) (b : List Byte) : (s.statusNow o b).time = s.time := by
  rw [s.statusNow_eq o b]
@[simp] theorem State.statusNow_pending (s : State) (o : Nat) (b : List Byte) : (s.statusNow o b).pending = s.pending := by
  rw [s.statusNow_eq o b]
@[simp] theorem State.statusNow_dram (s : State) (o : Nat) (b : List Byte) : (s.statusNow o b).dram = s.dram := by
  rw [s.statusNow_eq o b]
@[simp] theorem State.statusNow_startup (s : State) (o : Nat) (b : List Byte) : (s.statusNow o b).startup = s.startup := by
  rw [s.statusNow_eq o b]
@[simp] theorem State.statusNow_link (s : State) (o : Nat) (b : List Byte) : (s.statusNow o b).link = s.link := by
  rw [s.statusNow_eq o b]
@[simp] theorem State.statusNow_regions (s : State) (o : Nat) (b : List Byte) : (s.statusNow o b).regions = s.regions := by
  rw [s.statusNow_eq o b]
@[simp] theorem State.statusNow_roles (s : State) (o : Nat) (b : List Byte) : (s.statusNow o b).roles = s.roles := by
  rw [s.statusNow_eq o b]
@[simp] theorem State.statusNow_arb (s : State) (o : Nat) (b : List Byte) : (s.statusNow o b).arb = s.arb := by
  rw [s.statusNow_eq o b]
@[simp] theorem State.statusNow_taker (s : State) (o : Nat) (b : List Byte) : (s.statusNow o b).taker = s.taker := by
  rw [s.statusNow_eq o b]
@[simp] theorem State.statusNow_store (s : State) (o : Nat) (b : List Byte) : (s.statusNow o b).store = s.store := by
  rw [s.statusNow_eq o b]
@[simp] theorem State.statusNow_camera (s : State) (o : Nat) (b : List Byte) : (s.statusNow o b).camera = s.camera := by
  rw [s.statusNow_eq o b]
@[simp] theorem State.statusNow_vehicle (s : State) (o : Nat) (b : List Byte) : (s.statusNow o b).vehicle = s.vehicle := by
  rw [s.statusNow_eq o b]
@[simp] theorem State.statusNow_reverse (s : State) (o : Nat) (b : List Byte) : (s.statusNow o b).reverse = s.reverse := by
  rw [s.statusNow_eq o b]
@[simp] theorem State.statusNow_park (s : State) (o : Nat) (b : List Byte) : (s.statusNow o b).park = s.park := by
  rw [s.statusNow_eq o b]
@[simp] theorem State.statusNow_guide (s : State) (o : Nat) (b : List Byte) : (s.statusNow o b).guide = s.guide := by
  rw [s.statusNow_eq o b]
@[simp] theorem State.statusNow_displays (s : State) (o : Nat) (b : List Byte) : (s.statusNow o b).displays = s.displays := by
  rw [s.statusNow_eq o b]
@[simp] theorem State.statusNow_compositor (s : State) (o : Nat) (b : List Byte) : (s.statusNow o b).compositor = s.compositor := by
  rw [s.statusNow_eq o b]
@[simp] theorem State.statusNow_audio (s : State) (o : Nat) (b : List Byte) : (s.statusNow o b).audio = s.audio := by
  rw [s.statusNow_eq o b]

/-! ### State.takeReportConsumer -/

@[simp] theorem State.takeReportConsumer_time (s : State) (v : BitVec 32) : (s.takeReportConsumer v).time = s.time := by
  rw [s.takeReportConsumer_eq v]
@[simp] theorem State.takeReportConsumer_pending (s : State) (v : BitVec 32) : (s.takeReportConsumer v).pending = s.pending := by
  rw [s.takeReportConsumer_eq v]
@[simp] theorem State.takeReportConsumer_dram (s : State) (v : BitVec 32) : (s.takeReportConsumer v).dram = s.dram := by
  rw [s.takeReportConsumer_eq v]
@[simp] theorem State.takeReportConsumer_startup (s : State) (v : BitVec 32) : (s.takeReportConsumer v).startup = s.startup := by
  rw [s.takeReportConsumer_eq v]
@[simp] theorem State.takeReportConsumer_link (s : State) (v : BitVec 32) : (s.takeReportConsumer v).link = s.link := by
  rw [s.takeReportConsumer_eq v]
@[simp] theorem State.takeReportConsumer_regions (s : State) (v : BitVec 32) : (s.takeReportConsumer v).regions = s.regions := by
  rw [s.takeReportConsumer_eq v]
@[simp] theorem State.takeReportConsumer_roles (s : State) (v : BitVec 32) : (s.takeReportConsumer v).roles = s.roles := by
  rw [s.takeReportConsumer_eq v]
@[simp] theorem State.takeReportConsumer_arb (s : State) (v : BitVec 32) : (s.takeReportConsumer v).arb = s.arb := by
  rw [s.takeReportConsumer_eq v]
@[simp] theorem State.takeReportConsumer_taker (s : State) (v : BitVec 32) : (s.takeReportConsumer v).taker = s.taker := by
  rw [s.takeReportConsumer_eq v]
@[simp] theorem State.takeReportConsumer_store (s : State) (v : BitVec 32) : (s.takeReportConsumer v).store = s.store := by
  rw [s.takeReportConsumer_eq v]
@[simp] theorem State.takeReportConsumer_camera (s : State) (v : BitVec 32) : (s.takeReportConsumer v).camera = s.camera := by
  rw [s.takeReportConsumer_eq v]
@[simp] theorem State.takeReportConsumer_vehicle (s : State) (v : BitVec 32) : (s.takeReportConsumer v).vehicle = s.vehicle := by
  rw [s.takeReportConsumer_eq v]
@[simp] theorem State.takeReportConsumer_reverse (s : State) (v : BitVec 32) : (s.takeReportConsumer v).reverse = s.reverse := by
  rw [s.takeReportConsumer_eq v]
@[simp] theorem State.takeReportConsumer_park (s : State) (v : BitVec 32) : (s.takeReportConsumer v).park = s.park := by
  rw [s.takeReportConsumer_eq v]
@[simp] theorem State.takeReportConsumer_guide (s : State) (v : BitVec 32) : (s.takeReportConsumer v).guide = s.guide := by
  rw [s.takeReportConsumer_eq v]
@[simp] theorem State.takeReportConsumer_displays (s : State) (v : BitVec 32) : (s.takeReportConsumer v).displays = s.displays := by
  rw [s.takeReportConsumer_eq v]
@[simp] theorem State.takeReportConsumer_compositor (s : State) (v : BitVec 32) : (s.takeReportConsumer v).compositor = s.compositor := by
  rw [s.takeReportConsumer_eq v]
@[simp] theorem State.takeReportConsumer_audio (s : State) (v : BitVec 32) : (s.takeReportConsumer v).audio = s.audio := by
  rw [s.takeReportConsumer_eq v]

/-! ### State.setFaultMask -/

@[simp] theorem State.setFaultMask_time (s : State) (n : Nat) : (s.setFaultMask n).time = s.time := by
  rw [s.setFaultMask_eq n]
@[simp] theorem State.setFaultMask_pending (s : State) (n : Nat) : (s.setFaultMask n).pending = s.pending := by
  rw [s.setFaultMask_eq n]
@[simp] theorem State.setFaultMask_dram (s : State) (n : Nat) : (s.setFaultMask n).dram = s.dram := by
  rw [s.setFaultMask_eq n]
@[simp] theorem State.setFaultMask_startup (s : State) (n : Nat) : (s.setFaultMask n).startup = s.startup := by
  rw [s.setFaultMask_eq n]
@[simp] theorem State.setFaultMask_link (s : State) (n : Nat) : (s.setFaultMask n).link = s.link := by
  rw [s.setFaultMask_eq n]
@[simp] theorem State.setFaultMask_regions (s : State) (n : Nat) : (s.setFaultMask n).regions = s.regions := by
  rw [s.setFaultMask_eq n]
@[simp] theorem State.setFaultMask_roles (s : State) (n : Nat) : (s.setFaultMask n).roles = s.roles := by
  rw [s.setFaultMask_eq n]
@[simp] theorem State.setFaultMask_arb (s : State) (n : Nat) : (s.setFaultMask n).arb = s.arb := by
  rw [s.setFaultMask_eq n]
@[simp] theorem State.setFaultMask_taker (s : State) (n : Nat) : (s.setFaultMask n).taker = s.taker := by
  rw [s.setFaultMask_eq n]
@[simp] theorem State.setFaultMask_store (s : State) (n : Nat) : (s.setFaultMask n).store = s.store := by
  rw [s.setFaultMask_eq n]
@[simp] theorem State.setFaultMask_camera (s : State) (n : Nat) : (s.setFaultMask n).camera = s.camera := by
  rw [s.setFaultMask_eq n]
@[simp] theorem State.setFaultMask_vehicle (s : State) (n : Nat) : (s.setFaultMask n).vehicle = s.vehicle := by
  rw [s.setFaultMask_eq n]
@[simp] theorem State.setFaultMask_reverse (s : State) (n : Nat) : (s.setFaultMask n).reverse = s.reverse := by
  rw [s.setFaultMask_eq n]
@[simp] theorem State.setFaultMask_park (s : State) (n : Nat) : (s.setFaultMask n).park = s.park := by
  rw [s.setFaultMask_eq n]
@[simp] theorem State.setFaultMask_guide (s : State) (n : Nat) : (s.setFaultMask n).guide = s.guide := by
  rw [s.setFaultMask_eq n]
@[simp] theorem State.setFaultMask_displays (s : State) (n : Nat) : (s.setFaultMask n).displays = s.displays := by
  rw [s.setFaultMask_eq n]
@[simp] theorem State.setFaultMask_compositor (s : State) (n : Nat) : (s.setFaultMask n).compositor = s.compositor := by
  rw [s.setFaultMask_eq n]
@[simp] theorem State.setFaultMask_audio (s : State) (n : Nat) : (s.setFaultMask n).audio = s.audio := by
  rw [s.setFaultMask_eq n]

/-! ### State.presentAll -/

@[simp] theorem State.presentAll_time (s : State) (a : Nat) (b : List Byte) (u : Bool) : (s.presentAll a b u).time = s.time := by
  rw [s.presentAll_eq a b u]
@[simp] theorem State.presentAll_pending (s : State) (a : Nat) (b : List Byte) (u : Bool) : (s.presentAll a b u).pending = s.pending := by
  rw [s.presentAll_eq a b u]
@[simp] theorem State.presentAll_dram (s : State) (a : Nat) (b : List Byte) (u : Bool) : (s.presentAll a b u).dram = s.dram := by
  rw [s.presentAll_eq a b u]
@[simp] theorem State.presentAll_startup (s : State) (a : Nat) (b : List Byte) (u : Bool) : (s.presentAll a b u).startup = s.startup := by
  rw [s.presentAll_eq a b u]
@[simp] theorem State.presentAll_link (s : State) (a : Nat) (b : List Byte) (u : Bool) : (s.presentAll a b u).link = s.link := by
  rw [s.presentAll_eq a b u]
@[simp] theorem State.presentAll_regions (s : State) (a : Nat) (b : List Byte) (u : Bool) : (s.presentAll a b u).regions = s.regions := by
  rw [s.presentAll_eq a b u]
@[simp] theorem State.presentAll_roles (s : State) (a : Nat) (b : List Byte) (u : Bool) : (s.presentAll a b u).roles = s.roles := by
  rw [s.presentAll_eq a b u]
@[simp] theorem State.presentAll_arb (s : State) (a : Nat) (b : List Byte) (u : Bool) : (s.presentAll a b u).arb = s.arb := by
  rw [s.presentAll_eq a b u]
@[simp] theorem State.presentAll_taker (s : State) (a : Nat) (b : List Byte) (u : Bool) : (s.presentAll a b u).taker = s.taker := by
  rw [s.presentAll_eq a b u]
@[simp] theorem State.presentAll_store (s : State) (a : Nat) (b : List Byte) (u : Bool) : (s.presentAll a b u).store = s.store := by
  rw [s.presentAll_eq a b u]
@[simp] theorem State.presentAll_camera (s : State) (a : Nat) (b : List Byte) (u : Bool) : (s.presentAll a b u).camera = s.camera := by
  rw [s.presentAll_eq a b u]
@[simp] theorem State.presentAll_vehicle (s : State) (a : Nat) (b : List Byte) (u : Bool) : (s.presentAll a b u).vehicle = s.vehicle := by
  rw [s.presentAll_eq a b u]
@[simp] theorem State.presentAll_reverse (s : State) (a : Nat) (b : List Byte) (u : Bool) : (s.presentAll a b u).reverse = s.reverse := by
  rw [s.presentAll_eq a b u]
@[simp] theorem State.presentAll_park (s : State) (a : Nat) (b : List Byte) (u : Bool) : (s.presentAll a b u).park = s.park := by
  rw [s.presentAll_eq a b u]
@[simp] theorem State.presentAll_guide (s : State) (a : Nat) (b : List Byte) (u : Bool) : (s.presentAll a b u).guide = s.guide := by
  rw [s.presentAll_eq a b u]
@[simp] theorem State.presentAll_displays (s : State) (a : Nat) (b : List Byte) (u : Bool) : (s.presentAll a b u).displays = s.displays := by
  rw [s.presentAll_eq a b u]
@[simp] theorem State.presentAll_compositor (s : State) (a : Nat) (b : List Byte) (u : Bool) : (s.presentAll a b u).compositor = s.compositor := by
  rw [s.presentAll_eq a b u]
@[simp] theorem State.presentAll_audio (s : State) (a : Nat) (b : List Byte) (u : Bool) : (s.presentAll a b u).audio = s.audio := by
  rw [s.presentAll_eq a b u]

/-! ### State.fullRewrite -/

@[simp] theorem State.fullRewrite_time (s : State) (u : Bool) : (s.fullRewrite u).time = s.time := by
  rw [s.fullRewrite_eq u]
@[simp] theorem State.fullRewrite_pending (s : State) (u : Bool) : (s.fullRewrite u).pending = s.pending := by
  rw [s.fullRewrite_eq u]
@[simp] theorem State.fullRewrite_dram (s : State) (u : Bool) : (s.fullRewrite u).dram = s.dram := by
  rw [s.fullRewrite_eq u]
@[simp] theorem State.fullRewrite_startup (s : State) (u : Bool) : (s.fullRewrite u).startup = s.startup := by
  rw [s.fullRewrite_eq u]
@[simp] theorem State.fullRewrite_link (s : State) (u : Bool) : (s.fullRewrite u).link = s.link := by
  rw [s.fullRewrite_eq u]
@[simp] theorem State.fullRewrite_regions (s : State) (u : Bool) : (s.fullRewrite u).regions = s.regions := by
  rw [s.fullRewrite_eq u]
@[simp] theorem State.fullRewrite_roles (s : State) (u : Bool) : (s.fullRewrite u).roles = s.roles := by
  rw [s.fullRewrite_eq u]
@[simp] theorem State.fullRewrite_arb (s : State) (u : Bool) : (s.fullRewrite u).arb = s.arb := by
  rw [s.fullRewrite_eq u]
@[simp] theorem State.fullRewrite_taker (s : State) (u : Bool) : (s.fullRewrite u).taker = s.taker := by
  rw [s.fullRewrite_eq u]
@[simp] theorem State.fullRewrite_store (s : State) (u : Bool) : (s.fullRewrite u).store = s.store := by
  rw [s.fullRewrite_eq u]
@[simp] theorem State.fullRewrite_camera (s : State) (u : Bool) : (s.fullRewrite u).camera = s.camera := by
  rw [s.fullRewrite_eq u]
@[simp] theorem State.fullRewrite_vehicle (s : State) (u : Bool) : (s.fullRewrite u).vehicle = s.vehicle := by
  rw [s.fullRewrite_eq u]
@[simp] theorem State.fullRewrite_reverse (s : State) (u : Bool) : (s.fullRewrite u).reverse = s.reverse := by
  rw [s.fullRewrite_eq u]
@[simp] theorem State.fullRewrite_park (s : State) (u : Bool) : (s.fullRewrite u).park = s.park := by
  rw [s.fullRewrite_eq u]
@[simp] theorem State.fullRewrite_guide (s : State) (u : Bool) : (s.fullRewrite u).guide = s.guide := by
  rw [s.fullRewrite_eq u]
@[simp] theorem State.fullRewrite_displays (s : State) (u : Bool) : (s.fullRewrite u).displays = s.displays := by
  rw [s.fullRewrite_eq u]
@[simp] theorem State.fullRewrite_compositor (s : State) (u : Bool) : (s.fullRewrite u).compositor = s.compositor := by
  rw [s.fullRewrite_eq u]
@[simp] theorem State.fullRewrite_audio (s : State) (u : Bool) : (s.fullRewrite u).audio = s.audio := by
  rw [s.fullRewrite_eq u]

/-! ### State.writeIdentity -/

@[simp] theorem State.writeIdentity_time (s : State) : (s.writeIdentity).time = s.time := by
  rw [s.writeIdentity_eq]
@[simp] theorem State.writeIdentity_pending (s : State) : (s.writeIdentity).pending = s.pending := by
  rw [s.writeIdentity_eq]
@[simp] theorem State.writeIdentity_dram (s : State) : (s.writeIdentity).dram = s.dram := by
  rw [s.writeIdentity_eq]
@[simp] theorem State.writeIdentity_startup (s : State) : (s.writeIdentity).startup = s.startup := by
  rw [s.writeIdentity_eq]
@[simp] theorem State.writeIdentity_link (s : State) : (s.writeIdentity).link = s.link := by
  rw [s.writeIdentity_eq]
@[simp] theorem State.writeIdentity_regions (s : State) : (s.writeIdentity).regions = s.regions := by
  rw [s.writeIdentity_eq]
@[simp] theorem State.writeIdentity_roles (s : State) : (s.writeIdentity).roles = s.roles := by
  rw [s.writeIdentity_eq]
@[simp] theorem State.writeIdentity_arb (s : State) : (s.writeIdentity).arb = s.arb := by
  rw [s.writeIdentity_eq]
@[simp] theorem State.writeIdentity_taker (s : State) : (s.writeIdentity).taker = s.taker := by
  rw [s.writeIdentity_eq]
@[simp] theorem State.writeIdentity_store (s : State) : (s.writeIdentity).store = s.store := by
  rw [s.writeIdentity_eq]
@[simp] theorem State.writeIdentity_camera (s : State) : (s.writeIdentity).camera = s.camera := by
  rw [s.writeIdentity_eq]
@[simp] theorem State.writeIdentity_vehicle (s : State) : (s.writeIdentity).vehicle = s.vehicle := by
  rw [s.writeIdentity_eq]
@[simp] theorem State.writeIdentity_reverse (s : State) : (s.writeIdentity).reverse = s.reverse := by
  rw [s.writeIdentity_eq]
@[simp] theorem State.writeIdentity_park (s : State) : (s.writeIdentity).park = s.park := by
  rw [s.writeIdentity_eq]
@[simp] theorem State.writeIdentity_guide (s : State) : (s.writeIdentity).guide = s.guide := by
  rw [s.writeIdentity_eq]
@[simp] theorem State.writeIdentity_displays (s : State) : (s.writeIdentity).displays = s.displays := by
  rw [s.writeIdentity_eq]
@[simp] theorem State.writeIdentity_compositor (s : State) : (s.writeIdentity).compositor = s.compositor := by
  rw [s.writeIdentity_eq]
@[simp] theorem State.writeIdentity_audio (s : State) : (s.writeIdentity).audio = s.audio := by
  rw [s.writeIdentity_eq]

/-! ### The store at the close of the load -/

/-- With no staging the close leaves the store as it is. -/
theorem Store.entersIdle_heldByLoad_none (st : Store) (now : Time) (h : st.staging = none) :
    st.heldByLoad.entersIdle now = st := by
  simp [Store.heldByLoad, Store.entersIdle, h]

/-- A staging accepted within the close, with no operation in progress, starts when the store enters IDLE. -/
theorem Store.entersIdle_heldByLoad_some (st : Store) (now : Time) (g : Staging) (h : st.staging = some g) (ho : st.op = none) :
    st.heldByLoad.entersIdle now = { st with state := .reading, staging := some { g with phase := .running now } } := by
  simp [Store.heldByLoad, Store.entersIdle, h, ho]

/-- While the load holds a staging, the store state reads IDLE. -/
theorem Store.heldByLoad_state (st : Store) (g : Staging) (h : st.staging = some g) (ho : st.op = none) :
    st.heldByLoad.state = .idle := by
  simp [Store.heldByLoad, h, ho]

end Sys2Proof.Machine
end

