-- ==== Sys2Proof/Laws/Frames.lean ====
section
/-! SUPPORT. For each shared operation, once, the parts of the state it can change. -/

namespace Sys2Proof.Machine

theorem Within.refl (ps : List Part) (s : State) : Within ps s s := fun p _ => by cases p <;> rfl

theorem Part.same_trans {s t u : State} {p : Part} (h : p.same s t) (g : p.same t u) : p.same s u := by
  cases p <;> exact Eq.trans g h

theorem Within.trans {ps : List Part} {s t u : State} (h : Within ps s t) (g : Within ps t u) : Within ps s u :=
  fun p hp => Part.same_trans (h p hp) (g p hp)

/-- Fewer parts changed is also within more parts. -/
theorem Within.mono {ps qs : List Part} {s t : State} (h : Within ps s t) (hs : ∀ p ∈ ps, p ∈ qs) : Within qs s t :=
  fun p hp => h p fun hm => hp (hs p hm)

theorem Within.of_rwOnly {s t : State} (h : RwOnly s t) : Within [.rw] s t := fun p hp => by
  unfold RwOnly at h
  rw [h]
  cases p <;> first | rfl | simp at hp

theorem Within.foldl {α : Type} {ps : List Part} {f : State → α → State} (h : ∀ s x, Within ps s (f s x)) (xs : List α)
    (s : State) : Within ps s (xs.foldl f s) := by
  induction xs generalizing s with
  | nil => exact .refl ps s
  | cons x xs ih => exact (h s x).trans (ih (f s x))

/-- A part that is not among those changed. -/
theorem Within.dram_eq {ps : List Part} {s t : State} (h : Within ps s t) (hp : .dram ∉ ps) : t.dram = s.dram := h .dram hp
theorem Within.time_eq {ps : List Part} {s t : State} (h : Within ps s t) (hp : .time ∉ ps) : t.time = s.time := h .time hp

/-! ### Single updates -/

theorem within_rw (s : State) (w : ReportWriter) : Within [.rw] s { s with rw := w } := fun p hp => by
  cases p <;> first | rfl | simp at hp
theorem within_store (s : State) (v : Store) : Within [.store] s { s with store := v } := fun p hp => by
  cases p <;> first | rfl | simp at hp
theorem within_audio (s : State) (v : Audio) : Within [.audio] s { s with audio := v } := fun p hp => by
  cases p <;> first | rfl | simp at hp
theorem within_regions (s : State) (v : List Region) : Within [.regions] s { s with regions := v } := fun p hp => by
  cases p <;> first | rfl | simp at hp
theorem within_displays (s : State) (v : PerDisplay DisplayState) : Within [.displays] s { s with displays := v } :=
  fun p hp => by cases p <;> first | rfl | simp at hp
theorem within_camera (s : State) (v : Camera) : Within [.camera] s { s with camera := v } := fun p hp => by
  cases p <;> first | rfl | simp at hp
theorem within_reverse (s : State) (v : Reverse) : Within [.reverse] s { s with reverse := v } := fun p hp => by
  cases p <;> first | rfl | simp at hp
theorem within_park (s : State) (v : Park) : Within [.park] s { s with park := v } := fun p hp => by
  cases p <;> first | rfl | simp at hp
theorem within_guide (s : State) (v : Guide) : Within [.guide] s { s with guide := v } := fun p hp => by
  cases p <;> first | rfl | simp at hp
theorem within_vehicle (s : State) (v : Vehicle) : Within [.vehicle] s { s with vehicle := v } := fun p hp => by
  cases p <;> first | rfl | simp at hp
theorem within_compositor (s : State) (v : Compositor) : Within [.compositor] s { s with compositor := v } := fun p hp => by
  cases p <;> first | rfl | simp at hp
theorem within_link (s : State) (v : LinkPort) : Within [.link] s { s with link := v } := fun p hp => by
  cases p <;> first | rfl | simp at hp
theorem within_taker (s : State) (v : Taker) : Within [.taker] s { s with taker := v } := fun p hp => by
  cases p <;> first | rfl | simp at hp

/-! ### Reports, faults and status words: the report writer -/

theorem State.post_within (s : State) (r : Report) : Within [.rw] s (s.post r) := .of_rwOnly (s.post_eq r)
theorem State.raise_within (s : State) (k : FaultKind) (n : Nat) : Within [.rw] s (s.raise k n) := .of_rwOnly (s.raise_eq k n)
theorem State.statusNow_within (s : State) (o : Nat) (b : List Byte) : Within [.rw] s (s.statusNow o b) :=
  .of_rwOnly (s.statusNow_eq o b)
theorem State.fullRewrite_within (s : State) (u : Bool) : Within [.rw] s (s.fullRewrite u) := .of_rwOnly (s.fullRewrite_eq u)

/-! ### The store controller: store, report writer, and the staging buffer's content -/

theorem State.invalidateStaged_within (s : State) (b : Nat) : Within [.audio] s (s.invalidateStaged b) := by
  unfold State.invalidateStaged
  split
  · exact .refl _ s
  · split
    · exact .refl _ s
    · split
      · exact within_audio s _
      · exact .refl _ s

theorem State.completeStore_within (s : State) (r : StoreRequest) (c : Code) :
    Within [.store, .rw] s (s.completeStore r c) := by
  unfold State.completeStore
  extract_lets st s1
  exact ((within_store s _).mono (by decide)).trans
    ((((State.statusNow_within s1 _ _).trans (State.statusNow_within _ _ _)).trans (State.post_within _ _)).mono (by decide))

theorem State.startStore_within (s : State) (r : StoreRequest) : Within [.store, .rw, .audio] s (s.startStore r).1 := by
  unfold State.startStore
  split
  · exact (within_store s _).mono (by decide)
  · rename_i offset _ _ _
    extract_lets reads st s1
    have h : Within [.store] s { s1 with store := s1.store.setStatus (blockOf offset) .incomplete } :=
      (within_store s _).trans (within_store s1 _)
    exact (h.mono (by decide)).trans ((State.invalidateStaged_within _ _).mono (by decide))
  · rename_i block _
    extract_lets st s1
    have h : Within [.store] s { s1 with store := s1.store.setStatus block .incomplete } :=
      (within_store s _).trans (within_store s1 _)
    exact (h.mono (by decide)).trans ((State.invalidateStaged_within _ _).mono (by decide))
  · split
    · exact (s.completeStore_within r _).mono (by decide)
    · exact (within_store s _).mono (by decide)

theorem State.startQueued_within (q : List StoreRequest) (s : State) :
    Within [.store, .rw, .audio] s (State.startQueued q s) := by
  induction q generalizing s with
  | nil => exact (within_store s _).mono (by decide)
  | cons r rest ih =>
    have h : Within [.store, .rw, .audio] s ({ s with store.queue := rest }.startStore r).1 :=
      ((within_store s _).mono (by decide)).trans (State.startStore_within _ _)
    unfold State.startQueued
    split <;> rename_i heq
    · rw [heq] at h; exact h.trans (ih _)
    · rw [heq] at h; exact h

theorem State.continueStore_within (s : State) : Within [.store, .rw, .audio] s s.continueStore := by
  unfold State.continueStore
  split
  · exact (within_store s _).mono (by decide)
  · exact State.startQueued_within _ s

theorem State.placeStore_within (s : State) (r : StoreRequest) : Within [.store, .rw, .audio] s (s.placeStore r) := by
  unfold State.placeStore
  split
  · exact State.startQueued_within _ s
  · exact (within_store s _).mono (by decide)

theorem State.finishStore_within (s : State) (r : StoreRequest) (c : Code) :
    Within [.store, .rw, .audio] s (s.finishStore r c) :=
  ((s.completeStore_within r c).mono (by decide)).trans (State.continueStore_within _)

theorem State.acceptStaging_within (s : State) (c o l : Nat) : Within [.store] s (s.acceptStaging c o l) := by
  unfold State.acceptStaging
  extract_lets w
  split
  · exact within_store s _
  · exact within_store s _
  · split
    · split <;> exact within_store s _
    · exact within_store s _
  · split
    · split <;> exact within_store s _
    · exact within_store s _
  · exact within_store s _
  · exact within_store s _

/-! ### Chimes: audio, store and report writer -/

theorem State.unstageableAnswer_within (s : State) (d : Display) (c : Chime) (k : Clip) :
    Within [.audio, .rw] s (s.unstageableAnswer d c k) := by
  unfold State.unstageableAnswer
  extract_lets s1
  split
  · exact ((s.raise_within _ _).mono (by decide)).trans ((within_audio s1 _).mono (by decide))
  · exact ((s.raise_within _ _).mono (by decide)).trans ((within_audio s1 _).mono (by decide))

theorem State.claimBuffer_within (s : State) (d : Display) (c : Chime) (k : Clip) :
    Within [.audio, .store, .rw] s (s.claimBuffer d c k) := by
  unfold State.claimBuffer
  split
  · exact (within_audio s _).mono (by decide)
  · split
    · exact (s.unstageableAnswer_within d c k).mono (by decide)
    · exact ((within_audio s _).mono (by decide)).trans ((State.acceptStaging_within _ _ _ _).mono (by decide))

theorem State.startChime_within (s : State) (d : Display) (c : Chime) :
    Within [.audio, .store, .rw] s (s.startChime d c) := by
  unfold State.startChime
  split
  · exact ((s.raise_within _ _).mono (by decide)).trans ((within_audio _ _).mono (by decide))
  · split
    · exact (within_audio s _).mono (by decide)
    · split
      · exact s.claimBuffer_within d c _
      · exact (within_audio s _).mono (by decide)

theorem State.serveWaiter_within (s : State) (d : Display) (r : List Display) :
    Within [.audio, .store, .rw] s (s.serveWaiter d r) := by
  unfold State.serveWaiter
  extract_lets au bu s1
  have h : Within [.audio, .store, .rw] s s1 := (within_audio s _).mono (by decide)
  split
  · split
    · exact h.trans (s1.claimBuffer_within d _ _)
    · exact h
  · exact h
  · exact h

theorem State.settleChimes_within (n : Nat) (s : State) : Within [.audio, .store, .rw] s (State.settleChimes n s) := by
  induction n generalizing s with
  | zero => exact .refl _ s
  | succ n ih =>
    unfold State.settleChimes
    split
    · split
      · exact .refl _ s
      · exact (s.serveWaiter_within _ _).trans (ih _)
    · split
      · exact .refl _ s
      · split
        · exact .refl _ s
        · exact (((within_audio s _).mono (by decide)).trans (State.startChime_within _ _ _)).trans (ih _)

theorem State.settle_within (s : State) : Within [.audio, .store, .rw] s s.settle := State.settleChimes_within _ s

theorem State.offerChime_within (s : State) (d : Display) (c p : Nat) (o : ChimeOwner) :
    Within [.audio, .store, .rw] s (s.offerChime d c p o).state := by
  unfold State.offerChime
  extract_lets inPlayer preempts stopped s1
  have h : Within [.audio, .store, .rw] s s1 := by
    show Within _ s (if _ then _ else _)
    split
    · exact (within_audio s _).mono (by decide)
    · exact .refl _ s
  split
  · exact h.trans s1.settle_within
  · exact h.trans (((within_audio s1 _).mono (by decide)).trans (State.settle_within _))

theorem State.dropSystemChimes_within (s : State) (d : Display) : Within [.audio] s (s.dropSystemChimes d) := by
  unfold State.dropSystemChimes
  extract_lets s1
  have h : Within [.audio] s s1 := within_audio s _
  split
  · exact h
  · split
    · exact h.trans (within_audio s1 _)
    · exact h

/-! ### Park beeps and reverse -/

theorem State.offerBeep_within (s : State) : Within [.audio, .store, .rw] s s.offerBeep := by
  unfold State.offerBeep
  split
  · exact .refl _ s
  · exact s.offerChime_within _ _ _ _

theorem State.chooseBand_within (s : State) : Within [.park, .audio, .store, .rw] s s.chooseBand := by
  have enter : ∀ b ms, Within [.park, .audio, .store, .rw] s (s.enterInterval b ms) := fun b ms =>
    ((within_park s _).mono (by decide)).trans ((State.offerBeep_within _).mono (by decide))
  unfold State.chooseBand
  extract_lets old
  split
  · exact (within_park s _).mono (by decide)
  · split
    · exact .refl _ s
    · split
      · exact ((within_park s _).mono (by decide)).trans ((State.offerBeep_within _).mono (by decide))
      · split
        · extract_lets next
          split
          · exact enter _ _
          · exact (within_park s _).mono (by decide)
        · exact enter _ _

theorem State.beepStopped_within (s : State) : Within [.audio, .store, .rw] s s.beepStopped := by
  unfold State.beepStopped
  split
  · exact s.offerBeep_within
  · exact .refl _ s

theorem State.offerAndTell_within (s : State) (d : Display) (c p : Nat) (o : ChimeOwner) :
    Within [.audio, .store, .rw] s (s.offerAndTell d c p o).1 := by
  unfold State.offerAndTell
  extract_lets off
  show Within _ s (if _ then _ else _)
  split
  · exact (s.offerChime_within d c p o).trans (State.beepStopped_within _)
  · exact s.offerChime_within d c p o

theorem State.offerTone_within (s : State) : Within [.audio, .store, .rw] s s.offerTone := by
  unfold State.offerTone
  split
  · exact .refl _ s
  · exact s.offerAndTell_within _ _ _ _

theorem State.startPattern_within (s : State) : Within [.park, .audio, .store, .rw] s s.startPattern := by
  unfold State.startPattern
  split
  · exact ((within_park s _).mono (by decide)).trans (State.chooseBand_within _)
  · exact .refl _ s

theorem State.toReverse_within (s : State) (r : ReverseState) : Within [.reverse, .rw] s (s.toReverse r) :=
  ((within_reverse s _).mono (by decide)).trans ((State.post_within _ _).mono (by decide))

theorem State.cameraOff_within (s : State) : Within [.displays, .reverse, .rw] s s.cameraOff :=
  (((within_displays s _).mono (by decide)).trans ((within_reverse _ _).mono (by decide))).trans
    ((State.toReverse_within _ _).mono (by decide))

theorem State.forcedPush_within (s : State) : Within [.displays, .rw] s s.forcedPush := by
  unfold State.forcedPush
  extract_lets v s1
  split
  · have h : Within [.displays, .rw] s s1 :=
      ((within_displays s _).mono (by decide)).trans ((State.raise_within _ _ _).mono (by decide))
    exact h.trans ((within_displays s1 _).mono (by decide))
  · exact (within_displays s _).mono (by decide)

theorem State.reverseAsserted_within (s : State) :
    Within [.displays, .reverse, .park, .audio, .store, .rw] s s.reverseAsserted := by
  unfold State.reverseAsserted
  split
  · exact ((((s.forcedPush_within).mono (by decide)).trans ((State.toReverse_within _ _).mono (by decide))).trans
      ((State.offerTone_within _).mono (by decide))).trans ((State.startPattern_within _).mono (by decide))
  · exact (((within_reverse s _).mono (by decide)).trans ((State.startPattern_within _).mono (by decide))).trans
      ((State.post_within _ _).mono (by decide))
  · exact ((((within_displays s _).mono (by decide)).trans ((State.toReverse_within _ _).mono (by decide))).trans
      ((State.offerTone_within _).mono (by decide))).trans ((State.startPattern_within _).mono (by decide))
  · exact .refl _ s

theorem State.reverseReleased_within (s : State) :
    Within [.displays, .reverse, .park, .rw] s s.reverseReleased := by
  unfold State.reverseReleased
  split
  · extract_lets p r s1
    have h0 : Within [.displays, .reverse, .park, .rw] s s.stopPattern := (within_park s _).mono (by decide)
    have h1 : Within [.displays, .reverse, .park, .rw] s.stopPattern
        { s.stopPattern with reverse.timer := some (later s.time (1000 * s.reverse.holdOffMs)) } :=
      (within_reverse s.stopPattern _).mono (by decide)
    have h : Within [.displays, .reverse, .park, .rw] s s1 :=
      (h0.trans h1).trans ((State.toReverse_within _ _).mono (by decide))
    split
    · exact h.trans ((State.cameraOff_within s1).mono (by decide))
    · exact h
  all_goals exact .refl _ s

theorem State.evaluateReverse_within (s : State) :
    Within [.displays, .reverse, .park, .audio, .store, .rw] s s.evaluateReverse := by
  unfold State.evaluateReverse
  split
  · split
    · exact s.reverseAsserted_within
    · split
      · exact s.reverseReleased_within.mono (by decide)
      · exact .refl _ s
  · exact .refl _ s

theorem State.speedExit_within (s : State) (v : Int) : Within [.displays, .reverse, .rw] s (s.speedExit v) := by
  unfold State.speedExit
  split
  · exact s.cameraOff_within
  · exact .refl _ s

theorem State.refresh_within (s : State) (e : AcceptEntry) (v : Int) :
    Within [.vehicle, .guide, .reverse, .park, .displays, .audio, .store, .rw] s (s.refresh e v) := by
  unfold State.refresh
  extract_lets deadline
  split
  · exact ((within_vehicle s _).mono (by decide)).trans ((State.evaluateReverse_within _).mono (by decide))
  · rename_i e' _
    exact ((within_vehicle s { s.vehicle with records.steering := .refresh v deadline }).mono (by decide)).trans
      ((within_guide _ (s.guide.steer v)).mono (by decide))
  · exact ((within_vehicle s _).mono (by decide)).trans ((State.speedExit_within _ _).mono (by decide))
  · rename_i s1 _ _
    have h : Within [.vehicle, .guide, .reverse, .park, .displays, .audio, .store, .rw] s s1 :=
      (within_vehicle s _).mono (by decide)
    split
    · exact h.trans ((State.chooseBand_within s1).mono (by decide))
    · exact h

/-! ### Layers and presentation queues -/

theorem State.release_within (s : State) (d : Display) (l : ScanLayer) (e : QueueEntry) (n : Nat) :
    Within [.regions, .displays, .rw] s (s.release d l e n) := by
  unfold State.release
  exact (((within_regions s _).mono (by decide)).trans ((within_displays _ _).mono (by decide))).trans
    ((State.post_within _ _).mono (by decide))

theorem State.releaseAll_within (s : State) (d : Display) (l : ScanLayer) (es : List QueueEntry) :
    Within [.regions, .displays, .rw] s (s.releaseAll d l es) :=
  Within.foldl (fun t e => t.release_within d l e 0) es s

theorem State.releaseCurrent_within (s : State) (d : Display) (l : ScanLayer) (c : Option (QueueEntry × Nat)) :
    Within [.regions, .displays, .rw] s (s.releaseCurrent d l c) := by
  unfold State.releaseCurrent
  split
  · exact .refl _ s
  · exact s.release_within d l _ _

theorem State.publish_within (s : State) (d : Display) (l : ScanLayer) (e : QueueEntry) :
    Within [.regions, .displays, .rw] s (s.publish d l e).1 := by
  have enq : ∀ t : State, Within [.regions, .displays, .rw] t (t.enqueue d l e) := fun t =>
    ((within_regions t _).mono (by decide)).trans ((within_displays _ _).mono (by decide))
  unfold State.publish
  split
  · exact enq s
  · extract_lets s1
    have h : Within [.regions, .displays, .rw] s s1 := (s.raise_within _ _).mono (by decide)
    split
    · refine h.trans (Within.trans ?_ (enq _))
      unfold State.dropHead
      extract_lets v
      split
      · exact .refl _ s1
      · exact ((within_displays s1 _).mono (by decide)).trans (State.release_within _ _ _ _ _)
    · exact h

theorem State.applyStaged_within (s : State) (d : Display) (l : ScanLayer) :
    Within [.regions, .displays, .rw] s (s.applyStaged d l) := by
  unfold State.applyStaged
  split
  · exact .refl _ s
  · split
    · exact .refl _ s
    · unfold State.applyRecord
      extract_lets v v1 v2
      split
      · exact (((within_displays s _).mono (by decide)).trans (State.releaseCurrent_within _ d l _)).trans
          (State.releaseAll_within _ _ _ _)
      · exact (within_displays s _).mono (by decide)

theorem State.selectFrame_within (s : State) (d : Display) (l : ScanLayer) :
    Within [.regions, .displays, .rw] s (s.selectFrame d l) := by
  unfold State.selectFrame
  extract_lets v run
  split
  · unfold State.keepFrame
    extract_lets w
    split
    · exact ((within_displays s _).mono (by decide)).trans ((State.raise_within _ _ _).mono (by decide))
    · exact (within_displays s _).mono (by decide)
  · exact (((within_displays s _).mono (by decide)).trans (State.releaseCurrent_within _ d l _)).trans
      (State.releaseAll_within _ _ _ _)

theorem State.boundaryLayers_within (s : State) (d : Display) :
    Within [.regions, .displays, .rw] s (s.boundaryLayers d) :=
  (((s.applyStaged_within d _).trans (State.applyStaged_within _ d _)).trans (State.selectFrame_within _ d _)).trans
    (State.selectFrame_within _ d _)

theorem State.finishRow_within (s : State) (d : Display) : Within [.displays] s (s.finishRow d) := by
  unfold State.finishRow
  split
  · exact .refl _ s
  · exact within_displays s _

/-- A frame boundary changes displays, regions and the report writer, and on FRONT the camera's displaying record, the
compositor and the guide engine too. -/
theorem State.boundary_within (s : State) (d : Display) (u : Bool) :
    Within [.displays, .regions, .rw, .camera, .compositor, .guide] s (s.boundary d u) := by
  unfold State.boundary
  extract_lets s0 bv bm s1 view
  have h : Within [.displays, .regions, .rw, .camera, .compositor, .guide] s s1 :=
    (((s.finishRow_within d).mono (by decide)).trans ((within_displays s0 _).mono (by decide))).trans
      ((State.boundaryLayers_within _ d).mono (by decide))
  split
  · rename_i s2 s3
    have h2 : Within [.displays, .regions, .rw, .camera, .compositor, .guide] s1 s2 := by
      show Within _ s1 (s1.frontWork view)
      unfold State.frontWork
      extract_lets c a b
      have ha : Within [.displays, .regions, .rw, .camera, .compositor, .guide] s1 a := fun p hp => by
        cases p <;> first | rfl | simp at hp
      have hb : Within [.displays, .regions, .rw, .camera, .compositor, .guide] a b := by
        show Within _ a (a.fallbackWatch _)
        unfold State.fallbackWatch
        split
        · split
          · exact .refl _ a
          · exact ((within_compositor a _).mono (by decide)).trans ((State.raise_within _ _ _).mono (by decide))
        · exact (within_compositor a _).mono (by decide)
        · exact (within_compositor a _).mono (by decide)
      exact (ha.trans hb).trans ((within_guide b _).mono (by decide))
    have h3 : Within [.displays, .regions, .rw, .camera, .compositor, .guide] s2 s3 := by
      show Within _ s2 ((s2.fullRewrite u).boundaryBuild view)
      refine ((s2.fullRewrite_within u).mono (by decide)).trans ?_
      unfold State.boundaryBuild
      split
      · exact (within_guide _ _).mono (by decide)
      · exact .refl _ _
    exact ((h.trans h2).trans h3).trans ((within_displays s3 _).mono (by decide))
  · exact h.trans ((within_displays s1 _).mono (by decide))
  · exact h.trans ((within_displays s1 _).mono (by decide))

/-! ### The camera receiver: camera and report writer -/

theorem State.toAlign_within (s : State) (a : Alignment) : Within [.camera, .rw] s (s.toAlign a) :=
  ((within_camera s _).mono (by decide)).trans ((State.post_within _ _).mono (by decide))

theorem State.closeErrored_within (s : State) (n : Byte) : Within [.camera, .rw] s (s.closeErrored n) :=
  ((within_camera s _).mono (by decide)).trans ((State.raise_within _ _ _).mono (by decide))

theorem State.countErrored_within (s : State) : Within [.camera, .rw] s s.countErrored := by
  unfold State.countErrored
  split
  · split
    · exact ((within_camera s _).mono (by decide)).trans (State.toAlign_within _ _)
    · exact (within_camera s _).mono (by decide)
  · exact (within_camera s _).mono (by decide)
  · exact .refl _ s
  · exact .refl _ s

theorem State.takeFrameStart_within (s : State) (n : Byte) : Within [.camera, .rw] s (s.takeFrameStart n) := by
  unfold State.takeFrameStart
  extract_lets s1 c2 s2
  have h1 : Within [.camera, .rw] s s1 := by
    show Within _ s s.endOpenFrame
    unfold State.endOpenFrame
    split
    · exact .refl _ s
    · exact (s.closeErrored_within _).trans (State.countErrored_within _)
  have h2 : Within [.camera, .rw] s1 s2 := by
    show Within _ s1 (if _ then _ else _)
    split
    · exact ((within_camera s1 _).mono (by decide)).trans (State.toAlign_within _ _)
    · exact .refl _ s1
  exact (h1.trans h2).trans ((within_camera s2 _).mono (by decide))

theorem State.takeFrameEnd_within (s : State) (f : OpenFrame) (n : Byte) (c : Nat) :
    Within [.camera, .rw] s (s.takeFrameEnd f n c) := by
  unfold State.takeFrameEnd
  extract_lets s1
  have h : Within [.camera, .rw] s s1 := (within_camera s _).mono (by decide)
  split
  · exact h
  · split
    · refine h.trans ?_
      unfold State.closeUsable
      split
      · exact (within_camera s1 _).mono (by decide)
      · extract_lets c2 s2
        have h2 : Within [.camera, .rw] s1 s2 := (within_camera s1 _).mono (by decide)
        split
        · exact h2.trans ((within_camera s2 _).mono (by decide))
        · split
          · exact h2.trans ((within_camera s2 _).mono (by decide))
          · exact (h2.trans ((within_camera s2 _).mono (by decide))).trans (State.toAlign_within _ _)
      · exact .refl _ s1
      · exact .refl _ s1
    · exact (h.trans (s1.closeErrored_within _)).trans (State.countErrored_within _)

theorem State.takeAligned_within (s : State) (p : CameraPacket) : Within [.camera, .rw] s (s.takeAligned p) := by
  unfold State.takeAligned
  split
  · exact s.takeFrameStart_within _
  · split
    · exact .refl _ s
    · exact (within_camera s _).mono (by decide)
  · split
    · exact .refl _ s
    · exact s.takeFrameEnd_within _ _ _
  · exact .refl _ s

theorem State.hearPacket_within (s : State) : Within [.camera, .rw] s s.hearPacket := by
  unfold State.hearPacket
  split
  · exact (((within_camera s _).mono (by decide)).trans (State.toAlign_within _ _)).trans
      ((within_camera _ _).mono (by decide))
  · exact (within_camera s _).mono (by decide)

theorem State.takePacket_within (s : State) (p : CameraPacket) : Within [.camera, .rw] s (s.takePacket p) := by
  unfold State.takePacket
  split
  · exact s.hearPacket_within.trans (State.takeAligned_within _ _)
  · exact s.takeAligned_within p

theorem State.takeDeferred_within (ps : List CameraPacket) (s : State) :
    Within [.camera, .rw] s (State.takeDeferred ps s) := by
  induction ps generalizing s with
  | nil => exact .refl _ s
  | cons p rest ih =>
    unfold State.takeDeferred
    split
    · exact (within_camera s _).mono (by decide)
    · exact (s.takePacket_within p).trans (ih _)

theorem State.packetArrives_within (s : State) (p : CameraPacket) : Within [.camera, .rw] s (s.packetArrives p) := by
  unfold State.packetArrives
  split
  · exact .refl _ s
  · extract_lets s1
    have h : Within [.camera, .rw] s s1 := s.hearPacket_within
    split
    · exact h.trans ((within_camera s1 _).mono (by decide))
    · exact h.trans (s1.takeAligned_within p)

/-! ### Streams -/

theorem State.refill_within (s : State) (d : Display) : Within [.audio] s (s.refill d) := within_audio s _

theorem State.applyProducer_within (s : State) (d : Display) (v : BitVec 32) :
    Within [.audio, .rw] s (s.applyProducer d v) := by
  unfold State.applyProducer
  extract_lets st
  split
  · split
    · exact (s.raise_within _ _).mono (by decide)
    · exact ((within_audio s _).mono (by decide)).trans
        (((within_audio _ _).mono (by decide)).trans ((State.refill_within _ _).mono (by decide)))
  · exact .refl _ s

theorem State.stopStream_within (s : State) (d : Display) : Within [.audio, .regions] s (s.stopStream d) := by
  unfold State.stopStream
  extract_lets st
  split
  · rename_i s1 _ _
    have h : Within [.audio, .regions] s s1 := by
      show Within _ s (match st.ring with | none => s | some r => { s with regions := detachRegion s.regions r.region })
      split
      · exact .refl _ s
      · exact (within_regions s _).mono (by decide)
    exact h.trans ((within_audio s1 _).mono (by decide))
  · exact .refl _ s

theorem State.startStream_within (s : State) (d : Display) (r : Region) (g : Nat) :
    Within [.audio, .regions, .rw] s (s.startStream d r g) := by
  unfold State.startStream
  extract_lets s1 size held s2 s3 s4 s5
  have h1 : Within [.audio, .regions, .rw] s s1 := (s.stopStream_within d).mono (by decide)
  have h2 : Within [.audio, .regions, .rw] s1 s4 :=
    ((within_regions s1 _).mono (by decide)).trans
      (((within_audio s2 _).mono (by decide)).trans ((within_audio s3 _).mono (by decide)))
  have h3 : Within [.audio, .regions, .rw] s4 s5 := by
    show Within _ s4 (if _ then _ else _)
    split
    · exact .refl _ s4
    · exact (s4.raise_within _ _).mono (by decide)
  exact ((h1.trans h2).trans h3).trans ((State.refill_within s5 d).mono (by decide))

/-! ### The link -/

theorem State.startFetch_within (s : State) : Within [.taker, .link] s s.startFetch := by
  unfold State.startFetch
  split
  · exact .refl _ s
  · split
    · intro p hp
      cases p <;> first | rfl | simp at hp
    · exact .refl _ s

theorem State.handWord_within (s : State) (o : Nat) (v : BitVec 32) :
    Within [.taker, .link, .rw, .audio] s (s.handWord o v) := by
  unfold State.handWord
  split
  · unfold State.takeRequestProducer
    split
    · exact (s.raise_within _ _).mono (by decide)
    · exact ((within_taker s _).mono (by decide)).trans ((State.startFetch_within _).mono (by decide))
  · split
    · exact (Within.of_rwOnly (s.takeReportConsumer_eq v)).mono (by decide)
    · split
      · exact .refl _ s
      · exact (within_audio s _).mono (by decide)

theorem State.captureWord_within (page addr : Nat) (ls : List (Option Byte)) (s : State) (o : Nat) :
    Within [.taker, .link, .rw, .audio] s (State.captureWord page addr ls s o) := by
  unfold State.captureWord
  split
  · exact .refl _ s
  · exact (s.raise_within _ _).mono (by decide)
  · exact s.handWord_within o _

theorem State.takeRead_within (s : State) (a : BitVec 32) (n : Nat) : Within [.link, .rw] s (s.takeRead a n) := by
  unfold State.takeRead
  split
  · extract_lets s1 joined
    exact ((s.raise_within _ _).mono (by decide)).trans ((within_link s1 _).mono (by decide))
  · exact (within_link s _).mono (by decide)

theorem State.takeWrite_within (s : State) (a : BitVec 32) (ls : List (Option Byte)) :
    Within [.taker, .link, .rw, .audio] s (s.takeWrite a ls) := by
  unfold State.takeWrite
  split
  · exact (s.raise_within _ _).mono (by decide)
  · split
    · exact (s.raise_within _ _).mono (by decide)
    · unfold State.passWrite
      split
      · exact (within_link s _).mono (by decide)
      · exact ((within_link s _).mono (by decide)).trans
          (Within.foldl (fun t o => State.captureWord_within _ _ _ t o) _ _)

theorem State.takeTransaction_within (s : State) (t : Transaction) :
    Within [.taker, .link, .rw, .audio] s (s.takeTransaction t) := by
  cases t with
  | read a n => exact (s.takeRead_within a n).mono (by decide)
  | write a ls => exact s.takeWrite_within a ls

theorem State.drain_within (s : State) : Within [.taker, .link, .rw, .audio] s s.drain := by
  have h : ∀ (ts : List Transaction) (s : State), Within [.taker, .link, .rw, .audio] s (State.drainHeld ts s) := by
    intro ts
    induction ts with
    | nil => intro s; exact (within_link s _).mono (by decide)
    | cons t rest ih =>
      intro s
      unfold State.drainHeld
      split
      · exact (s.takeTransaction_within t).trans (ih _)
      · exact (within_link s _).mono (by decide)
  exact h _ s

theorem State.receive_within (s : State) (t : Transaction) : Within [.taker, .link, .rw, .audio] s (s.receive t) := by
  unfold State.receive
  split
  · exact .refl _ s
  · split
    · exact (within_link s _).mono (by decide)
    · exact s.takeTransaction_within t

theorem State.writeWord_within (s : State) (o : Nat) (v : BitVec 32) :
    Within [.taker, .link, .rw, .audio] s (s.writeWord o v) := by
  unfold State.writeWord
  split
  · exact .refl _ s
  · exact s.receive_within _

/-! ### Requests and system restart -/

theorem State.endRequest_within (s : State) (rec : List Byte) (e : Ending) : Within [.rw] s (s.endRequest rec e) := by
  unfold State.endRequest
  split
  · exact s.post_within _
  · split
    · exact s.post_within _
    · exact .refl _ s
  · exact s.post_within _
  · exact .refl _ s

theorem State.advanceTaker_within (s : State) : Within [.taker, .link, .rw] s s.advanceTaker := by
  unfold State.advanceTaker
  extract_lets next
  exact (((within_taker s _).mono (by decide)).trans ((State.statusNow_within _ _ _).mono (by decide))).trans
    ((State.startFetch_within _).mono (by decide))

/-- Taking a record changes the taker, the link path, the report writer, and what its owner changes. -/
theorem State.takeRecord_within {ps : List Part} (s : State) (rec : List Byte) (owner : OwnerAct)
    (h : Within ps s (owner rec s).1) (ht : .taker ∈ ps) (hl : .link ∈ ps) (hr : .rw ∈ ps) :
    Within ps s (s.takeRecord rec owner) := by
  have adv : ∀ t : State, Within ps t t.advanceTaker := fun t =>
    t.advanceTaker_within.mono fun p hp => by
      simp only [List.mem_cons, List.not_mem_nil, or_false] at hp
      rcases hp with rfl | rfl | rfl <;> assumption
  have fin : ∀ (t : State) e, Within ps t (t.endRequest rec e) := fun t e =>
    (t.endRequest_within rec e).mono fun p hp => by
      simp only [List.mem_cons, List.not_mem_nil, or_false] at hp
      subst hp; exact hr
  unfold State.takeRecord
  split
  · exact (fin _ _).trans (adv _)
  · exact (h.trans (fin _ _)).trans (adv _)

theorem State.systemRestart_within (s : State) :
    Within [.rw, .taker, .link, .audio, .regions, .displays, .reverse, .store] s s.systemRestart := by
  unfold State.systemRestart
  extract_lets s1 s2
  have h1 : Within [.rw, .taker, .link, .audio, .regions, .displays, .reverse, .store] s s1 := by
    have hr : Within [.rw, .taker, .link, .audio, .regions, .displays, .reverse, .store] s s.restartRings := by
      unfold State.restartRings
      refine Within.trans (fun p hp => ?_)
        (((State.statusNow_within _ _ _).trans (State.statusNow_within _ _ _)).mono (by decide))
      cases p <;> first | rfl | simp at hp
    refine hr.trans (Within.foldl (fun t d => ?_) _ _)
    exact ((t.stopStream_within d).mono (by decide)).trans ((within_audio _ _).mono (by decide))
  have h2 : Within [.rw, .taker, .link, .audio, .regions, .displays, .reverse, .store] s1 s2 :=
    ((within_regions s1 _).mono (by decide)).trans ((within_displays _ _).mono (by decide))
  refine ((h1.trans h2).trans ((within_reverse s2 s2.reverse.restart).mono (by decide))).trans (Within.trans ?_
    ((State.settle_within _).mono (by decide)))
  exact Within.foldl (fun t d => (t.dropSystemChimes_within d).mono (by decide)) _ _

end Sys2Proof.Machine
end

