-- ==== Sys2Proof/Laws/Memory.lean ====
section
/-! SUPPORT. DRAM and the store's bytes: reading after writing, and that every memory operation keeps the canonical form. -/

namespace Sys2Proof.Machine

/-! ### Sparse memories -/

theorem cellRead_below (u : Nat → Byte) : ∀ (m : Mem) (low a : Nat), cellsFrom u low m = true → a < low →
    cellRead u m a = u a := by
  intro m
  induction m with
  | nil => intro low a _ _; rfl
  | cons c rest ih =>
    obtain ⟨b, v⟩ := c
    intro low a h ha
    simp only [cellsFrom, Bool.and_eq_true, decide_eq_true_eq] at h
    rw [cellRead, if_neg (by omega)]
    exact ih (b + 1) a h.2 (by omega)

theorem cellsFrom_mono (u : Nat → Byte) {m : Mem} {low low' : Nat} (h : cellsFrom u low m = true) (hl : low' ≤ low) :
    cellsFrom u low' m = true := by
  cases m with
  | nil => rfl
  | cons c rest =>
    simp only [cellsFrom, Bool.and_eq_true, decide_eq_true_eq] at h ⊢
    exact ⟨⟨by omega, h.1.2⟩, h.2⟩

/-- A write keeps the canonical form. -/
theorem cellsFrom_cellWrite (u : Nat → Byte) (a : Nat) (v : Byte) : ∀ (m : Mem) (low : Nat),
    cellsFrom u low m = true → low ≤ a → cellsFrom u low (cellWrite u m a v) = true := by
  intro m
  induction m with
  | nil =>
    intro low _ ha
    simp only [cellWrite]
    split
    · rfl
    · simp [cellsFrom, *]
  | cons c rest ih =>
    obtain ⟨b, w⟩ := c
    intro low h ha
    have h' := h
    simp only [cellsFrom, Bool.and_eq_true, decide_eq_true_eq] at h'
    simp only [cellWrite]
    split
    · split
      · exact h
      · simp only [cellsFrom, Bool.and_eq_true, decide_eq_true_eq]
        exact ⟨⟨ha, by assumption⟩, ⟨by omega, h'.1.2⟩, h'.2⟩
    · split
      · subst_vars
        split
        · exact cellsFrom_mono u h'.2 (by omega)
        · simp only [cellsFrom, Bool.and_eq_true, decide_eq_true_eq]
          exact ⟨⟨ha, by assumption⟩, h'.2⟩
      · simp only [cellsFrom, Bool.and_eq_true, decide_eq_true_eq]
        exact ⟨h'.1, ih (b + 1) h'.2 (by omega)⟩

/-- A read after a write to the same place gives the value written. -/
theorem cellRead_cellWrite_same (u : Nat → Byte) (a : Nat) (v : Byte) : ∀ (m : Mem) (low : Nat),
    cellsFrom u low m = true → cellRead u (cellWrite u m a v) a = v := by
  intro m
  induction m with
  | nil =>
    intro low _
    simp only [cellWrite]
    split
    · simp_all [cellRead]
    · simp [cellRead]
  | cons c rest ih =>
    obtain ⟨b, w⟩ := c
    intro low h
    simp only [cellsFrom, Bool.and_eq_true, decide_eq_true_eq] at h
    simp only [cellWrite]
    split
    · split
      · rw [cellRead, if_neg (by omega), cellRead_below u rest (b + 1) a h.2 (by omega)]
        exact Eq.symm ‹_›
      · simp [cellRead]
    · split
      · split
        · subst_vars
          exact cellRead_below u rest (b + 1) b h.2 (by omega)
        · simp [cellRead]
      · rw [cellRead, if_neg (by omega)]
        exact ih (b + 1) h.2

/-- A write leaves every other place as it was. -/
theorem cellRead_cellWrite_other (u : Nat → Byte) {a b : Nat} (v : Byte) (hab : b ≠ a) : ∀ (m : Mem),
    cellRead u (cellWrite u m a v) b = cellRead u m b := by
  intro m
  induction m with
  | nil =>
    simp only [cellWrite]
    split
    · rfl
    · simp [cellRead, Ne.symm hab]
  | cons c rest ih =>
    obtain ⟨d, w⟩ := c
    simp only [cellWrite]
    split
    · split
      · rfl
      · rw [cellRead, if_neg (Ne.symm hab)]
    · split
      · subst_vars
        split
        · rw [cellRead, if_neg (Ne.symm hab)]
        · rw [cellRead, if_neg (Ne.symm hab), cellRead, if_neg (Ne.symm hab)]
      · simp only [cellRead]
        split
        · rfl
        · exact ih

/-! ### DRAM -/

theorem Mem.wf_write {m : Mem} (h : m.wf = true) (a : Nat) (v : Byte) : (m.write a v).wf = true :=
  cellsFrom_cellWrite _ a v m 0 h (Nat.zero_le _)

theorem Mem.read_write_same {m : Mem} (h : m.wf = true) (a : Nat) (v : Byte) : (m.write a v).read a = v :=
  cellRead_cellWrite_same _ a v m 0 h

theorem Mem.read_write_other (m : Mem) {a b : Nat} (v : Byte) (hab : b ≠ a) : (m.write a v).read b = m.read b :=
  cellRead_cellWrite_other _ v hab m

theorem Mem.wf_writeBytes {m : Mem} (h : m.wf = true) (a : Nat) (bs : List Byte) : (m.writeBytes a bs).wf = true := by
  induction bs generalizing m a with
  | nil => exact h
  | cons v rest ih => exact ih (Mem.wf_write h a v) (a + 1)

theorem Mem.wf_writeLanes {m : Mem} (h : m.wf = true) (a : Nat) (ls : List (Option Byte)) :
    (m.writeLanes a ls).wf = true := by
  induction ls generalizing m a with
  | nil => exact h
  | cons x rest ih =>
    cases x with
    | none => exact ih h (a + 1)
    | some v => exact ih (Mem.wf_write h a v) (a + 1)

/-- Writing bytes leaves every address outside them as it was. -/
theorem Mem.read_writeBytes_outside (m : Mem) (a : Nat) (bs : List Byte) {b : Nat} (h : b < a ∨ a + bs.length ≤ b) :
    (m.writeBytes a bs).read b = m.read b := by
  induction bs generalizing m a with
  | nil => rfl
  | cons v rest ih =>
    simp only [List.length_cons] at h
    rw [Mem.writeBytes, ih (m.write a v) (a + 1) (by omega), Mem.read_write_other m v (by omega)]

/-- Writing bytes puts each of them at its address. -/
theorem Mem.read_writeBytes_inside {m : Mem} (h : m.wf = true) (a : Nat) (bs : List Byte) {i : Nat} (hi : i < bs.length) :
    (m.writeBytes a bs).read (a + i) = bs[i] := by
  induction bs generalizing m a i with
  | nil => exact absurd hi (Nat.not_lt_zero i)
  | cons v rest ih =>
    cases i with
    | zero =>
      rw [Mem.writeBytes, Mem.read_writeBytes_outside _ _ _ (by omega)]
      exact Mem.read_write_same h a v
    | succ i =>
      have := ih (Mem.wf_write h a v) (a + 1) (i := i) (by simpa using hi)
      rw [Mem.writeBytes, show a + (i + 1) = a + 1 + i by omega, this]
      rfl

/-- A byte whose enable is clear, and every byte outside the write, is as it was. -/
theorem Mem.read_writeLanes_kept (m : Mem) (a : Nat) (ls : List (Option Byte)) {b : Nat}
    (h : ∀ i, b = a + i → ls.getD i none = none) : (m.writeLanes a ls).read b = m.read b := by
  induction ls generalizing m a with
  | nil => rfl
  | cons x rest ih =>
    have hr : ∀ i, b = a + 1 + i → rest.getD i none = none := fun i hi => by
      have := h (i + 1) (by omega)
      simpa using this
    cases x with
    | none => exact ih m (a + 1) hr
    | some v =>
      have hab : b ≠ a := fun e => by simpa using h 0 (by omega)
      rw [Mem.writeLanes, ih (m.write a v) (a + 1) hr, Mem.read_write_other m v hab]

/-- An enabled byte of a write stands at its address afterwards. -/
theorem Mem.read_writeLanes_written {m : Mem} (h : m.wf = true) (a : Nat) (ls : List (Option Byte)) {i : Nat} {v : Byte}
    (hi : ls.getD i none = some v) : (m.writeLanes a ls).read (a + i) = v := by
  induction ls generalizing m a i with
  | nil => simp at hi
  | cons x rest ih =>
    cases i with
    | zero =>
      simp only [List.getD_cons_zero] at hi
      subst hi
      rw [Mem.writeLanes, Mem.read_writeLanes_kept _ _ _ (fun i hi => by omega)]
      exact Mem.read_write_same h a v
    | succ i =>
      simp only [List.getD_cons_succ] at hi
      rw [show a + (i + 1) = a + 1 + i by omega]
      cases x with
      | none => exact ih h (a + 1) hi
      | some w => exact ih (Mem.wf_write h a w) (a + 1) hi

/-! ### The store -/

/-- The store's bytes are in canonical form. -/
def Store.canonical (st : Store) : Bool := cellsFrom (storeUnlisted st.background) 0 st.cells

theorem Store.setBytes_background (st : Store) (offset : Nat) (bs : List Byte) :
    (st.setBytes offset bs).background = st.background := by
  induction bs generalizing st offset with
  | nil => rfl
  | cons v rest ih => rw [Store.setBytes, ih]

theorem Store.canonical_setBytes {st : Store} (h : st.canonical = true) (offset : Nat) (bs : List Byte) :
    (st.setBytes offset bs).canonical = true := by
  induction bs generalizing st offset with
  | nil => exact h
  | cons v rest ih =>
    exact ih (st := { st with cells := cellWrite (storeUnlisted st.background) st.cells offset v })
      (cellsFrom_cellWrite _ offset v st.cells 0 h (Nat.zero_le _)) (offset + 1)

/-- Setting bytes leaves every offset outside them as it was. -/
theorem Store.byte_setBytes_outside (st : Store) (offset : Nat) (bs : List Byte) {b : Nat}
    (h : b < offset ∨ offset + bs.length ≤ b) : (st.setBytes offset bs).byte b = st.byte b := by
  induction bs generalizing st offset with
  | nil => rfl
  | cons v rest ih =>
    simp only [List.length_cons] at h
    rw [Store.setBytes, ih _ (offset + 1) (by omega)]
    exact cellRead_cellWrite_other _ v (by omega) _

theorem cellsFrom_filter (u : Nat → Byte) (p : Host.Cell → Bool) : ∀ (m : Mem) (low : Nat),
    cellsFrom u low m = true → cellsFrom u low (m.filter p) = true := by
  intro m
  induction m with
  | nil => intro _ _; rfl
  | cons c rest ih =>
    intro low h
    have h' := h
    simp only [cellsFrom, Bool.and_eq_true, decide_eq_true_eq] at h'
    rw [List.filter_cons]
    split
    · simp only [cellsFrom, Bool.and_eq_true, decide_eq_true_eq]
      exact ⟨h'.1, ih _ h'.2⟩
    · exact cellsFrom_mono u (ih _ h'.2) (by omega)

theorem cellsFrom_congr {u w : Nat → Byte} : ∀ (m : Mem) (low : Nat), (∀ c ∈ m, u c.1 = w c.1) →
    cellsFrom u low m = cellsFrom w low m := by
  intro m
  induction m with
  | nil => intro _ _; rfl
  | cons c rest ih =>
    intro low h
    simp only [cellsFrom]
    rw [h c (List.mem_cons_self), ih (c.1 + 1) (fun d hd => h d (List.mem_cons_of_mem _ hd))]

theorem storeUnlisted_set_other (background : Vector (Option Nat) 32) (b : Nat) (v : Option Nat) {a : Nat}
    (h : blockOf a ≠ b) : storeUnlisted (background.setIfInBounds b v) a = storeUnlisted background a := by
  unfold storeUnlisted
  rw [Vector.toList_setIfInBounds, List.getD_eq_getElem?_getD, List.getD_eq_getElem?_getD, List.getElem?_set_ne (Ne.symm h)]

theorem Store.canonical_wipeBlock {st : Store} (h : st.canonical = true) (b : Nat) (v : Option Nat) :
    (st.wipeBlock b v).canonical = true := by
  unfold Store.canonical Store.wipeBlock
  rw [← cellsFrom_congr (u := storeUnlisted st.background)]
  · exact cellsFrom_filter _ _ _ _ h
  · intro c hc
    exact (storeUnlisted_set_other _ _ _ (by simpa using (List.mem_filter.mp hc).2)).symm

theorem cellRead_filter (u : Nat → Byte) (p : Host.Cell → Bool) {a : Nat} (hp : ∀ v, p (a, v) = true) : ∀ (m : Mem),
    cellRead u (m.filter p) a = cellRead u m a := by
  intro m
  induction m with
  | nil => rfl
  | cons c rest ih =>
    obtain ⟨b, v⟩ := c
    rw [List.filter_cons]
    split
    · simp only [cellRead, ih]
    · have hb : b ≠ a := fun e => by subst e; simp_all
      rw [cellRead, if_neg hb, ih]

theorem cellRead_congr {u w : Nat → Byte} {a : Nat} (h : u a = w a) : ∀ (m : Mem), cellRead u m a = cellRead w m a := by
  intro m
  induction m with
  | nil => exact h
  | cons c rest ih => obtain ⟨b, v⟩ := c; simp only [cellRead, ih]

/-- Wiping a block leaves every byte of the other blocks as it was. -/
theorem Store.byte_wipeBlock_other (st : Store) {b : Nat} (v : Option Nat) {a : Nat} (h : blockOf a ≠ b) :
    (st.wipeBlock b v).byte a = st.byte a := by
  unfold Store.byte Store.wipeBlock
  rw [cellRead_filter _ _ (fun w => by simpa using h)]
  exact cellRead_congr (storeUnlisted_set_other _ _ _ h) _

/-- An erased block reads 0xFF everywhere. -/
theorem Store.byte_wipeBlock_erased (st : Store) {b : Nat} (hb : b < 32) {a : Nat} (h : blockOf a = b) :
    (st.wipeBlock b none).byte a = 0xFF := by
  have hu : storeUnlisted (st.background.setIfInBounds b none) a = 0xFF := by
    unfold storeUnlisted
    rw [Vector.toList_setIfInBounds, List.getD_eq_getElem?_getD, h, List.getElem?_set_self (by simpa using hb)]
    rfl
  unfold Store.byte Store.wipeBlock
  show cellRead (storeUnlisted (st.background.setIfInBounds b none)) (st.cells.filter fun c => blockOf c.1 != b) a = 0xFF
  have : ∀ m : Mem, cellRead (storeUnlisted (st.background.setIfInBounds b none))
      (m.filter fun c => blockOf c.1 != b) a = 0xFF := by
    intro m
    induction m with
    | nil => exact hu
    | cons c rest ih =>
      rw [List.filter_cons]
      split
      · rename_i hc
        have hne : c.1 ≠ a := fun e => by rw [e, h] at hc; simp at hc
        rw [show c = (c.1, c.2) from rfl, cellRead, if_neg hne]
        exact ih
      · exact ih
  exact this _

end Sys2Proof.Machine
end

