-- ==== Sys2Proof/Laws/PerInstr.lean ====
section
/-! SUPPORT. The per-command family Arrival: which operands can arrive, said from the rules, and how a camera packet's bytes
spell its command. -/

namespace Sys2Proof.Laws

open Sys2Proof

/-- The operands that the link, the CAN input, the camera input and the displays can carry (R3, R89, R164, R190). -/
def CanArrive : Instr → Prop
  | .linkRead _ len => 1 ≤ len ∧ len ≤ 64
  | .linkWrite _ lanes => 1 ≤ lanes.length ∧ lanes.length ≤ 64
  | .canFrame _ dlc data => data.length = min dlc.toNat 8
  | .otherCameraPacket bytes =>
    match bytes with
    | [] => True
    | kind :: rest =>
      (kind = 1 → rest.length ≠ 1) ∧ (kind = 2 → rest.length < 2) ∧ (kind = 3 → rest.length ≠ 3)
  | .latePixel d layer column => column < d.columns ∧ (layer = .camera → d = .front)
  | .powerOnReset | .pinReset | .loadStepComplete | .linkTraining | .lossOfLink | .requestProducerIndex _
  | .reportConsumerIndex _ | .mediaProducerIndex _ _ | .dramGrant | .unknownRequestKind | .publish | .setLayer
  | .holdChanges | .releaseChanges | .pushView | .popView | .showCamera | .closeCamera | .defineRegion
  | .deleteRegion | .audioStart | .audioStop | .audioGain | .playChime | .stopChimes | .storeRead | .storeProgram
  | .storeErase | .storeLockCalibration | .setFaultMask | .clearFaults | .systemRestart | .storeProgramComplete
  | .storeEraseComplete | .storeReadComplete | .lockWriteComplete | .suspensionAsk | .suspensionTakesEffect
  | .stagingComplete | .frameStart _ | .line _ _ | .frameEnd _ _ | .signalTimerExpiry | .captureComplete
  | .freshnessExpiry _ | .stalePeriodEnd | .reversePinChange _ | .pinDebounceExpiry | .holdOffExpiry | .parkOfferTime
  | .displayFrameBoundary _ | .guideBuildComplete | .sampleTime | .startDelayExpiry _ | .millisecondTick
  | .chimeEnd _ | .activeRowFetch _ => True

/-- The bytes of a camera packet (11.9): kind, then number and count low byte first. -/
def packetBytes : Instr → Option (List Byte)
  | .frameStart frame => some [1, frame]
  | .line number rest => some (2 :: number.extractLsb' 0 8 :: number.extractLsb' 8 8 :: rest)
  | .frameEnd frame count => some [3, frame, count.extractLsb' 0 8, count.extractLsb' 8 8]
  | .otherCameraPacket bytes => some bytes
  | .powerOnReset | .pinReset | .loadStepComplete | .linkTraining | .lossOfLink | .linkRead _ _ | .linkWrite _ _
  | .requestProducerIndex _ | .reportConsumerIndex _ | .mediaProducerIndex _ _ | .dramGrant | .unknownRequestKind
  | .publish | .setLayer | .holdChanges | .releaseChanges | .pushView | .popView | .showCamera | .closeCamera
  | .defineRegion | .deleteRegion | .audioStart | .audioStop | .audioGain | .playChime | .stopChimes | .storeRead
  | .storeProgram | .storeErase | .storeLockCalibration | .setFaultMask | .clearFaults | .systemRestart
  | .storeProgramComplete | .storeEraseComplete | .storeReadComplete | .lockWriteComplete | .suspensionAsk
  | .suspensionTakesEffect | .stagingComplete | .signalTimerExpiry | .captureComplete | .canFrame _ _ _
  | .freshnessExpiry _ | .stalePeriodEnd | .reversePinChange _ | .pinDebounceExpiry | .holdOffExpiry | .parkOfferTime
  | .displayFrameBoundary _ | .guideBuildComplete | .latePixel _ _ _ | .sampleTime | .startDelayExpiry _
  | .millisecondTick | .chimeEnd _ | .activeRowFetch _ => none

/-- Of a command: its operands are well formed exactly where they can arrive, and where it is a camera packet, its bytes are
read back as the command. -/
def Arrival.Statement (i : Instr) : Prop :=
  (i.WellFormed = true ↔ CanArrive i) ∧
    ∀ bytes, packetBytes i = some bytes → i.WellFormed = true → packetCommand bytes = i

/-- A command with no operand that could fail to arrive, and that is no camera packet. -/
theorem Arrival.free (i : Instr) (hw : i.WellFormed = true) (hc : CanArrive i) (hp : packetBytes i = none) :
    Arrival.Statement i :=
  ⟨⟨fun _ => hc, fun _ => hw⟩, fun bytes h _ => by rw [hp] at h; cases h⟩

/-- The two bytes of a 16-bit field, joined again. -/
theorem join_halves (n : BitVec 16) : n.extractLsb' 8 8 ++ n.extractLsb' 0 8 = n := by
  ext i hi
  simp only [BitVec.getElem_append, BitVec.getElem_extractLsb']
  split
  · simp [BitVec.getLsbD_eq_getElem hi]
  · rename_i h
    have : 8 + (i - 8) = i := by omega
    simp [this, BitVec.getLsbD_eq_getElem hi]

/-- What packet of another kind is (R190). -/
theorem other_packet_iff (bytes : List Byte) :
    (Instr.otherCameraPacket bytes).WellFormed = true ↔ CanArrive (.otherCameraPacket bytes) := by
  simp only [Instr.WellFormed, isOtherPacket, decide_eq_true_eq]
  cases bytes with
  | nil => simp [packetCommand, CanArrive]
  | cons kind rest =>
    simp only [packetCommand, CanArrive]
    by_cases h1 : kind = 1
    · subst h1
      match rest with
      | [] => simp
      | [_] => simp
      | _ :: _ :: _ => simp
    · by_cases h2 : kind = 2
      · subst h2
        match rest with
        | [] => simp
        | [_] => simp
        | _ :: _ :: _ => simp
      · by_cases h3 : kind = 3
        · subst h3
          match rest with
          | [] => simp
          | [_] => simp
          | [_, _] => simp
          | [_, _, _] => simp
          | _ :: _ :: _ :: _ :: _ => simp
        · rw [if_neg h1, if_neg h2, if_neg h3]
          exact ⟨fun _ => ⟨fun h => absurd h h1, fun h => absurd h h2, fun h => absurd h h3⟩, fun _ => rfl⟩

theorem Arrival.powerOnReset : Arrival.Statement .powerOnReset := Arrival.free _ rfl trivial rfl
theorem Arrival.pinReset : Arrival.Statement .pinReset := Arrival.free _ rfl trivial rfl
theorem Arrival.loadStepComplete : Arrival.Statement .loadStepComplete := Arrival.free _ rfl trivial rfl
theorem Arrival.linkTraining : Arrival.Statement .linkTraining := Arrival.free _ rfl trivial rfl
theorem Arrival.lossOfLink : Arrival.Statement .lossOfLink := Arrival.free _ rfl trivial rfl
theorem Arrival.linkRead (addr : BitVec 32) (len : Nat) : Arrival.Statement (.linkRead addr len) :=
  ⟨decide_eq_true_iff, fun _ h => nomatch h⟩
theorem Arrival.linkWrite (addr : BitVec 32) (lanes : List (Option Byte)) : Arrival.Statement (.linkWrite addr lanes) :=
  ⟨decide_eq_true_iff, fun _ h => nomatch h⟩
theorem Arrival.requestProducerIndex (value : BitVec 32) : Arrival.Statement (.requestProducerIndex value) :=
  Arrival.free _ rfl trivial rfl
theorem Arrival.reportConsumerIndex (value : BitVec 32) : Arrival.Statement (.reportConsumerIndex value) :=
  Arrival.free _ rfl trivial rfl
theorem Arrival.mediaProducerIndex (stream : Display) (value : BitVec 32) : Arrival.Statement (.mediaProducerIndex stream value) :=
  Arrival.free _ rfl trivial rfl
theorem Arrival.dramGrant : Arrival.Statement .dramGrant := Arrival.free _ rfl trivial rfl
theorem Arrival.unknownRequestKind : Arrival.Statement .unknownRequestKind := Arrival.free _ rfl trivial rfl
theorem Arrival.publish : Arrival.Statement .publish := Arrival.free _ rfl trivial rfl
theorem Arrival.setLayer : Arrival.Statement .setLayer := Arrival.free _ rfl trivial rfl
theorem Arrival.holdChanges : Arrival.Statement .holdChanges := Arrival.free _ rfl trivial rfl
theorem Arrival.releaseChanges : Arrival.Statement .releaseChanges := Arrival.free _ rfl trivial rfl
theorem Arrival.pushView : Arrival.Statement .pushView := Arrival.free _ rfl trivial rfl
theorem Arrival.popView : Arrival.Statement .popView := Arrival.free _ rfl trivial rfl
theorem Arrival.showCamera : Arrival.Statement .showCamera := Arrival.free _ rfl trivial rfl
theorem Arrival.closeCamera : Arrival.Statement .closeCamera := Arrival.free _ rfl trivial rfl
theorem Arrival.defineRegion : Arrival.Statement .defineRegion := Arrival.free _ rfl trivial rfl
theorem Arrival.deleteRegion : Arrival.Statement .deleteRegion := Arrival.free _ rfl trivial rfl
theorem Arrival.audioStart : Arrival.Statement .audioStart := Arrival.free _ rfl trivial rfl
theorem Arrival.audioStop : Arrival.Statement .audioStop := Arrival.free _ rfl trivial rfl
theorem Arrival.audioGain : Arrival.Statement .audioGain := Arrival.free _ rfl trivial rfl
theorem Arrival.playChime : Arrival.Statement .playChime := Arrival.free _ rfl trivial rfl
theorem Arrival.stopChimes : Arrival.Statement .stopChimes := Arrival.free _ rfl trivial rfl
theorem Arrival.storeRead : Arrival.Statement .storeRead := Arrival.free _ rfl trivial rfl
theorem Arrival.storeProgram : Arrival.Statement .storeProgram := Arrival.free _ rfl trivial rfl
theorem Arrival.storeErase : Arrival.Statement .storeErase := Arrival.free _ rfl trivial rfl
theorem Arrival.storeLockCalibration : Arrival.Statement .storeLockCalibration := Arrival.free _ rfl trivial rfl
theorem Arrival.setFaultMask : Arrival.Statement .setFaultMask := Arrival.free _ rfl trivial rfl
theorem Arrival.clearFaults : Arrival.Statement .clearFaults := Arrival.free _ rfl trivial rfl
theorem Arrival.systemRestart : Arrival.Statement .systemRestart := Arrival.free _ rfl trivial rfl
theorem Arrival.storeProgramComplete : Arrival.Statement .storeProgramComplete := Arrival.free _ rfl trivial rfl
theorem Arrival.storeEraseComplete : Arrival.Statement .storeEraseComplete := Arrival.free _ rfl trivial rfl
theorem Arrival.storeReadComplete : Arrival.Statement .storeReadComplete := Arrival.free _ rfl trivial rfl
theorem Arrival.lockWriteComplete : Arrival.Statement .lockWriteComplete := Arrival.free _ rfl trivial rfl
theorem Arrival.suspensionAsk : Arrival.Statement .suspensionAsk := Arrival.free _ rfl trivial rfl
theorem Arrival.suspensionTakesEffect : Arrival.Statement .suspensionTakesEffect := Arrival.free _ rfl trivial rfl
theorem Arrival.stagingComplete : Arrival.Statement .stagingComplete := Arrival.free _ rfl trivial rfl
theorem Arrival.frameStart (frame : Byte) : Arrival.Statement (.frameStart frame) :=
  ⟨⟨fun _ => trivial, fun _ => rfl⟩, fun _ h _ => by cases h; rfl⟩
theorem Arrival.line (number : BitVec 16) (rest : List Byte) : Arrival.Statement (.line number rest) :=
  ⟨⟨fun _ => trivial, fun _ => rfl⟩, fun _ h _ => by cases h; simp [packetCommand, join_halves]⟩
theorem Arrival.frameEnd (frame : Byte) (count : BitVec 16) : Arrival.Statement (.frameEnd frame count) :=
  ⟨⟨fun _ => trivial, fun _ => rfl⟩, fun _ h _ => by cases h; simp [packetCommand, join_halves]⟩
theorem Arrival.otherCameraPacket (bytes : List Byte) : Arrival.Statement (.otherCameraPacket bytes) :=
  ⟨other_packet_iff bytes, fun _ h hw => by cases h; exact of_decide_eq_true hw⟩
theorem Arrival.signalTimerExpiry : Arrival.Statement .signalTimerExpiry := Arrival.free _ rfl trivial rfl
theorem Arrival.captureComplete : Arrival.Statement .captureComplete := Arrival.free _ rfl trivial rfl
theorem Arrival.canFrame (ident : BitVec 11) (dlc : BitVec 4) (data : List Byte) :
    Arrival.Statement (.canFrame ident dlc data) :=
  ⟨decide_eq_true_iff, fun _ h => nomatch h⟩
theorem Arrival.freshnessExpiry (signal : Signal) : Arrival.Statement (.freshnessExpiry signal) :=
  Arrival.free _ rfl trivial rfl
theorem Arrival.stalePeriodEnd : Arrival.Statement .stalePeriodEnd := Arrival.free _ rfl trivial rfl
theorem Arrival.reversePinChange (high : Bool) : Arrival.Statement (.reversePinChange high) :=
  Arrival.free _ rfl trivial rfl
theorem Arrival.pinDebounceExpiry : Arrival.Statement .pinDebounceExpiry := Arrival.free _ rfl trivial rfl
theorem Arrival.holdOffExpiry : Arrival.Statement .holdOffExpiry := Arrival.free _ rfl trivial rfl
theorem Arrival.parkOfferTime : Arrival.Statement .parkOfferTime := Arrival.free _ rfl trivial rfl
theorem Arrival.displayFrameBoundary (display : Display) : Arrival.Statement (.displayFrameBoundary display) :=
  Arrival.free _ rfl trivial rfl
theorem Arrival.guideBuildComplete : Arrival.Statement .guideBuildComplete := Arrival.free _ rfl trivial rfl
theorem Arrival.latePixel (display : Display) (layer : ScanLayer) (column : Nat) :
    Arrival.Statement (.latePixel display layer column) :=
  ⟨decide_eq_true_iff, fun _ h => nomatch h⟩
theorem Arrival.sampleTime : Arrival.Statement .sampleTime := Arrival.free _ rfl trivial rfl
theorem Arrival.startDelayExpiry (stream : Display) : Arrival.Statement (.startDelayExpiry stream) :=
  Arrival.free _ rfl trivial rfl
theorem Arrival.millisecondTick : Arrival.Statement .millisecondTick := Arrival.free _ rfl trivial rfl
theorem Arrival.chimeEnd (pair : Display) : Arrival.Statement (.chimeEnd pair) := Arrival.free _ rfl trivial rfl
theorem Arrival.activeRowFetch (display : Display) : Arrival.Statement (.activeRowFetch display) :=
  Arrival.free _ rfl trivial rfl

end Sys2Proof.Laws
end

