-- ==== Sys2Proof/Tests/Slice0.lean ====
section
/-! SUPPORT. Tests: the checks of WellFormed, small facts that the manual works out, and for each obligation with hypotheses a
concrete state that meets them. -/

namespace Sys2Proof.Tests

open Sys2Proof Sys2Proof.Machine
set_option Elab.async false

/-! ### Helpers -/

/-- The state that a command answers; the reset state where it answers none. -/
def after (c : Instr) (s : State) : State :=
  match exec c s with
  | .next t => t
  | .fault _ => State.reset
  | .refused _ => State.reset

/-- A device in NORMAL with the roles of SERVICE and the link UP. -/
def base : State :=
  { State.reset with
    startup := { State.reset.startup with state := .normal }, roles := some serviceRoles, regions := serviceRegions
    link := { State.reset.link with up := true } }

/-- A request record of 32 bytes that wants its report: kind, tag 7, parameters from offset 6 on. -/
def record (kind : Nat) (params : List Byte) : List Byte :=
  let r := bytesOf 1 kind ++ [1, 7, 0, 0, 0] ++ params
  r ++ zeroBytes (32 - r.length)

/-- The record has arrived at the taker. -/
def taking (rec : List Byte) (s : State) : State := { s with taker := { s.taker with fetch := .arrived rec } }

/-- A frame region of 1 MiB under id 9. -/
def frameRegion (hold : Nat) : Region :=
  { ident := 9, base := 0x2000000, size := 0x100000, kind := .frame, origin := .dynamic, hold := hold, stream := none }

/-- An audio ring of 4 KiB, 1024 frames, under id 8. -/
def ringRegion (stream : Option Display) : Region :=
  { ident := 8, base := 0x1000000, size := 4096, kind := .audioRing, origin := .dynamic, hold := 0, stream := stream }

def withRegions (rs : List Region) (s : State) : State := { s with regions := s.regions ++ rs }

/-- Unmask every fault kind. -/
def unmasked (s : State) : State :=
  { s with rw := { s.rw with faults := Vector.replicate 16 { FaultRecord.reset with masked := false } } }

/-- REAR_LEFT video enabled at 16×16 ARGB8888. -/
def enabled (s : State) : State :=
  s.setLayer .rearLeft .video { s.layer .rearLeft .video with applied := { LayerSetting.default with enable := true } }

def entry (offset : Nat) (time : Time) : QueueEntry := { region := 9, offset := offset, time := time }

def queued (q : List QueueEntry) (s : State) : State :=
  s.setLayer .rearLeft .video { s.layer .rearLeft .video with queue := q }

def systemView (tag : Byte) : View :=
  { owner := .system, tag := tag, video := true, menu := false, background := 0xFF102030#32, pinned := false }

/-! ### WellFormed -/

theorem test_read_of_no_byte_refused : Instr.WellFormed (.linkRead 0 0) = false := by decide
theorem test_read_of_65_bytes_refused : Instr.WellFormed (.linkRead 0 65) = false := by decide
theorem test_write_of_no_byte_refused : Instr.WellFormed (.linkWrite 0 []) = false := by decide
theorem test_write_of_65_bytes_refused : Instr.WellFormed (.linkWrite 0 (List.replicate 65 none)) = false := by decide
theorem test_can_frame_of_wrong_length_refused : Instr.WellFormed (.canFrame 1 9 [0, 0, 0]) = false := by decide
theorem test_line_as_other_packet_refused : Instr.WellFormed (.otherCameraPacket [2, 0, 0]) = false := by decide
theorem test_late_pixel_off_display_refused : Instr.WellFormed (.latePixel .rearLeft .menu 1024) = false := by decide
theorem test_camera_layer_on_rear_refused : Instr.WellFormed (.latePixel .rearLeft .camera 0) = false := by decide
theorem test_can_frame_code_15_has_8_bytes : Instr.WellFormed (.canFrame 1 15 (zeroBytes 8)) = true := by decide

/-! ### Figures the manual works out -/

theorem test_crc16_of_digits : crc16 [0x31, 0x32, 0x33, 0x34, 0x35, 0x36, 0x37, 0x38, 0x39] = 0x29B1#16 := by
  decide +kernel
theorem test_crc32_of_digits : crc32 [0x31, 0x32, 0x33, 0x34, 0x35, 0x36, 0x37, 0x38, 0x39] = 0xCBF43926#32 := by
  decide +kernel
theorem test_rounding : [rndDiv 7 2, rndDiv (-7) 2, rndDiv 5 3, rndDiv (-5) 3, rndDiv 7 (-2), rndDiv 1 3] =
    [4, -4, 2, -2, -4, 0] := by decide
theorem test_mixed_sample_ducked : (mixOut 20000 16 30000 48).toInt = 27500 := by decide
theorem test_white_and_black : (yuvRgb 235 128 128, yuvRgb 16 128 128) =
    ({ r := 255, g := 255, b := 255 }, { r := 0, g := 0, b := 0 }) := by decide

/-! ### Stored records, laid out by the tables of 11.6 and 11.7, their CRC-32 worked out outside the model -/

/-- A layout record: five regions, SPEED and REVERSE entries, two park bands, two clips. -/
def layoutRecord : List Byte :=
  bytesOf 4 156 ++ bytesOf 4 0xBB263792 ++ [5, 2, 2, 2, 3, 2, 0, 1, 4, 0, 255, 0, 136, 19, 0, 0, 15, 0, 0, 0, 0, 0, 3, 0] ++
    [0, 0, 0, 0, 0, 16, 0, 0, 3, 0, 0, 0] ++ [0, 16, 0, 0, 0, 16, 0, 0, 2, 0, 0, 0] ++
    [0, 32, 0, 0, 0, 16, 0, 0, 2, 0, 0, 0] ++ [0, 64, 0, 0, 0, 32, 0, 0, 4, 0, 0, 0] ++
    [0, 0, 16, 0, 0, 0, 96, 0, 1, 0, 0, 0] ++ [35, 1, 2, 0, 2, 0, 1, 0, 255, 255, 244, 1] ++
    [36, 1, 0, 0, 1, 0, 0, 0, 0, 0, 200, 0] ++ [44, 1, 0, 0, 0, 0, 0, 0] ++ [220, 5, 0, 0, 144, 1, 0, 0] ++
    [0, 0, 4, 0, 0, 2, 0, 0, 1, 64, 0, 0] ++ [0, 16, 4, 0, 0, 1, 0, 0, 0, 200, 0, 0]

/-- A calibration record: mirrored picture, crop origin (33, 21), two breakpoints, one mark. -/
def calibrationRecord : List Byte :=
  bytesOf 4 86 ++ bytesOf 4 0xEA4983E2 ++ [33, 0, 21, 0, 1, 100, 124, 64, 176, 3, 2, 1] ++
    [132, 3, 144, 1, 232, 3, 196, 9, 0, 0, 255, 255, 0, 255, 255, 255, 0, 255, 0, 255] ++
    bytesOf 4 (65536 * 640) ++ zeroBytes 12 ++ bytesOf 4 (65536 * 360) ++ zeroBytes 12 ++ bytesOf 4 65536 ++
    [12, 254, 156, 255, 244, 1, 100, 0] ++ [220, 5]

/-- A run of bytes as store cells. -/
def cellsAt : Nat → List Byte → Mem
  | _, [] => []
  | a, v :: rest => if v = 0xFF then cellsAt (a + 1) rest else (a, v) :: cellsAt (a + 1) rest

/-- A device loading from a store that holds both records. -/
def loading (step : Nat) : State :=
  { State.reset with
    startup := { State.reset.startup with step := step }
    store := { Store.delivered with cells := cellsAt 0 calibrationRecord ++ cellsAt 0x10000 layoutRecord } }

set_option maxRecDepth 20000 in
theorem test_layout_record_is_taken :
    ((loading 2).store.validRecord 1 32).bind readLayout = some
      { regions := [
          { ident := 0, base := 0, size := 4096, kind := .control, origin := .layout, hold := 0, stream := none },
          { ident := 1, base := 0x1000, size := 4096, kind := .status, origin := .layout, hold := 0, stream := none },
          { ident := 2, base := 0x2000, size := 4096, kind := .status, origin := .layout, hold := 0, stream := none },
          { ident := 3, base := 0x4000, size := 8192, kind := .requestRing, origin := .layout, hold := 0, stream := none },
          { ident := 4, base := 0x100000, size := 0x600000, kind := .locked, origin := .layout, hold := 0, stream := none }]
        roles := { requestRing := 0x4000, reportRing := 0x2000, controlPage := 0, statusBlock := 0x1000
                   cameraArea := some 0x100000 }
        table := [
          { ident := 0x123, signal := .speed, startByte := 0, width := 2, signed := false, marker := some 0xFFFF
            limitMs := 500 },
          { ident := 0x124, signal := .reverse, startByte := 0, width := 1, signed := false, marker := none, limitMs := 200 }]
        bands := [{ limit := 300, interval := none }, { limit := 1500, interval := some 400 }]
        clips := [
          { offset := 0x40000, length := 512, wanted := true, resident := true, gain := 64 },
          { offset := 0x41000, length := 256, wanted := false, resident := false, gain := 127 }]
        source := .pin, duck := 16, holdOffMs := 5000, exitSpeed := 15, fallbackOffset := 0x30000 } := by
  decide +kernel
set_option maxRecDepth 20000 in
theorem test_calibration_record_is_taken :
    (((loading 3).store.validRecord 0 76).bind readCalibration).map (fun c => (c.camera, c.guide.curve, c.guide.marks)) =
      some ({ cropCol := 32, cropRow := 20, mirror := true, tLo := 100, tHi := 124, dLo := 64, dHi := 176 },
        [(-500, -100), (500, 100)], [1500]) := by
  decide +kernel

/-! ### Resets and the start-up load -/

/-- An erase of block 3 is in progress since time 0. -/
def erasing (s : State) : State :=
  { s with
    store := { s.store with
      state := .erasing
      op := some
        { request := { tag := 7, work := .erase 3 }, source := [], counting := some 0, ran := 0, lastResume := none } } }

theorem test_power_on_reset_begins_loading :
    (after .powerOnReset base).startup.state = .loading ∧ (after .powerOnReset base).link.up = false := by decide
theorem test_pin_reset_stops_time_and_store :
    (after .pinReset (erasing { base with time := 9 })).time = 0 ∧
      (after .pinReset (erasing { base with time := 9 })).store.op = none := by decide
theorem test_load_step_one_finds_incomplete_block :
    let s := { State.reset with
      store := { Store.delivered with marks := Store.delivered.marks.set 5 .incomplete, lockMark := true } }
    (after .loadStepComplete s).store.lockCopy = true ∧
      (after .loadStepComplete s).rw.fault .storeFail = { flag := true, masked := true, counter := 1, detail := 5 } := by
  decide +kernel
theorem test_invalid_layout_gives_service :
    (after .loadStepComplete { State.reset with startup := { State.reset.startup with step := 2 } }).startup.state = .service :=
  by decide +kernel

theorem witness_StepRunsFrontCommand :
    ({ base with pending := [.linkTraining] } : State).pending = [.linkTraining] ∧ base.pending = [] := ⟨rfl, rfl⟩
theorem witness_ResetRestoresDevice :
    (erasing base).store.op.bind StoreOp.target = some 3 ∧
      (erasing base).store.op.bind StoreOp.target ≠ some (blockOf 0x2FFFF) ∧
      (erasing base).store.op.bind StoreOp.target ≠ some (blockOf 0x40000) := by decide
/-- At load step 4, with one clip that asks for residency. -/
def fillingCache : State :=
  { State.reset with
    startup := { State.reset.startup with step := 4 }
    audio := { Audio.reset with
      clips := [{ offset := 0x40000, length := 4, wanted := true, resident := true, gain := 64 }] } }
theorem witness_LoadReadsMarksAndFillsCache :
    State.reset.startup.state = .loading ∧ State.reset.startup.step = 1 ∧ (State.reset.rw.fault .storeFail).counter ≤ 65535 ∧
      fillingCache.startup.state = .loading ∧ fillingCache.startup.step = 4 ∧ fillingCache.audio.clips[0]?.isSome := by
  decide
theorem witness_LoadTakesStoredRecords :
    ((loading 2).startup.state = .loading ∧ (loading 2).startup.step = 2 ∧ (loading 3).startup.step = 3 ∧
      (loading 3).vehicle.records.steering.state ≠ .fresh ∧ (State.reset.store.validRecord 0 76).bind readCalibration = none) ∧
      (((loading 2).store.validRecord 1 32).bind readLayout).isSome ∧
      (((loading 3).store.validRecord 0 76).bind readCalibration).isSome :=
  ⟨by decide +kernel, Option.isSome_of_eq_some test_layout_record_is_taken,
    (Option.isSome_map ..).symm.trans (Option.isSome_of_eq_some test_calibration_record_is_taken)⟩
/-- At load step 5, with roles. -/
def closing (pin : Bool) : State :=
  { State.reset with
    startup := { State.reset.startup with step := 5 }, roles := some serviceRoles
    vehicle := { State.reset.vehicle with pinAccepted := pin } }
theorem witness_LoadCloseStartsDevice :
    (State.reset.store.validRecord 1 32).bind readLayout = none ∧ State.reset.reverse.state = .off ∧
      State.reset.reverse.running = false ∧ (closing true).startup.state = .loading ∧ 5 ≤ (closing true).startup.step ∧
      (closing true).roles = some serviceRoles ∧ (closing true).assertedReverse = true ∧ (closing true).stack .front = [] ∧
      (closing false).assertedReverse = false := by decide
set_option maxRecDepth 20000 in
theorem witness_StoredRecordsTakenOnlyIfValid :
    (readLayout layoutRecord).isSome ∧ (readCalibration calibrationRecord).isSome := by decide +kernel

/-! ### The link -/

theorem base_ready : LinkReady base := ⟨rfl, rfl, by decide, by decide⟩
theorem word_writable (offset : Nat) (h : offset < 4096) : WordWritable base serviceRoles offset :=
  { base_ready with
    named := rfl
    aligned := rfl
    inDram := by decide
    control := ⟨{ ident := 0, base := 0, size := 4096, kind := .control, origin := .layout, hold := 0, stream := none },
      by simp [regionAt, base, serviceRegions, Region.covers, serviceRoles, h], rfl⟩ }

/-- A device whose response list holds `n` reads. -/
def awaiting (n : Nat) : State :=
  { base with link := { base.link with responses := List.replicate n { answer := none, error := false } } }

theorem test_training_refused_while_loading : (after .linkTraining State.reset).link.up = false := by decide
theorem test_training_takes_link_up :
    (after .linkTraining { base with link := LinkPort.reset }).link.up = true := by decide
theorem test_loss_of_link_discards_reads :
    (after .lossOfLink (awaiting 2)).link.up = false ∧ (after .lossOfLink (awaiting 2)).link.responses = [] ∧
      (after .lossOfLink (awaiting 2)).link.answered = [] := by decide
theorem test_read_joins_list_and_path :
    (after (.linkRead 0x40 64) base).link.responses = [{ answer := none, error := false }] ∧
      (after (.linkRead 0x40 64) base).link.path = [.read 0x40 64 true] := by decide
theorem test_read_past_end_answers_zeros :
    (after (.linkRead 0x7FFFFFFF 2) base).link.answered = [{ data := [0, 0], error := true }] ∧
      (after (.linkRead 0x7FFFFFFF 2) base).rw.fault .badAddress =
        { flag := true, masked := true, counter := 1, detail := 0x1FFFFFF } := by decide
theorem test_write_to_status_region_dropped :
    (after (.linkWrite 0x1000 [some 1]) base).link.path = [] ∧
      (after (.linkWrite 0x1000 [some 1]) base).rw.fault .writeGuard =
        { flag := true, masked := true, counter := 1, detail := 1 } := by decide
theorem test_part_of_watched_word_raises :
    (after (.linkWrite 0x4 [some 1, some 0]) base).rw.fault .requestInvalid =
      { flag := true, masked := true, counter := 1, detail := 0x004 } := by decide
theorem test_request_producer_starts_fetch :
    (after (.requestProducerIndex 255) base).taker = { consumer := 0, producer := 255, fetch := .inFlight } ∧
      (after (.requestProducerIndex 255) base).link.path.getLast? = some (.record 0x4000 true) := by decide
theorem test_request_producer_256_ignored :
    (after (.requestProducerIndex 256) base).taker.producer = 0 ∧
      ((after (.requestProducerIndex 256) base).rw.fault .requestInvalid).counter = 1 := by decide
theorem test_report_consumer_beyond_producer_ignored :
    (after (.reportConsumerIndex 1) base).rw.consumer = 0 ∧
      ((after (.reportConsumerIndex 1) base).rw.fault .requestInvalid).detail = 0x004 := by decide
theorem test_media_producer_is_held :
    (after (.mediaProducerIndex .rearRight 77) base).audio.streams.rearRight.held = 77 ∧
      (after (.mediaProducerIndex .rearRight 77) base).audio.streams.rearRight.producer = 0 := by decide

theorem witness_LinkTrainingAndLoss :
    ({ base with link := LinkPort.reset } : State).startup.state ≠ .loading ∧
      ({ base with link := LinkPort.reset } : State).link.up = false ∧ State.reset.startup.state = .loading ∧
      base.link.up = true := by decide
theorem witness_LinkReadsAreTakenInOrder :
    LinkReady base ∧ LinkReady (awaiting 15) ∧ InRange 0 1 ∧ InRange 0x7FFFFFC0 64 ∧ ¬ InRange 0x7FFFFFFF 2 ∧
      ¬ InRange 0x3F 2 ∧ base.link.responses = [] ∧ (awaiting 16).link.up = true ∧
      16 ≤ (awaiting 16).link.responses.length ∧
      (awaiting 15).link.responses = { answer := none, error := false } :: List.replicate 14 { answer := none, error := false } :=
  ⟨base_ready, ⟨rfl, rfl, by decide, by decide⟩, by decide, by decide, by decide, by decide, by decide, by decide, by decide,
    by decide⟩
theorem witness_WriteGuardAndPartialWords :
    LinkReady base ∧ InRange 0x1FFF 1 ∧ ¬ InRange 0x80000000 1 ∧
      (regionAt base.regions 0x1FFF).map Region.kind = some .status ∧
      (regionAt (base.regions ++ [frameRegion 1]) 0x20FFFFF).map (fun r => (r.kind, r.hold)) = some (.frame, 1) ∧
      (regionAt (base.regions ++ [frameRegion 0]) 0x2000000).map (fun r => (r.kind, r.hold)) = some (.frame, 0) ∧
      regionAt base.regions 0x10000000 = none ∧ serviceRoles.controlPage + 0x1C ≤ 0x1C ∧
      (∀ w ∈ watchedWords, enabledBytes 3 [some 1, some 2] (serviceRoles.controlPage + w) < 4) ∧
      (watchedWords.filter fun w => decide (0 < enabledBytes 3 [some 1, some 2] (serviceRoles.controlPage + w))) =
        [0x000, 0x004] ∧
      (regionAt base.regions 3).map Region.kind = some .control ∧ (base.rw.fault .requestInvalid).counter ≤ 65535 :=
  ⟨base_ready, by decide, by decide, by decide, by decide, by decide, by decide, by decide, by decide, by decide, by decide,
    by decide⟩
theorem witness_RequestProducerIsTaken :
    WordWritable base serviceRoles 0x000 ∧ 256 ≤ (256 : BitVec 32).toNat ∧
      (0 : BitVec 32).toNat < 256 ∧ ((0 : BitVec 32).toNat + 256 - base.taker.consumer) % 256 = 0 ∧
      (255 : BitVec 32).toNat < 256 ∧ 0 < ((255 : BitVec 32).toNat + 256 - base.taker.consumer) % 256 ∧
      base.taker.fetch = .idle ∧ (taking [] base).taker.fetch ≠ .idle :=
  ⟨word_writable _ (by decide), by decide, by decide, by decide, by decide, by decide, by decide, by decide⟩
/-- A device with a report ring of `used` reports and `lost` reports lost. -/
def reporting (used lost : Nat) : State := { base with rw := { base.rw with producer := used, lost := lost } }
theorem witness_ReportConsumerIsTaken :
    WordWritable (reporting 127 5) serviceRoles 0x004 ∧ (reporting 127 5).rw.consumer < 128 ∧
      (reporting 127 5).rw.producer < 128 ∧ 128 ≤ (128 : BitVec 32).toNat ∧
      (reporting 3 0).rw.producer < ((4 : BitVec 32).toNat + 128 - 0) % 128 ∧
      (reporting 127 5).rw.lost = 5 ∧ ((reporting 127 5).rw.producer + 128 - (0 : BitVec 32).toNat) % 128 = 127 ∧
      ((reporting 127 5).rw.producer + 128 - (1 : BitVec 32).toNat) % 128 < 127 ∧ (reporting 3 0).rw.lost = 0 :=
  ⟨{ word_writable 4 (by decide) with room := by decide, broughtUp := by decide }, by decide, by decide, by decide,
    by decide, by decide, by decide, by decide, by decide⟩
theorem witness_MediaProducerIsHeld :
    WordWritable base serviceRoles (0x010 + 4 * displayNumber .front) ∧
      WordWritable base serviceRoles (0x010 + 4 * displayNumber .rearRight) :=
  ⟨word_writable _ (by decide), word_writable _ (by decide)⟩

/-! ### The arbiter -/

/-- The accesses that wait in class C. -/
def linked (path : List LinkAccess) (s : State) : State := { s with link := { s.link with path := path } }

/-- Stream 0 plays from the ring of `ringRegion`. -/
def streaming (s : State) : State :=
  s.updateStream .front fun x =>
    { x with running := true, ring := some { region := 8, base := 0x1000000, size := 1024 } }

/-- A report write, a store transfer and a link read wait. -/
def contended (arb : Arbiter) : State :=
  { linked [.read 0 4 false] base with
    arb := arb, rw := { base.rw with queue := [{ addr := 0x2000, bytes := [7, 8], bringUp := false }] }
    store := { base.store with transfers := [.write 0x5000000 [9]] } }

theorem test_granted_write_puts_enabled_bytes :
    let t := after .dramGrant (linked [.write 0x10 [some 0xAB, none, some 0xCD] []] base)
    (t.dram.read 0x10, t.dram.read 0x11, t.dram.read 0x12, t.link.path) = (0xAB, 0, 0xCD, []) := by decide +kernel
theorem test_report_before_link_before_store :
    chooseClient Arbiter.reset (contended Arbiter.reset).waits = some .report ∧
      chooseClient { Arbiter.reset with window := [.b, .a, .b] } (contended Arbiter.reset).waits = some .link ∧
      chooseClient { Arbiter.reset with window := [.b, .a, .b], storeGap := 63 } (contended Arbiter.reset).waits =
        some .store := by decide

theorem witness_GrantGoesByPriorityAndGuarantees :
    (contended Arbiter.reset).arb.posA < 2 ∧ (contended Arbiter.reset).arb.posB < 4 ∧ (∀ c, base.waits c = false) ∧
      (contended Arbiter.reset).waits .store = true ∧ (contended Arbiter.reset).waits .link = true ∧
      (contended { Arbiter.reset with storeGap := 63 }).arb.storeGap = 63 ∧
      (contended { Arbiter.reset with storeGap := 62 }).arb.storeGap ≠ 63 ∧
      (contended { Arbiter.reset with window := [.b, .a, .b] }).arb.window.length = 3 ∧
      (∀ k ∈ (contended { Arbiter.reset with window := [.b, .a, .b] }).arb.window, k = .a ∨ k = .b) ∧
      Client.report ∈ clientsB ∧ Client.camera ∈ clientsA :=
  ⟨by decide, by decide, fun c => by cases c <;> rfl, by decide, by decide, by decide, by decide, by decide, by decide,
    by decide, by decide⟩
theorem witness_LinkAndStoreReceiveTheirShares :
    Arbiter.reset.window.length ≤ 3 ∧ Arbiter.reset.storeGap ≤ 63 ∧
      (List.replicate 4 fun _ : Client => true).length = 4 ∧ (List.replicate 64 fun _ : Client => true).length = 64 ∧
      (∀ w ∈ List.replicate 4 fun _ : Client => true, w .link = true) ∧
      ∀ w ∈ List.replicate 64 fun _ : Client => true, w .store = true :=
  ⟨by decide, by decide, rfl, rfl, fun w h => by rw [List.eq_of_mem_replicate h],
    fun w h => by rw [List.eq_of_mem_replicate h]⟩
theorem witness_GrantedLinkAccessActs :
    base.dram.wf = true ∧ base.link.held = [] ∧
      chooseClient base.arb (linked [.read 0 4 true] (awaiting 1)).waits = some .link ∧
      (linked [.read 0 4 true] (awaiting 1)).link.responses = [{ answer := none, error := false }] ∧
      chooseClient base.arb (linked [.read 0 4 false] base).waits = some .link ∧
      chooseClient base.arb (linked [.write 0x10 [some 1, none] []] base).waits = some .link ∧
      chooseClient base.arb (linked [.record 0x4000 true] base).waits = some .link ∧
      chooseClient base.arb (linked [.write 0x10 [some 0, some 4, some 0, some 0] [(.front, 1024)]] (streaming base)).waits =
        some .link ∧
      base.audio.streams.front.running = false ∧ (streaming base).audio.streams.front.running = true ∧
      (streaming base).audio.streams.front.ring = some { region := 8, base := 0x1000000, size := 1024 } ∧
      1024 ≤ (1024 : BitVec 32).toNat ∧ (1023 : BitVec 32).toNat < 1024 := by decide
theorem witness_GrantedLinkAccessActs_discarded_and_several :
    chooseClient base.arb (linked [.record 0x4000 false] base).waits = some .link ∧
      chooseClient base.arb
        (linked [.write 0x10 (List.replicate 12 (some 0)) [(.front, 1024), (.rearLeft, 0), (.rearRight, 0)]]
          (streaming base)).waits = some .link ∧
      ([(.front, 1024), (.rearLeft, 0), (.rearRight, 0)].map (Prod.fst : Display × BitVec 32 → Display)).Nodup ∧
      ((streaming base).rw.fault .requestInvalid).counter ≤ 65535 := by decide
/-- A scan-out fetch of row 0 of a display's first frame waits. -/
def scanning (d : Display) : State :=
  base.updateScan d fun sc =>
    { sc with frameNo := 1, queue := [{ layer := .video, frameNo := 1, row := 0, addr := 0x2000000, len := 64 }] }
theorem witness_OtherGrantedAccessesAct :
    (contended Arbiter.reset).dram.wf = true ∧ (contended Arbiter.reset).link.held = [] ∧
      chooseClient Arbiter.reset (contended Arbiter.reset).waits = some .report ∧ (contended Arbiter.reset).rw.queue ≠ [] ∧
      chooseClient base.arb
        { base with camera := { base.camera with queue := [{ addr := 0, bytes := [1], bringUp := false }] } }.waits =
          some .camera ∧
      chooseClient { Arbiter.reset with storeGap := 63 } (contended Arbiter.reset).waits = some .store ∧
      (contended Arbiter.reset).store.transfers = [.write 0x5000000 [9]] ∧
      chooseClient base.arb
        { erasing base with store := { (erasing base).store with transfers := [.source 0x5000000 4] } }.waits = some .store ∧
      (erasing base).store.op.isSome ∧
      chooseClient base.arb
        { base with audio := { base.audio with
            fetchQueue := [{ stream := .front, addr := 0x1000000, count := 16, keep := 16 }] } }.waits = some .audio ∧
      chooseClient base.arb (scanning .front).waits = some .frontScan ∧
      chooseClient base.arb (scanning .rearLeft).waits = some .rearLeftScan ∧
      chooseClient base.arb (scanning .rearRight).waits = some .rearRightScan ∧
      (1 = (scanning .front).displays.front.scan.frameNo ∧ (scanning .front).displays.front.scan.nextRow ≤ 1) := by decide

/-! ### Reports and faults -/

/-- A kind whose flag is set, all kinds unmasked. -/
def flagged : State := (unmasked base).raise .storeFail 3

theorem test_report_record_of_fault :
    encodeReport 0x01020304 (.fault .storeFail 258 31) =
      [3, 0, 0, 0, 4, 3, 2, 1, 0, 0, 0, 0, 15, 0, 2, 1, 31, 0, 0, 0] ++ zeroBytes 12 := by decide
theorem test_fault_report_goes_to_slot_and_status_block :
    (flagged.rw.queue.map DeviceWrite.addr) = [0x2000, 0x1028] ∧ flagged.rw.producer = 1 := by decide
theorem test_mask_replaced_and_flag_told :
    let t := after .setFaultMask (taking (record 20 ([0, 0] ++ bytesOf 4 0x7FFF)) (base.raise .storeFail 3))
    (t.rw.fault .storeFail).masked = false ∧ (t.rw.fault .cameraLost).masked = true ∧ t.rw.producer = 2 := by
  decide +kernel
theorem test_faults_cleared :
    let t := after .clearFaults (taking (record 21 ([0, 0] ++ bytesOf 4 0x8000)) flagged)
    t.rw.fault .storeFail = { flag := false, masked := false, counter := 0, detail := 0 } ∧ t.taker.consumer = 1 := by
  decide +kernel
theorem test_unknown_kind_refused :
    (after .unknownRequestKind (taking (record 23 []) base)).rw.queue.map (fun w => w.bytes.take 13) =
      [[2, 0, 7, 0, 0, 0, 0, 0, 1, 0, 0, 0, 23], [1, 0, 0, 0], [1, 0, 0, 0]] := by decide +kernel

theorem witness_ReportsArePlacedAndFaultsRecorded :
    ({ base with link := LinkPort.reset } : State).link.up = false ∧ base.link.up = true ∧ 0 < (reporting 3 1).rw.lost ∧
      ((reporting 127 0).rw.producer + 128 - (reporting 127 0).rw.consumer) % 128 = 127 ∧
      base.roles = some serviceRoles ∧ (reporting 126 0).rw.lost = 0 ∧
      ((reporting 126 0).rw.producer + 128 - (reporting 126 0).rw.consumer) % 128 < 127 ∧
      (flagged.rw.fault .storeFail).flag = true ∧ (base.rw.fault .storeFail).masked = true ∧
      (flagged.rw.fault .cameraLost).flag = false ∧ (flagged.rw.fault .cameraLost).masked = false := by decide
/-- A record of a fault set. -/
def faultSet (kind mask : Nat) : List Byte := record kind ([0, 0] ++ bytesOf 4 mask)
theorem witness_FaultMaskAndClearActOnKinds :
    Arrives (taking (faultSet 20 0xFFFF) base) 20 (faultSet 20 0xFFFF) ∧
      reservedClear (faultSet 20 0xFFFF) [8, 9, 10, 11] = true ∧ fieldAt (faultSet 20 0xFFFF) 8 4 < 0x10000 ∧
      Arrives (taking (faultSet 20 0x10000) base) 20 (faultSet 20 0x10000) ∧ 0x10000 ≤ fieldAt (faultSet 20 0x10000) 8 4 ∧
      Arrives (taking (faultSet 21 0xFFFF) base) 21 (faultSet 21 0xFFFF) ∧
      Arrives (taking (record 21 [1]) base) 21 (record 21 [1]) ∧ reservedClear (record 21 [1]) [8, 9, 10, 11] = false := by
  decide

/-! ### Requests -/

/-- The taker holds a record, and `n` further ones are pending. -/
def takingOf (n : Nat) (rec : List Byte) : State :=
  { taking rec base with taker := { (taking rec base).taker with producer := n + 1 } }

theorem witness_RecordEndsAndTakerMovesOn :
    (takingOf 0 []).roles = some serviceRoles ∧
      ((takingOf 0 []).taker.producer + 256 - ((takingOf 0 []).taker.consumer + 1) % 256) % 256 = 0 ∧
      0 < ((takingOf 3 []).taker.producer + 256 - ((takingOf 3 []).taker.consumer + 1) % 256) % 256 := by decide
theorem witness_CommonChecksRefuse :
    reqKind (record 0 []) = 0 ∧ 22 < reqKind (record 23 []) ∧ requestKindOf .publish = some (reqKind (record 1 [])) ∧
      requestKindOf .systemRestart = some (reqKind (record 22 [])) ∧ reqReserved ([1, 0, 0, 0, 0, 1]) ≠ 0 ∧
      1 < reqWanted ([22, 2, 0, 0, 0, 0]) ∧ reqReserved (record 15 []) = 0 ∧ reqWanted (record 15 []) ≤ 1 ∧
      requestKindOf .stopChimes = some (reqKind (record 15 [])) ∧ reqKind (record 15 []) < 16 ∧
      ({ base with startup := { base.startup with state := .service } } : State).startup.state = .service ∧
      base.taker.fetch = .idle := by decide

/-- PUBLISH on REAR_LEFT video of region 9. -/
def publishing (offset : Nat) : List Byte := record 1 ([1, 0, 9, 0, 0, 0] ++ bytesOf 4 offset ++ bytesOf 4 100)
/-- REAR_LEFT video enabled, a frame region with a hold count, and a queue. -/
def showing (hold : Nat) (q : List QueueEntry) : State := queued q (enabled (withRegions [frameRegion hold] base))

theorem test_publish_joins_tail :
    let t := after .publish (taking (publishing 1024) (showing 1 [entry 0 50]))
    (t.layer .rearLeft .video).queue = [entry 0 50, entry 1024 100] ∧
      (findRegion t.regions 9).map Region.hold = some 2 := by decide +kernel
theorem test_publish_on_full_queue_drops_oldest :
    let t := after .publish (taking (publishing 1024) (showing 4 [entry 0 1, entry 0 2, entry 0 3, entry 0 4]))
    (t.layer .rearLeft .video).queue = [entry 0 2, entry 0 3, entry 0 4, entry 1024 100] ∧
      (t.layer .rearLeft .video).dropped = 1 := by decide +kernel

theorem witness_PublishIsCheckedAndQueued :
    Arrives (taking (publishing 1024) (showing 1 [])) 1 (publishing 1024) ∧
      2 < byteAt (record 1 [3]) 6 ∧ 1 < byteAt (record 1 [0, 2]) 7 ∧ fieldAt (publishing 1026) 12 4 % 4 ≠ 0 ∧
      reservedClear (record 1 [0, 0, 9, 1]) [6, 7, 8, 12, 13, 14, 15, 16, 17, 18, 19] = false ∧
      displayField (byteAt (publishing 1024) 6) = some .rearLeft ∧ layerField (byteAt (publishing 1024) 7) = some .video ∧
      fieldAt (publishing 1024) 12 4 % 4 = 0 ∧
      reservedClear (publishing 1024) [6, 7, 8, 12, 13, 14, 15, 16, 17, 18, 19] = true ∧
      (base.layer .rearLeft .video).applied.enable = false ∧ (∀ r ∈ (enabled base).regions, r.ident ≠ 9) ∧
      ((showing 1 []).layer .rearLeft .video).applied.enable = true ∧
      findRegion (showing 14 []).regions 9 = some (frameRegion 14) ∧ (frameRegion 1).size < 0xFFC04 + 1024 ∧
      0xFFC00 + 1024 ≤ (frameRegion 1).size ∧ 15 ≤ (frameRegion 15).hold ∧ (frameRegion 14).hold < 15 ∧
      ((showing 3 [entry 0 1, entry 0 2, entry 0 3]).layer .rearLeft .video).queue.length < 4 := by decide +kernel
theorem witness_PublishIsCheckedAndQueued_full :
    let s := taking (publishing 1024) (showing 4 [entry 0 1, entry 0 2, entry 0 3, entry 0 4])
    Arrives s 1 (publishing 1024) ∧ checkPublish s (publishing 1024) = .ok (.rearLeft, .video, entry 1024 100) ∧
      (s.layer .rearLeft .video).queue = entry 0 1 :: [entry 0 2, entry 0 3, entry 0 4] ∧
      (s.rw.fault .queueFull).masked = true ∧ ((unmasked s).rw.fault .queueFull).masked = false :=
  ⟨by decide +kernel, rfl, by decide +kernel, by decide +kernel, by decide +kernel⟩

/-- SET_LAYER on REAR_LEFT video with an odd destination beyond the display. -/
def setting (format stride : Nat) : List Byte :=
  record 2 ([1, 0, 1] ++ bytesOf 1 format ++ [0, 0, 1, 2, 3, 255] ++ bytesOf 2 255 ++ bytesOf 2 1920 ++ bytesOf 2 1080 ++
    bytesOf 2 stride ++ bytesOf 2 1025 ++ bytesOf 2 599 ++ bytesOf 2 0 ++ bytesOf 2 601)

theorem test_destination_is_brought_to_grid :
    ((after .setLayer (taking (setting 1 1920) base)).layer .rearLeft .video).staged =
      some { enable := true, format := .nv12, sourceWidth := 1920, sourceHeight := 1080, stride := 1920, x := 1024, y := 598
             w := 16, h := 600, alpha := 255, fill := 0xFF030201#32, cadence := .stream } := by decide +kernel
theorem test_set_layer_stride_too_small_refused :
    ((after .setLayer (taking (setting 0 7679) base)).layer .rearLeft .video).staged = none := by decide +kernel
theorem test_hold_and_release_changes :
    (after .holdChanges (taking (record 3 [2]) base)).displays.rearRight.hold = true ∧
      (after .releaseChanges (taking (record 4 [2]) (after .holdChanges (taking (record 3 [2]) base)))).displays.rearRight.hold
        = false := by decide +kernel

theorem witness_LayerRequestsStageAndHold :
    Arrives (taking (setting 1 1920) base) 2 (setting 1 1920) ∧ 2 < byteAt (record 2 [3]) 6 ∧
      fieldAt (setting 0 7679) 22 2 < fieldAt (setting 0 7679) 18 2 * 4 ∧ fieldAt (setting 1 1919) 22 2 < 1920 ∧
      displayField (byteAt (setting 1 1920) 6) = some .rearLeft ∧ layerField (byteAt (setting 1 1920) 7) = some .video ∧
      flagField (byteAt (setting 1 1920) 8) = some true ∧ formatField (byteAt (setting 1 1920) 9) = some .nv12 ∧
      cadenceField (byteAt (setting 1 1920) 10) = some .stream ∧
      reservedClear (setting 1 1920) setLayerNamed = true ∧ settingOf .rearLeft .video (setting 1 1920) ≠ none ∧
      Arrives (taking (record 3 [2]) base) 3 (record 3 [2]) ∧ Arrives (taking (record 4 [3]) base) 4 (record 4 [3]) ∧
      displayField (byteAt (record 3 [2]) 6) = some .rearRight ∧ reservedClear (record 3 [2]) [6] = true ∧
      2 < byteAt (record 4 [3]) 6 := by decide +kernel

/-- A stack on FRONT. -/
def stacked (st : List View) (s : State) : State := s.setStack .front st
def pinnedCamera : View := cameraViewOf 0 true

theorem test_push_goes_beneath_pinned_camera :
    (after .pushView (taking (record 5 [0, 1, 5, 0, 0, 0, 0x30, 0x20, 0x10, 0xFF]) (stacked [systemView 1, pinnedCamera] base))).stack
      .front = [systemView 1, systemView 5, pinnedCamera] := by decide +kernel
theorem test_push_on_full_stack_gives_up_bottom :
    (after .pushView (taking (record 5 [0, 1, 5, 0, 0, 0, 0x30, 0x20, 0x10, 0xFF])
      (stacked [systemView 1, systemView 2, systemView 3, systemView 4] base))).stack .front =
      [systemView 2, systemView 3, systemView 4, systemView 5] := by decide +kernel
theorem test_pop_of_pinned_camera_keeps_it :
    (after .popView (taking (record 6 [0]) (stacked [systemView 1, pinnedCamera] base))).stack .front =
      [systemView 1, pinnedCamera] := by decide +kernel
theorem test_pop_of_empty_stack_raises :
    ((after .popView (taking (record 6 [2]) base)).rw.fault .viewUnderflow) =
      { flag := true, masked := true, counter := 1, detail := 2 } := by decide +kernel
theorem test_show_camera_gives_manual :
    (after .showCamera (taking (record 7 [0, 0, 4]) base)).reverse.state = .manual ∧
      (after .showCamera (taking (record 7 [0, 0, 4]) base)).stack .front = [cameraViewOf 4 false] := by decide +kernel
theorem test_close_camera_removes_view_beneath :
    let s := stacked [cameraViewOf 4 false, systemView 1] { base with reverse := { base.reverse with state := .manual } }
    (after .closeCamera (taking (record 8 []) s)).reverse.state = .off ∧
      (after .closeCamera (taking (record 8 []) s)).stack .front = [systemView 1] := by decide +kernel

theorem witness_ViewsArePushedAndPopped :
    let pushed := record 5 [0, 3, 5, 0, 0, 0, 1, 2, 3, 255]
    let full := stacked [systemView 1, systemView 2, systemView 3, pinnedCamera] base
    Arrives (taking pushed base) 5 pushed ∧ 3 < byteAt (record 5 [0, 4]) 7 ∧ displayField (byteAt pushed 6) = some .front ∧
      byteAt pushed 7 ≤ 3 ∧ reservedClear pushed [6, 7, 8, 12, 13, 14, 15] = true ∧ (base.stack .front).length < 4 ∧
      (stacked [systemView 1, systemView 2, pinnedCamera] base).stack .front = [systemView 1, systemView 2] ++ [pinnedCamera] ∧
      pinnedCamera.owner = .camera ∧ pinnedCamera.pinned = true ∧
      (stacked [systemView 1] base).stack .front = [systemView 1] ∧ (systemView 1).owner = .system ∧
      4 ≤ (full.stack .front).length ∧ ((unmasked full).rw.fault .viewOverflow).masked = false ∧
      (full.rw.fault .viewOverflow).masked = true ∧
      full.stack .front = [] ++ systemView 1 :: [systemView 2, systemView 3, pinnedCamera] ∧
      Arrives (taking (record 6 [2]) base) 6 (record 6 [2]) ∧ 2 < byteAt (record 6 [3]) 6 ∧
      displayField (byteAt (record 6 [2]) 6) = some .rearRight ∧ reservedClear (record 6 [2]) [6] = true ∧
      base.stack .rearRight = [] ∧ (cameraViewOf 4 false).owner = .camera ∧ (cameraViewOf 4 false).pinned = false := by
  decide +kernel
theorem witness_CameraViewOnRequest :
    let manual := stacked [systemView 1, cameraViewOf 4 false] { base with reverse := { base.reverse with state := .manual } }
    Arrives (taking (record 7 [0, 0, 4]) base) 7 (record 7 [0, 0, 4]) ∧ reservedClear (record 7 [0, 0, 4]) [8] = true ∧
      reservedClear (record 7 [1]) [8] = false ∧ base.reverse.state = .off ∧ manual.reverse.state = .manual ∧
      (∀ v ∈ (stacked [systemView 1] base).stack .front, v.owner = .system) ∧
      ((stacked [systemView 1, systemView 2, systemView 3] base).stack .front).length < 4 ∧
      3 ≤ [systemView 2, systemView 3, systemView 4].length ∧
      Arrives (taking (record 8 []) manual) 8 (record 8 []) ∧ reservedClear (record 8 []) [] = true ∧
      reservedClear (record 8 [1]) [] = false ∧
      ({ base with reverse := { base.reverse with state := .holdOff } } : State).reverse.state = .holdOff ∧
      manual.stack .front = [systemView 1] ++ cameraViewOf 4 false :: [] := by decide +kernel

/-! ### Regions -/

/-- DEFINE_REGION. -/
def defining (kind base size : Nat) : List Byte := record 9 (bytesOf 1 kind ++ [0] ++ bytesOf 4 base ++ bytesOf 4 size)
/-- A device whose region table is full. -/
def crowded : State :=
  { base with
    regions := (List.range 64).map fun i =>
      { ident := i, base := 0x8000 * i, size := 8192, kind := .frame, origin := .dynamic, hold := 0, stream := none } }

theorem test_define_takes_lowest_free_id :
    let t := after .defineRegion (taking (defining 6 0x3000000 4096) (withRegions [ringRegion none] base))
    (findRegion t.regions 4).map (fun r => (r.base, r.size, r.kind, r.origin)) =
        some (0x3000000, 4096, .audioRing, .dynamic) ∧
      (t.rw.queue.map fun w => w.bytes.getD 12 0).head? = some 4 := by decide +kernel
theorem test_define_locked_refused : (after .defineRegion (taking (defining 1 0x3000000 4096) base)).regions.length = 4 := by
  decide +kernel
theorem test_delete_of_held_frame_region_refused :
    (after .deleteRegion (taking (record 10 [9]) (withRegions [frameRegion 1] base))).regions.length = 5 ∧
      (after .deleteRegion (taking (record 10 [9]) (withRegions [frameRegion 0] base))).regions.length = 4 := by
  decide +kernel

theorem witness_RegionsAreDefinedAndDeleted :
    Arrives (taking (defining 5 0x70000000 0x10000000) base) 9 (defining 5 0x70000000 0x10000000) ∧
      fieldAt (defining 5 0x70000000 0x10000000) 8 4 % 4096 = 0 ∧
      fieldAt (defining 5 0x70000000 0x10000000) 12 4 ≤ 0x10000000 ∧
      fieldAt (defining 5 0x70000000 0x10000000) 8 4 + fieldAt (defining 5 0x70000000 0x10000000) 12 4 = 0x80000000 ∧
      reservedClear (defining 5 0x70000000 0x10000000) [6, 8, 9, 10, 11, 12, 13, 14, 15] = true ∧
      regionKindField (byteAt (defining 5 0x70000000 0x10000000) 6) = some .frame ∧
      fieldAt (defining 5 0x3000800 4096) 8 4 % 4096 ≠ 0 ∧
      0x80000000 < fieldAt (defining 5 0x7FFFF000 8192) 8 4 + fieldAt (defining 5 0x7FFFF000 8192) 12 4 ∧
      (∀ r ∈ base.regions, 0x70000000 + 0x10000000 ≤ r.base ∨ r.base + r.size ≤ 0x70000000) ∧
      (∃ r ∈ base.regions, ¬ (0x3000 + 8192 ≤ r.base ∨ r.base + r.size ≤ 0x3000)) ∧ 64 ≤ crowded.regions.length ∧
      (∀ r ∈ crowded.regions, 0x70000000 + 0x10000000 ≤ r.base ∨ r.base + r.size ≤ 0x70000000) ∧
      (∀ r ∈ base.regions, r.ident ≠ 4) ∧ (∀ i, i < 4 → ∃ r ∈ base.regions, r.ident = i) ∧
      Arrives (taking (record 10 [9]) base) 10 (record 10 [9]) ∧ reservedClear (record 10 [9]) [6] = true ∧
      reservedClear (record 10 [9, 1]) [6] = false ∧ (∀ r ∈ base.regions, r.ident ≠ 9) ∧
      (findRegion base.regions 3).map Region.origin = some .layout ∧
      findRegion (withRegions [frameRegion 1] base).regions 9 = some (frameRegion 1) ∧ 0 < (frameRegion 1).hold ∧
      findRegion (withRegions [ringRegion (some .front)] base).regions 8 = some (ringRegion (some .front)) ∧
      (ringRegion (some .front)).stream ≠ none ∧ (ringRegion none).stream = none := by decide +kernel

/-! ### Audio requests -/

/-- AUDIO_START of a stream on region 8. -/
def starting (d gain : Byte) : List Byte := record 11 [d, 8, gain]
/-- A device with the ring of region 8, and a value held for stream 0. -/
def ringed (stream : Option Display) (held : BitVec 32) : State :=
  (withRegions [ringRegion stream] base).updateStream .front fun x => { x with held := held }

theorem test_audio_start_runs_from_zero :
    let t := after .audioStart (taking (starting 0 200) (ringed none 20))
    ((t.audio.streams.front.running, t.audio.streams.front.consumer, t.audio.streams.front.producer),
        (t.audio.streams.front.gEff, t.audio.streams.front.startDelay)) = ((true, 0, 20), (127, some 1000)) ∧
      t.audio.fetchQueue =
        [{ stream := .front, addr := 0x1000000, count := 16, keep := 16 },
         { stream := .front, addr := 0x1000040, count := 4, keep := 4 }] := by decide +kernel
theorem test_audio_start_with_held_value_beyond_ring :
    let t := after .audioStart (taking (starting 0 64) (ringed none 1024))
    t.audio.streams.front.producer = 0 ∧
      t.rw.fault .requestInvalid = { flag := true, masked := true, counter := 1, detail := 0x010 } := by decide +kernel
theorem test_audio_stop_detaches :
    let t := after .audioStop (taking (record 12 [0]) (streaming (ringed (some .front) 20)))
    t.audio.streams.front.running = false ∧ t.audio.streams.front.held = 20 ∧
      (findRegion t.regions 8).map Region.stream = some none := by decide +kernel
theorem test_audio_gain_clamped :
    (after .audioGain (taking (record 13 [0, 0, 128]) (streaming base))).audio.streams.front.setGain = 127 ∧
      (after .audioGain (taking (record 13 [0, 0, 128]) base)).audio.streams.front.setGain = 0 := by decide +kernel

theorem witness_AudioStartRunsStream :
    Arrives (taking (starting 0 64) (ringed none 1023)) 11 (starting 0 64) ∧ 2 < byteAt (starting 3 64) 6 ∧
      displayField (byteAt (starting 0 64) 6) = some .front ∧ reservedClear (starting 0 64) [6, 7, 8] = true ∧
      (∀ r ∈ base.regions, r.ident = 8 → r.kind ≠ .audioRing) ∧
      findRegion (ringed none 1023).regions 8 = some (ringRegion none) ∧ (ringRegion none).kind = .audioRing ∧
      findRegion (ringed (some .rearLeft) 0).regions 8 = some (ringRegion (some .rearLeft)) ∧
      (ringed none 1023).audio.streams.front.held.toNat < (ringRegion none).size / 4 ∧
      (ringRegion none).size / 4 ≤ (ringed none 1024).audio.streams.front.held.toNat ∧
      (ringed none 1023).audio.streams.front.running = false ∧ (ringed none 1023).audio.fetchQueue = [] ∧
      0 < (ringed none 1023).audio.streams.front.held.toNat ∧
      (streaming (ringed (some .front) 0)).audio.streams.front.running = true ∧
      (streaming (ringed (some .front) 0)).audio.streams.front.ring.isSome := by decide +kernel
theorem witness_AudioStopAndGainActOnRunningStream :
    Arrives (taking (record 12 [0]) (streaming base)) 12 (record 12 [0]) ∧ 2 < byteAt (record 12 [3]) 6 ∧
      displayField (byteAt (record 12 [0]) 6) = some .front ∧ reservedClear (record 12 [0]) [6] = true ∧
      base.audio.streams.front.running = false ∧ (streaming base).audio.streams.front.running = true ∧
      (streaming base).audio.streams.front.ring.isSome ∧
      Arrives (taking (record 13 [0, 0, 128]) (streaming base)) 13 (record 13 [0, 0, 128]) ∧
      reservedClear (record 13 [0, 0, 128]) [6, 8] = true ∧ reservedClear (record 13 [0, 1]) [6, 8] = false := by
  decide +kernel

/-! ### Chimes -/

/-- Clips 0 and 2 are resident; clips 1 and 3 are staged, 256 bytes in block 4 and 512 in block 5. -/
def clips : List Clip :=
  [{ offset := 0x40000, length := 4, wanted := true, resident := true, gain := 64 },
   { offset := 0x41000, length := 256, wanted := false, resident := false, gain := 127 },
   { offset := 0x40100, length := 4, wanted := true, resident := true, gain := 32 },
   { offset := 0x50000, length := 512, wanted := false, resident := false, gain := 64 }]
def chime (clip priority arrival : Nat) (owner : ChimeOwner) : Chime :=
  { clip := clip, priority := priority, owner := owner, arrival := arrival }
/-- A device with the clips, a FRONT player and a FRONT queue. -/
def chiming (q : List Chime) (p : Player) : State :=
  { base with
    audio := { base.audio with
      clips := clips, cache := [(0, [0, 64, 0, 192]), (2, [1, 0, 2, 0])]
      chimes := { base.audio.chimes with front := { queue := q, arrivals := 5, player := p } } } }
theorem chiming_settled (q : List Chime) (p : Player) (h : q.length ≤ 4) (hp : p = .idle → q = []) :
    (chiming q p).ChimesSettled :=
  { queues := fun d => by cases d <;> simp [chiming, base, PerDisplay.get, State.reset, Audio.reset, PairChimes.reset, h]
    players := fun d => by cases d <;> simp_all [chiming, base, PerDisplay.get, State.reset, Audio.reset, PairChimes.reset]
    served := fun _ => rfl
    distinct := List.nodup_nil
    waiting := fun _ hd => nomatch hd }
/-- PLAY_CHIME on FRONT. -/
def playing (clip priority : Byte) : List Byte := record 14 [0, clip, priority]
def systemPlaying (priority : Nat) : Player := .playing (chime 0 priority 1 .system) .cache 1

theorem test_resident_clip_plays_at_once :
    (after .playChime (taking (playing 0 9) (chiming [] .idle))).audio.chimes.front =
      { queue := [], arrivals := 6, player := .playing (chime 0 3 5 .system) .cache 0 } := by decide +kernel
theorem test_staged_clip_asks_for_staging :
    let t := after .playChime (taking (playing 1 2) (chiming [] .idle))
    t.store.staging = some { clip := 1, offset := 0x41000, length := 256, phase := .running 0 } ∧
      t.audio.buffer.user = some .front := by decide +kernel
theorem test_stop_chimes_keeps_own :
    let t := after .stopChimes (taking (record 15 [0]) (chiming [chime 0 6 3 .part, chime 2 1 4 .system] (systemPlaying 2)))
    t.audio.chimes.front = { queue := [], arrivals := 5, player := .playing (chime 0 6 3 .part) .cache 0 } := by
  decide +kernel

theorem witness_PlayChimeStartsInIdlePlayer :
    (chiming [] .idle).ChimesSettled ∧ Arrives (taking (playing 1 2) (chiming [] .idle)) 14 (playing 1 2) ∧
      2 < byteAt (record 14 [3]) 6 ∧ (chiming [] .idle).audio.clips.length ≤ byteAt (playing 4 0) 7 ∧
      displayField (byteAt (playing 1 2) 6) = some .front ∧ (chiming [] .idle).audio.clips[byteAt (playing 3 2) 7]?.isSome ∧
      reservedClear (playing 1 2) [6, 7, 8] = true ∧ ((chiming [] .idle).audio.chimes.get .front).player = .idle ∧
      (clips[0]?.map Clip.resident, clips[1]?.map Clip.resident) = (some true, some false) ∧
      (chiming [] .idle).audio.buffer.user = none ∧ (chiming [] .idle).audio.buffer.asked = none ∧
      (chiming [] .idle).audio.buffer.content ≠ some 1 ∧
      (chiming [] .idle).store.unstageable 0x41000 256 = false ∧ (chiming [] .idle).store.state = .idle ∧
      (erasing { (chiming [] .idle) with store := { Store.delivered with op := none } }).store.unstageable 0x30000 2 = true :=
  ⟨chiming_settled _ _ (by decide) (fun _ => rfl), by decide +kernel⟩
/-- The staging buffer holds clip 1; it is in the hands of REAR_LEFT where `user` says so. -/
def buffered (user : Option Display) : State :=
  { chiming [] .idle with
    audio := { (chiming [] .idle).audio with
      buffer := { StagingBuffer.reset with content := some 1, user := user } } }
theorem witness_PlayChimeStartsInIdlePlayer_buffer :
    (buffered none).ChimesSettled ∧ (buffered none).audio.buffer.content = some (byteAt (playing 1 2) 7) ∧
      (buffered none).audio.buffer.user = none ∧ (buffered (some .rearLeft)).audio.buffer.user ≠ none ∧
      (buffered (some .rearLeft)).ChimesSettled :=
  ⟨{ chiming_settled [] .idle (by decide) (fun _ => rfl) with served := fun _ => rfl, waiting := fun _ h => nomatch h },
    by decide, by decide, by decide,
    { chiming_settled [] .idle (by decide) (fun _ => rfl) with served := fun _ => rfl, waiting := fun _ h => nomatch h }⟩
theorem witness_PlayChimeOnBusyPlayerQueuesOrPreempts :
    let full := [chime 1 3 1 .system, chime 1 2 2 .system, chime 1 1 3 .system, chime 1 1 4 .system]
    (chiming full (systemPlaying 3)).ChimesSettled ∧ (chiming [] (systemPlaying 1)).ChimesSettled ∧
      Arrives (taking (playing 2 2) (chiming full (systemPlaying 3))) 14 (playing 2 2) ∧
      displayField (byteAt (playing 2 2) 6) = some .front ∧ clips[byteAt (playing 2 2) 7]?.map Clip.resident = some true ∧
      reservedClear (playing 2 2) [6, 7, 8] = true ∧
      ((chiming full (systemPlaying 3)).audio.chimes.get .front).player.chime = some (chime 0 3 1 .system) ∧
      full = [chime 1 3 1 .system, chime 1 2 2 .system] ++ chime 1 1 3 .system :: [chime 1 1 4 .system] ∧
      (∀ x ∈ [chime 1 3 1 .system, chime 1 2 2 .system], 1 < x.priority) ∧ (∀ x ∈ [chime 1 1 4 .system], 1 ≤ x.priority) ∧
      (∀ x ∈ full, min (byteAt (playing 2 1) 8) 3 ≤ x.priority) ∧
      (chime 0 1 1 .system).priority < min (byteAt (playing 2 2) 8) 3 ∧
      (chiming [] (systemPlaying 1)).audio.buffer.user ≠ some .front :=
  ⟨chiming_settled _ _ (by decide) (fun h => nomatch h), chiming_settled _ _ (by decide) (fun h => nomatch h),
    by decide +kernel⟩
theorem witness_StopChimesRemovesSystemChimes :
    let own := [chime 0 6 3 .part, chime 2 1 4 .system]
    (chiming own (systemPlaying 2)).ChimesSettled ∧ Arrives (taking (record 15 [0]) (chiming own (systemPlaying 2))) 15 (record 15 [0]) ∧
      2 < byteAt (record 15 [3]) 6 ∧ displayField (byteAt (record 15 [0]) 6) = some .front ∧
      reservedClear (record 15 [0]) [6] = true ∧
      ((chiming own (systemPlaying 2)).audio.chimes.front).player.chime = some (chime 0 2 1 .system) ∧
      own.filter (fun c => decide (c.owner = .part)) = [chime 0 6 3 .part] ∧ clips[0]?.map Clip.resident = some true ∧
      (chiming own (.playing (chime 1 5 2 .part) .cache 0)).audio.chimes.front.player.chime = some (chime 1 5 2 .part) ∧
      (chiming [] (systemPlaying 2)).audio.chimes.front.queue = [] ∧ (chiming [] (systemPlaying 2)).audio.buffer.waiters = [] :=
  ⟨chiming_settled _ _ (by decide) (fun h => nomatch h), by decide +kernel⟩

/-! ### The store -/

/-- STORE_READ, or STORE_PROGRAM. -/
def storing (kind offset length addr : Nat) : List Byte :=
  record kind ([0, 0] ++ bytesOf 4 offset ++ bytesOf 4 length ++ bytesOf 4 addr)
/-- A device with a store operation in progress, at a part time. -/
def working (state : StoreState) (op : StoreOp) (time : Time) : State :=
  { base with time := time, store := { base.store with state := state, op := some op } }
def op (work : StoreWork) (source : List Byte) (counting : Option Time) : StoreOp :=
  { request := { tag := 7, work := work }, source := source, counting := counting, ran := 0, lastResume := none }
/-- Four lock requests wait. -/
def storeFull : State := { base with store := { base.store with queue := List.replicate 4 { tag := 1, work := .lock } } }
def lockedStore : State := { base with store := { base.store with lockMark := true, lockCopy := true } }

theorem test_program_marks_block_incomplete :
    let t := after .storeProgram (taking (storing 17 0x20000 4 0x5000000) base)
    (t.store.state, t.store.marks[2], t.store.transfers) = (.programming, .incomplete, [.source 0x5000000 4]) := by
  decide +kernel
theorem test_program_of_locked_block_refused :
    (after .storeProgram (taking (storing 17 0x100 4 0x5000000) lockedStore)).store.state = .idle := by decide +kernel
theorem test_read_presents_erased_bytes :
    (after .storeRead (taking (storing 16 0x20000 2 0x5000000) base)).store.transfers = [.write 0x5000000 [0xFF, 0xFF]] := by
  decide +kernel
theorem test_erase_of_block_31_starts :
    (after .storeErase (taking (record 18 [31]) base)).store.table[31] = .incomplete ∧
      (after .storeErase (taking (record 18 [32]) base)).store.state = .idle := by decide +kernel
theorem test_lock_of_locked_store_completes_at_once :
    let t := after .storeLockCalibration (taking (record 19 []) lockedStore)
    (t.store.state, t.store.lastKind, t.store.lastTag) = (.idle, 19, 7) := by decide +kernel
theorem test_program_ands_into_page :
    let old := { base.store with cells := [(0x20000, 0x0F)] }
    let s := { working .programming (op (.program 0x20000 2 0) [0x3C, 0x55] (some 0)) 600 with
      store := { (working .programming (op (.program 0x20000 2 0) [0x3C, 0x55] (some 0)) 600).store with cells := old.cells } }
    let t := after .storeProgramComplete s
    (t.store.byte 0x20000, t.store.byte 0x20001, t.store.lastCode) = (0x0C, 0x55, .verifyFail) ∧
      (t.rw.fault .storeFail).detail = 2 := by decide +kernel
theorem test_program_runs_600_microseconds :
    (after .storeProgramComplete (working .programming (op (.program 0x20000 1 0) [0] (some 0)) 599)).store.op.isSome := by
  decide +kernel
theorem test_erase_leaves_block_erased :
    let s := working .erasing (op (.erase 3) [] (some 0)) 120000
    let t := after .storeEraseComplete { s with store := { s.store with cells := [(0x2FFFF, 1), (0x30000, 2), (0x40000, 3)] } }
    (t.store.byte 0x2FFFF, t.store.byte 0x30000, t.store.byte 0x40000, t.store.state) = (1, 0xFF, 3, .idle) := by
  decide +kernel
theorem test_lock_write_sets_lock :
    let t := after .lockWriteComplete (working .programming (op .lock [] (some 0)) 600)
    t.store.lockMark = true ∧ t.store.lockCopy = true := by decide +kernel
theorem test_read_completes_after_last_grant :
    (after .storeReadComplete (working .reading (op (.read 0x20000 4 0) [] none) 9)).store.lastKind = 16 := by decide +kernel
theorem test_restart_posts_done_in_slot_zero :
    let t := after .systemRestart (taking (record 22 []) (reporting 9 3))
    t.rw.producer = 1 ∧ t.rw.lost = 0 ∧ (t.rw.queue.map DeviceWrite.addr) = [0x1024, 0x1028, 0x2000, 0x1028] := by
  decide +kernel

theorem witness_StoreRequestIsCheckedAndQueued :
    Arrives (taking (storing 16 0x1FF000 4096 0x5000000) base) 16 (storing 16 0x1FF000 4096 0x5000000) ∧
      4096 < fieldAt (storing 16 0 4097 0) 12 4 ∧ fieldAt (storing 16 0x1FF000 4096 0) 8 4 + 4096 = 0x200000 ∧
      0x200000 < fieldAt (storing 16 0x1FF001 4096 0) 8 4 + 4096 ∧
      (0x80000000 < 0x7FFFFFFF + 2 ∧ ¬ 0x80000000 < 0x7FFFFFFF + 1) ∧
      (∃ r ∈ base.regions, (r.kind = .locked ∨ r.kind = .status) ∧ 0x2FFF < r.base + r.size ∧ r.base < 0x2FFF + 4096) ∧
      (¬ ∃ r ∈ base.regions, (r.kind = .locked ∨ r.kind = .status) ∧ 0x3000 < r.base + r.size ∧ r.base < 0x3000 + 4096) ∧
      4 ≤ storeFull.store.queue.length ∧ (erasing base).store.state ≠ .idle ∧
      Arrives (taking (storing 17 0x1FFF00 256 0x5000000) base) 17 (storing 17 0x1FFF00 256 0x5000000) ∧
      fieldAt (storing 17 0x80 1 0) 8 4 % 256 ≠ 0 ∧ 256 < fieldAt (storing 17 0 257 0) 12 4 ∧
      fieldAt (storing 17 0xFF00 1 0) 8 4 < 0x10000 ∧ lockedStore.store.lockCopy = true ∧
      (∃ r ∈ storeFull.store.queue, r.work = .lock) ∧ Arrives (taking (record 18 [31]) base) 18 (record 18 [31]) ∧
      31 < byteAt (record 18 [32]) 6 ∧ byteAt (record 18 [0]) 6 = 0 ∧
      Arrives (taking (record 19 []) base) 19 (record 19 []) ∧ reservedClear (record 19 [1]) [] = false := by decide +kernel
theorem witness_StoreRequestStartsInIdleStore :
    base.store.state = .idle ∧ base.store.staging = none ∧ base.store.queue = [] ∧ base.store.op = none ∧
      Arrives (taking (storing 16 0x1FF000 4096 0x5000000) base) 16 (storing 16 0x1FF000 4096 0x5000000) ∧
      checkRead base (storing 16 0x1FF000 4096 0x5000000) = none ∧
      checkProgram base (storing 17 0x1FFF00 256 0x5000000) = none ∧ checkErase base (record 18 [31]) = none ∧
      Arrives (taking (record 19 []) lockedStore) 19 (record 19 []) ∧ reservedClear (record 19 []) [] = true ∧
      base.store.lockCopy = false ∧ lockedStore.store.lockCopy = true ∧ lockedStore.roles = some serviceRoles := by
  decide +kernel
theorem witness_SystemRestartRestoresLinkSide :
    let manual := { base with reverse := { base.reverse with state := .manual } }
    Arrives (taking (record 22 []) manual) 22 (record 22 []) ∧ manual.roles = some serviceRoles ∧ manual.link.up = true ∧
      reservedClear (record 22 []) [] = true ∧ reservedClear (record 22 [1]) [] = false ∧ reqWanted (record 22 []) = 1 := by
  decide +kernel
theorem witness_StoreCompletionIsRecordedAndFollowed :
    base.roles = some serviceRoles ∧ base.store.staging = none ∧ base.store.queue = [] ∧
      (∃ g, ({ base with store := { base.store with
        staging := some { clip := 1, offset := 0x41000, length := 256, phase := .waiting } } } : State).store.staging = some g) ∧
      storeFull.store.queue = { tag := 1, work := .lock } :: List.replicate 3 { tag := 1, work := .lock } ∧
      storeFull.store.lockCopy = false :=
  ⟨rfl, rfl, rfl, ⟨_, rfl⟩, rfl, rfl⟩
theorem witness_ProgramAndsSourceIntoPage :
    let prog := op (.program 0x20000 2 0) [0x3C, 0x55] (some 0)
    (working .programming prog 600).Canonical ∧ (working .programming prog 600).store.state = .programming ∧
      (working .programming prog 600).store.op = some prog ∧ prog.source.length = 2 ∧
      prog.ran + elapsed (working .programming prog 599).time 0 < 600 ∧
      600 ≤ prog.ran + elapsed (working .programming prog 600).time 0 ∧
      (∀ v ∈ prog.source, (0xFF : Byte) &&& v = v) ∧ (0x0F : Byte) &&& 0x3C ≠ 0x3C :=
  ⟨⟨by decide, by decide⟩, by decide +kernel⟩
theorem witness_EraseLockAndReadComplete :
    let erase := op (.erase 31) [] (some 0)
    let read := op (.read 0x2FFFF 2 0) [] none
    (working .erasing erase 120000).store.op = some erase ∧ erase.counting = some 0 ∧
      120000 ≤ erase.ran + elapsed (120000 : Time) 0 ∧ erase.ran + elapsed (119999 : Time) 0 < 120000 ∧ 31 < 32 ∧
      (op .lock [] (some 0)).request.work = .lock ∧ 600 ≤ elapsed (600 : Time) 0 ∧ elapsed (599 : Time) 0 < 600 ∧
      (working .reading read 9).store.op = some read ∧ (working .reading read 9).store.transfers = [] ∧
      (working .reading read 9).store.status 2 ≠ .incomplete ∧ (0x2FFFF / 65536 = 2 ∧ (0x2FFFF + 2 - 1) / 65536 = 3) ∧
      ((working .reading read 9).store.setStatus 3 .incomplete).status 3 = .incomplete ∧
      ((working .reading read 9).store.setStatus 3 .incomplete).status 2 ≠ .incomplete ∧
      ({ (working .reading read 9).store with transfers := [.write 0 [1]] } : Store).transfers ≠ [] := by decide +kernel
/-- An operation in progress with a staging of clip 1. -/
def stagingIn (state : StoreState) (o : Option StoreOp) (phase : StagingPhase) (time : Time) (user : Option Display) : State :=
  { chiming [] (.starting (chime 1 2 1 .system)) with
    time := time
    store := { base.store with
      state := state, op := o, staging := some { clip := 1, offset := 0x41000, length := 256, phase := phase } }
    audio := { (chiming [] (.starting (chime 1 2 1 .system))).audio with
      buffer := { StagingBuffer.reset with user := user, asked := some 1 } } }
theorem test_suspension_asked_after_two_milliseconds :
    let o := { op (.erase 3) [] (some 0) with lastResume := some 0 }
    (after .suspensionAsk (stagingIn .erasing (some o) .waiting 2000 none)).store.staging.map Staging.phase =
        some (.asked 2000) ∧
      (after .suspensionAsk (stagingIn .erasing (some o) .waiting 1999 none)).store.staging.map Staging.phase =
        some .waiting := by decide +kernel
theorem test_suspension_stops_running_time :
    let t := after .suspensionTakesEffect (stagingIn .erasing (some (op (.erase 3) [] (some 10))) (.asked 20) 50 none)
    t.store.state = .suspendedErase ∧ t.store.op.map StoreOp.ran = some 40 ∧
      t.store.op.map StoreOp.counting = some none := by decide +kernel
theorem test_staging_takes_44_microseconds :
    (after .stagingComplete (stagingIn .reading none (.running 0) 43 (some .front))).audio.buffer.content = none ∧
      (after .stagingComplete (stagingIn .reading none (.running 0) 44 (some .front))).audio.buffer.content = some 1 ∧
      (after .stagingComplete (stagingIn .reading none (.running 0) 44 (some .front))).audio.chimes.front.player =
        .playing (chime 1 2 1 .system) .staging 0 := by decide +kernel
theorem witness_StagingSuspendsAndResumes :
    let o := { op (.erase 3) [] (some 0) with lastResume := some 0 }
    (stagingIn .erasing (some o) .waiting 2000 none).store.op = some o ∧
      (stagingIn .erasing (some o) .waiting 2000 none).store.staging.map Staging.phase = some .waiting ∧
      2000 ≤ elapsed (2000 : Time) 0 ∧ elapsed (1999 : Time) 0 < 2000 ∧
      (stagingIn .erasing (some o) (.asked 0) 9 none).store.staging.map Staging.phase = some (.asked 0) ∧
      (stagingIn .suspendedErase (some o) (.running 0) 44 (some .front)).store.state = .suspendedErase ∧
      40 + 4 * ((256 + 255) / 256) ≤ elapsed (44 : Time) 0 ∧ elapsed (43 : Time) 0 < 40 + 4 * ((256 + 255) / 256) ∧
      (stagingIn .suspendedErase (some o) (.running 0) 44 (some .front)).audio.buffer.user = some .front ∧
      ((stagingIn .suspendedErase (some o) (.running 0) 44 (some .front)).audio.chimes.get .front).player =
        .starting (chime 1 2 1 .system) ∧
      (stagingIn .reading none (.running 0) 44 none).store.state = .reading ∧
      (stagingIn .reading none (.running 0) 44 none).store.queue = [] ∧
      (stagingIn .reading none (.running 0) 44 none).audio.buffer.user = none ∧
      (stagingIn .reading none (.running 0) 44 none).audio.buffer.waiters = [] := by decide +kernel
theorem witness_StagingSuspendsAndResumes_settled :
    (stagingIn .suspendedErase none (.running 0) 44 (some .front)).ChimesSettled :=
  { chiming_settled [] (.starting (chime 1 2 1 .system)) (by decide) (fun _ => rfl) with
    served := fun _ => rfl, waiting := fun _ h => nomatch h }

/-! ### The camera receiver -/

/-- A running receiver with its capture area at 0x100000, in an alignment state, with a frame open or none. -/
def seeing (a : Machine.Alignment) (f : Option OpenFrame) : State :=
  { base with
    roles := some { serviceRoles with cameraArea := some 0x100000 }
    camera := { Camera.reset with
      running := true, align := a, frame := f, timer := some 20000, writing := f.map fun _ => 1
      newest := some (0, 0), previous := some 4 } }
/-- Frame 5, open, with its next expected line and its concealed lines. -/
def opened (expected concealed : Nat) : OpenFrame :=
  { number := 5, expected := expected, concealed := concealed, inOrder := true, lumaSum := 0, jumped := false, rowAbove := none }
/-- What follows the line number in a LINE whose payload bytes are all 64: the payload and a CRC. -/
def greyLine (crc : List Byte) : List Byte := List.replicate 2688 64 ++ crc
/-- A frame of one mean luma has closed in LOCKED, all its writes granted. -/
def captured (mean gain : Nat) (candidate : Option Direction) : State :=
  { seeing .locked none with
    camera := { (seeing .locked none).camera with
      writing := some 1, completing := some (230400 * mean), gain := gain, candidate := candidate } }

/-- A capture still to complete after the signal has been lost. -/
def silentCapture : State := { captured 90 16 none with camera := { (captured 90 16 none).camera with align := .noSignal } }

theorem test_frame_start_opens_free_buffer :
    let t := after (.frameStart 5) (seeing .locked none)
    t.camera.writing = some 1 ∧ t.camera.frame.map OpenFrame.jumped = some false ∧ t.camera.previous = some 5 := by
  decide +kernel
theorem test_frame_start_ends_no_signal :
    let t := after (.frameStart 5) (seeing .noSignal none)
    t.camera.align = .verify ∧ t.rw.producer = 2 := by decide +kernel
theorem test_frame_start_waits_for_capture :
    let t := after (.frameStart 5) silentCapture
    let u := after .captureComplete t
    t.camera.align = .search ∧ t.camera.timer = some 20000 ∧ t.camera.frame = none ∧ u.camera.align = .verify ∧
      u.camera.newest.map Prod.fst = some 1 ∧ u.camera.writing = some 0 := by decide +kernel
set_option maxRecDepth 60000 in
theorem test_line_with_right_crc_is_written :
    let t := after (.line 20 (greyLine [0x5A, 0xEE])) (seeing .locked (some (opened 20 0)))
    t.camera.frame.map (fun f => (f.expected, f.concealed)) = some (21, 0) ∧ t.camera.queue.length = 40 ∧
      (t.camera.queue.head?.map fun w => (w.addr, w.bytes)) = some (0x100000 + 1843200, List.replicate 64 64) := by
  decide +kernel
theorem test_short_line_is_concealed_black :
    let t := after (.line 20 [1, 2]) (seeing .locked (some (opened 20 0)))
    t.camera.frame.map (fun f => (f.expected, f.concealed)) = some (21, 1) ∧
      (t.camera.queue.head?.map fun w => w.bytes.take 4) = some [16, 128, 16, 128] := by decide +kernel
theorem test_second_good_frame_locks :
    let s := seeing .verify (some (opened 760 0))
    let t := after (.frameEnd 5 760) { s with camera := { s.camera with goodRun := 1 } }
    (t.camera.align, t.camera.freshLock, t.camera.frame) = (.locked, true, none) := by decide +kernel
theorem test_fourth_errored_frame_gives_search :
    let s := seeing .locked (some (opened 760 17))
    let t := after (.frameEnd 5 760) { s with camera := { s.camera with erroredRun := 3 } }
    t.camera.align = .search ∧
      t.rw.fault .cameraErrored = { flag := true, masked := true, counter := 1, detail := 5 } := by decide +kernel
theorem test_other_packet_restarts_timer :
    (after (.otherCameraPacket [9]) { seeing .locked none with time := 7 }).camera.timer = some 20007 := by decide +kernel
theorem test_silence_gives_no_signal :
    (after .signalTimerExpiry { seeing .locked none with time := 20000 }).camera.align = .noSignal ∧
      (after .signalTimerExpiry { seeing .locked none with time := 19999 }).camera.align = .locked := by decide +kernel
theorem test_dark_frame_sets_gain_in_fast_mode :
    (after .captureComplete (captured 50 16 none)).camera.gain = 45 ∧
      (after .captureComplete (captured 50 16 none)).camera.newest = some (1, 0) ∧
      (after .captureComplete (captured 16 16 none)).camera.gain = 63 := by decide +kernel
theorem test_second_frame_in_one_direction_steps_gain :
    (after .captureComplete (captured 90 16 (some .up))).camera.gain = 17 ∧
      (after .captureComplete (captured 90 16 none)).camera.gain = 16 := by decide +kernel

theorem witness_FrameStartOpensFrame :
    (seeing .locked none).camera.running = true ∧ (seeing .locked none).camera.deferred = [] ∧
      (captured 90 16 none).camera.completing ≠ none ∧ (captured 90 16 none).camera.align ≠ .noSignal ∧
      silentCapture.camera.running = true ∧ silentCapture.camera.deferred = [] ∧
      silentCapture.camera.align = .noSignal ∧ silentCapture.camera.completing ≠ none ∧
      ((seeing .locked none).camera.newest.map Prod.fst = some 0 ∧ (seeing .locked none).camera.displaying ≠ some 1) ∧
      (∀ j : Fin 3, j < 1 → (seeing .locked none).camera.newest.map Prod.fst = some j) ∧
      (seeing .locked none).camera.completing = none ∧ (seeing .locked none).camera.frame = none ∧
      (seeing .search none).camera.align = .search ∧ (seeing .noSignal none).camera.align = .noSignal ∧
      (seeing .verify (some (opened 3 0))).camera.frame = some (opened 3 0) ∧
      (seeing .locked (some (opened 3 0))).camera.erroredRun < 3 := by decide +kernel
set_option maxRecDepth 60000 in
theorem witness_LineIsTakenOrConcealed :
    (seeing .locked (some (opened 20 0))).camera.running = true ∧ (seeing .locked (some (opened 20 0))).camera.deferred = [] ∧
      (seeing .locked (some (opened 20 0))).cameraArea = some 0x100000 ∧
      (seeing .locked (some (opened 20 0))).camera.writing = some 1 ∧
      (19 : BitVec 16).toNat < (opened 20 0).expected ∧ 759 < (760 : BitVec 16).toNat ∧
      (20 : BitVec 16).toNat = (opened 20 0).expected ∧ CameraConfig.default.cropRow ≤ 20 ∧
      20 < CameraConfig.default.cropRow + 720 ∧ CameraConfig.default.cropCol ≤ 64 ∧
      (greyLine [0x5A, 0xEE]).length = 2690 ∧
      crc16 (bytesOf 2 20 ++ (greyLine [0x5A, 0xEE]).take 2688) =
        BitVec.ofNat 16 (256 * byteAt (greyLine [0x5A, 0xEE]) 2688 + byteAt (greyLine [0x5A, 0xEE]) 2689) ∧
      ([1, 2] : List Byte).length ≠ 2690 ∧
      (0 : BitVec 16).toNat = (opened 0 0).expected ∧ ¬ CameraConfig.default.cropRow ≤ (0 : BitVec 16).toNat ∧
      (opened 5 0).expected < (20 : BitVec 16).toNat ∧ (20 : BitVec 16).toNat ≤ 759 := by decide +kernel
theorem witness_FrameEndClassifiesFrame :
    (seeing .locked (some (opened 760 16))).camera.frame = some (opened 760 16) ∧
      ((5 : Byte) = (opened 760 16).number ∧ (760 : BitVec 16) = 760 ∧ (opened 760 16).jumped = false ∧
        ((opened 760 16).concealedTo CameraConfig.default 760).concealed ≤ 16) ∧
      ((opened 760 0).concealedTo CameraConfig.default 760).concealed = 0 ∧ (opened 760 0).inOrder = true ∧
      (seeing .verify (some (opened 760 0))).camera.align = .verify ∧
      (seeing .verify (some (opened 760 0))).camera.goodRun = 0 ∧
      (seeing .locked (some (opened 743 0))).camera.erroredRun < 3 := by decide +kernel
theorem witness_SignalTimerWatchesPackets :
    isOtherPacket [9] = true ∧ isOtherPacket [] = true ∧ isOtherPacket [1, 5] = false ∧
      (seeing .locked none).camera.align ≠ .noSignal ∧ (seeing .noSignal none).camera.align = .noSignal ∧
      (seeing .locked none).camera.timer = some 20000 ∧ ((19999 : Time) - 20000).toInt < 0 ∧
      0 ≤ ((20000 : Time) - 20000).toInt ∧ (seeing .locked (some (opened 3 0))).camera.frame = some (opened 3 0) := by
  decide +kernel
theorem witness_CaptureCompletesAndSetsGain :
    (captured 50 16 none).camera.completing = some (230400 * 50) ∧ (captured 50 16 none).camera.queue = [] ∧
      (captured 50 16 none).camera.deferred = [] ∧ 16 ≤ (captured 50 16 none).camera.gain ∧
      (captured 50 63 none).camera.gain ≤ 63 ∧
      min 235 (max 16 (16 + ((((230400 * 63 / 230400 : Nat) : Int) - 16) * 16 + 8) / 16)) < CameraConfig.default.dLo ∧
      min 235 (max 16 (16 + ((((230400 * 64 / 230400 : Nat) : Int) - 16) * 16 + 8) / 16)) = CameraConfig.default.dLo ∧
      (captured 99 16 (some .up)).camera.candidate = some .up ∧ (captured 125 16 none).camera.candidate = none ∧
      (CameraConfig.default.tLo, CameraConfig.default.tHi) = (100, 124) := by decide +kernel

/-! ### Vehicle signals and reverse -/

/-- SPEED on 0x123 (two bytes, marker 0xFFFF), REVERSE on 0x124, STEERING on 0x125 (signed), PARK_DISTANCE on 0x126. -/
def accepts : List AcceptEntry :=
  [{ ident := 0x123, signal := .speed, startByte := 0, width := 2, signed := false, marker := some 0xFFFF, limitMs := 500 },
   { ident := 0x124, signal := .reverse, startByte := 7, width := 1, signed := false, marker := none, limitMs := 200 },
   { ident := 0x125, signal := .steering, startByte := 0, width := 1, signed := true, marker := none, limitMs := 100 },
   { ident := 0x126, signal := .parkDistance, startByte := 0, width := 2, signed := false, marker := none, limitMs := 50 }]
/-- A guide configuration: straight at 0, 100 at 500. -/
def guideConfig : GuideConfig :=
  { halfWidth := 900, overhang := 400, curve := [(-500, -100), (500, 100)], marks := [1500], b1 := 1000, b2 := 2500
    homography := { h11 := 65536, h12 := 0, h13 := 0, h21 := 0, h22 := 65536, h23 := 0, h31 := 0, h32 := 0, h33 := 65536 }
    lineHalf := 1, near := 0xFFFF0000#32, mid := 0xFFFFFF00#32, far := 0xFF00FF00#32 }
/-- A car with the acceptance table, the reverse controller running in a state. -/
def driving (r : ReverseState) (source : ReverseSource) (pin : Bool) : State :=
  { chiming [] .idle with
    vehicle := { base.vehicle with receiving := true, table := accepts, pinAccepted := pin, pinLevel := pin }
    reverse := { base.reverse with running := true, state := r, source := source, exitSpeed := 15 }
    guide := { base.guide with config := some guideConfig } }
/-- The same, with one signal's record. -/
def told (g : Signal) (v : SignalRecord) (s : State) : State :=
  { s with vehicle := { s.vehicle with records := s.vehicle.records.put g v } }
def fresh (v : Int) (deadline : Time) : SignalRecord :=
  { value := v, state := .fresh, deadline := some deadline, staleSince := none }
def stale (v : Int) (since : Time) : SignalRecord :=
  { value := v, state := .stale, deadline := none, staleSince := some since }

theorem test_speed_above_exit_ends_hold_off :
    let s := stacked [systemView 1, pinnedCamera] (driving .holdOff .pin false)
    (after (.canFrame 0x123 2 [0, 16]) s).reverse.state = .off ∧
      (after (.canFrame 0x123 2 [0, 16]) s).stack .front = [systemView 1] ∧
      (after (.canFrame 0x123 2 [0, 15]) s).reverse.state = .holdOff := by decide +kernel
theorem test_steering_sets_curvature :
    let t := after (.canFrame 0x125 1 [0x83]) (driving .off .pin false)
    t.vehicle.records.steering = fresh (-125) 100000 ∧ t.guide.kappa = -25 := by decide +kernel
theorem test_freshness_runs_out :
    let t := after (.freshnessExpiry .speed) { told .speed (fresh 9 500) (driving .off .pin false) with time := 500 }
    t.vehicle.records.speed = stale 9 500 ∧ (t.rw.fault .signalStale).detail = 2 := by decide +kernel
theorem test_stale_reverse_released_after_two_seconds :
    let s := stacked [pinnedCamera] (told .reverse (stale 1 0) (driving .engaged .bus false))
    (after .stalePeriodEnd { s with time := 2000000 }).reverse.state = .holdOff ∧
      (after .stalePeriodEnd { s with time := 1999999 }).reverse.state = .engaged := by decide +kernel
theorem test_pin_change_is_timed :
    (after (.reversePinChange true) { base with time := 5 }).vehicle.pinChanged = 5 ∧
      (after (.reversePinChange false) { base with time := 5 }).vehicle.pinChanged = 0 := by decide +kernel
theorem test_pin_high_for_20_ms_engages :
    let s := { driving .off .pin false with
      time := 20000, vehicle := { (driving .off .pin false).vehicle with pinLevel := true } }
    (after .pinDebounceExpiry s).reverse.state = .engaged ∧ (after .pinDebounceExpiry s).stack .front = [pinnedCamera] ∧
      (after .pinDebounceExpiry s).audio.chimes.front.player = .playing (chime 0 6 5 .part) .cache 0 := by decide +kernel
theorem test_hold_off_end_removes_camera :
    let s := stacked [systemView 1, pinnedCamera] { driving .holdOff .pin false with
      time := 9, reverse := { (driving .holdOff .pin false).reverse with timer := some 9 } }
    (after .holdOffExpiry s).reverse.state = .off ∧ (after .holdOffExpiry s).stack .front = [systemView 1] := by
  decide +kernel

theorem witness_CanFrameRefreshesSignal :
    ([0, 16] : List Byte).length = min (2 : BitVec 4).toNat 8 ∧ (zeroBytes 8).length = min (15 : BitVec 4).toNat 8 ∧
      ([0] : List Byte).length ≠ min (2 : BitVec 4).toNat 8 ∧ base.vehicle.receiving = false ∧
      (driving .off .pin false).vehicle.receiving = true ∧
      (∀ e ∈ (driving .off .pin false).vehicle.table, e.ident ≠ (0x127 : BitVec 11).toNat) ∧
      (driving .off .pin false).vehicle.table = [] ++ accepts[0] :: accepts.drop 1 ∧
      accepts[0].ident = (0x123 : BitVec 11).toNat ∧ (∀ x ∈ [] ++ accepts.drop 1, x.ident ≠ (0x123 : BitVec 11).toNat) ∧
      accepts[0].width = 2 ∧ ([0] : List Byte).length < accepts[0].startByte + accepts[0].width ∧
      accepts[0].startByte + accepts[0].width ≤ ([0, 16] : List Byte).length ∧ accepts[0].marker = some (256 * 255 + 255) ∧
      accepts[0].marker ≠ some 16 ∧ accepts[1].signal = .reverse ∧ accepts[2].signal = .steering ∧
      accepts[2].signed = true ∧ accepts[3].signal = .parkDistance ∧
      (driving .off .pin false).guide.config = some guideConfig ∧ base.guide.config = none ∧
      (driving .holdOff .pin false).reverse.running = true ∧ (driving .holdOff .pin false).reverse.exitSpeed < 16 ∧
      (driving .off .pin false).park.active = false ∧ (driving .off .pin false).vehicle.records.reverse.value = 0 ∧
      (driving .off .pin false).vehicle.candidate ≠ some true := by decide +kernel
theorem witness_SignalGoesStale :
    (told .steering (fresh 9 500) base).vehicle.records.get .steering = fresh 9 500 ∧
      (told .parkDistance (fresh 9 500) base).vehicle.records.get .parkDistance = fresh 9 500 ∧
      ((499 : Time) - 500).toInt < 0 ∧ 0 ≤ ((500 : Time) - 500).toInt ∧
      (told .reverse (stale 1 0) base).vehicle.records.reverse = stale 1 0 ∧
      (told .reverse (stale 1 0) base).vehicle.stalePeriodOver = false ∧
      ((1999999 : Time) - (0 + 2000000)).toInt < 0 ∧ 0 ≤ ((2000000 : Time) - (0 + 2000000)).toInt := by decide +kernel
theorem witness_ReversePinAndHoldOffTimers :
    true ≠ base.vehicle.pinLevel ∧ (after (.reversePinChange true) base).vehicle.pinLevel ≠ base.vehicle.pinAccepted ∧
      elapsed (19999 : Time) 0 < 20000 ∧ 20000 ≤ elapsed (20000 : Time) 0 ∧
      (driving .off .bus false).reverse.source = .bus ∧ (driving .off .either false).reverse.source = .either ∧
      (driving .off .pin true).reverse.source = .pin ∧
      ({ (driving .holdOff .pin false).reverse with timer := some 9 } : Reverse).timer = some 9 ∧
      (driving .holdOff .pin false).reverse.state = .holdOff ∧
      (stacked [systemView 1, pinnedCamera] base).stack .front = [systemView 1] ++ pinnedCamera :: [] ∧
      pinnedCamera.owner = .camera := by decide +kernel
theorem witness_ReverseControllerFollowsAssertion :
    (driving .off .pin false).reverse.running = true ∧ base.reverse.running = false ∧
      (driving .off .pin true).assertedReverse = true ∧ (driving .engaged .pin true).reverse.state = .engaged ∧
      ((stacked [systemView 1, systemView 2, systemView 3] base).stack .front).length < 4 ∧
      (stacked [systemView 1, systemView 2, systemView 3, systemView 4] base).stack .front =
        systemView 1 :: [systemView 2, systemView 3, systemView 4] ∧
      (driving .off .pin true).audio.chimes.front.player = .idle ∧
      ((driving .off .pin true).audio.clips[0]?.map Clip.resident) = some true ∧
      (∀ e ∈ base.vehicle.table, e.signal ≠ .parkDistance) ∧
      (stacked [cameraViewOf 4 false, systemView 1] base).stack .front = [] ++ cameraViewOf 4 false :: [systemView 1] ∧
      (driving .manual .pin true).reverse.state = .manual ∧ (driving .holdOff .pin true).reverse.state = .holdOff ∧
      (driving .engaged .pin false).assertedReverse = false ∧ 0 < (driving .engaged .pin false).reverse.holdOffMs ∧
      (stacked [systemView 1, pinnedCamera] base).stack .front = [systemView 1] ++ [pinnedCamera] ∧
      ({ base.reverse with holdOffMs := 0 } : Reverse).holdOffMs = 0 := by decide +kernel

/-- The pattern is active in a band of a table with one CONTINUOUS band and two interval bands. -/
def beeping (band : Option Nat) (last next : Option Time) (distance : Int) (time : Time) : State :=
  { told .parkDistance (fresh distance 500) (driving .engaged .pin true) with
    time := time
    park :=
      { active := true, band := band, lastOffer := last, nextOffer := next
        table := [{ limit := 300, interval := none }, { limit := 800, interval := some 100 },
          { limit := 1500, interval := some 400 }] } }
/-- The same, with clip 1 resident. -/
def beepResident (s : State) : State :=
  { s with audio := { s.audio with clips := s.audio.clips.map fun c => { c with resident := true } } }

theorem test_beep_offered_at_offer_time :
    let t := after .parkOfferTime (beepResident (beeping (some 1) (some 0) (some 100000) 700 100000))
    t.audio.chimes.front.player = .playing (chime 1 5 5 .part) .cache 0 ∧ t.park.nextOffer = some 200000 := by
  decide +kernel
theorem test_nearest_band_is_chosen :
    ((beeping none none none 300 0).chooseBand.park.band, (beeping none none none 301 0).chooseBand.park.band,
      (beeping none none none 1501 0).chooseBand.park.band) = (some 0, some 1, none) := by decide +kernel

theorem witness_ParkPatternOffersBeeps :
    let s := beepResident (beeping (some 1) (some 0) (some 100000) 700 100000)
    s.park.active = true ∧ s.park.band = some 1 ∧ s.park.nextOffer = some 100000 ∧
      (s.park.table[1]?.map Band.interval = some (some 100) ∧ s.park.table[0]?.map Band.interval = some none) ∧
      ((99999 : Time) - 100000).toInt < 0 ∧ 0 ≤ (s.time - 100000).toInt ∧ s.audio.chimes.front.player = .idle ∧
      s.audio.clips[1]?.map Clip.resident = some true ∧
      (chiming [chime 1 5 2 .part] (systemPlaying 2)).audio.chimes.front.queue = [chime 1 5 2 .part] ∧
      s.vehicle.records.parkDistance.state = .fresh ∧
      (s.park.table.findIdx? fun b => decide (s.vehicle.records.parkDistance.value ≤ b.limit)) = some 1 ∧
      (beeping none none none 800 0).park.band = none ∧ (beeping (some 0) none none 800 0).park.band = some 0 ∧
      (beeping (some 2) (some 0) (some 400000) 800 100000).park.lastOffer = some 0 ∧
      ((100000 : Time) - later 0 (1000 * 100)).toInt ≤ 0 ∧ 0 < ((100001 : Time) - later 0 (1000 * 100)).toInt := by
  decide +kernel
theorem witness_ParkPatternOffersBeeps_settled :
    (beepResident (beeping (some 1) (some 0) (some 100000) 700 100000)).ChimesSettled :=
  { chiming_settled [] .idle (by decide) (fun _ => rfl) with served := fun _ => rfl, waiting := fun _ h => nomatch h }

/-! ### Guide lines -/

/-- A build of curvature 0 into table 0 is in progress. -/
def building (c : GuideConfig) : State :=
  { base with guide := { base.guide with config := some c, building := some (.zero, 0) } }
/-- The ground plane seen from above, 640 pixels right of the picture's origin, with one mark at 100 mm, on row 10. -/
def flatConfig : GuideConfig :=
  { guideConfig with
    halfWidth := 500, marks := [100]
    homography := { guideConfig.homography with h13 := 65536 * 640, h22 := 6554 } }

theorem test_edges_and_crossbar_of_flat_ground :
    let t := (flatConfig.build 0).spans
    rowSpans t 5 =
        [{ row := 5, startCol := 139, endCol := 141, band := .near },
         { row := 5, startCol := 1139, endCol := 1141, band := .near }] ∧
      rowSpans t 11 = [{ row := 11, startCol := 140, endCol := 1140, band := .near }] ∧
      (flatConfig.build 0).offscreen = false ∧ (flatConfig.build 0).behind = false := by decide +kernel
theorem test_build_hands_its_table_over :
    let t := after .guideBuildComplete (building flatConfig)
    t.guide.ready = some .zero ∧ t.guide.building = none ∧ (t.rw.fault .guideClipped).flag = false := by decide +kernel
theorem test_point_behind_camera_clips :
    let behind := { flatConfig with homography := { flatConfig.homography with h32 := -65536, h33 := 65536 } }
    ((after .guideBuildComplete (building behind)).rw.fault .guideClipped).detail = 4 := by decide +kernel

theorem witness_CurvatureAndPixelsAreExact :
    (2 : Int) ≠ 0 ∧ 2 * |(2 : Int) * rndDiv (-7) 2 - (-7)| = |2| ∧ (guideConfig.curve.map Prod.fst).Pairwise (· < ·) ∧
      guideConfig.curve.head? = some (-500, -100) ∧ guideConfig.curve.getLast? = some (500, 100) ∧
      guideConfig.curve = [] ++ (-500, -100) :: (500, 100) :: [] ∧ ((-500 : Int) ≤ -500 ∧ (499 : Int) < 500) ∧
      (255 * 255 + 127) / 255 = 255 ∧ (0 * 255 + 127) / 255 = 0 ∧ ((16 : Int) ≤ 16 ∧ (235 : Int) ≤ 235) := by decide
theorem witness_GuideBuildIsBoundedAndHandedOver :
    (building flatConfig).guide.building = some (.zero, 0) ∧ (building flatConfig).guide.config = some flatConfig ∧
      (flatConfig.build 0).behind = false ∧ (flatConfig.build 0).offscreen = false ∧
      (GuideConfig.build { flatConfig with homography := { flatConfig.homography with h32 := -65536 } } 0).behind = true ∧
      (flatConfig.build 0).spans ≠ [] := by decide +kernel

/-! ### Frame boundaries and rows -/

/-- REAR_LEFT video with an applied STREAM record, a queue, and a current frame. -/
def streamingLayer (q : List QueueEntry) (current : Option (QueueEntry × Nat)) (time : Time) : State :=
  let s := enabled (withRegions [frameRegion 3] base)
  { s.setLayer .rearLeft .video
      { s.layer .rearLeft .video with
        applied := { (s.layer .rearLeft .video).applied with cadence := .stream }, queue := q, current := current } with
    time := time }
/-- A camera view on top of FRONT, a picture of part time 0 as newest. -/
def watching (time : Time) : State :=
  { stacked [systemView 1, pinnedCamera] (seeing .locked none) with
    time := time, guide := { base.guide with config := some guideConfig } }

theorem test_last_due_frame_is_selected :
    let t := after (.displayFrameBoundary .rearLeft)
      (streamingLayer [entry 0 8332, entry 64 8333, entry 128 8334] (some (entry 192 0, 2)) 0)
    (t.layer .rearLeft .video).current = some (entry 64 8333, 1) ∧
      (t.layer .rearLeft .video).queue = [entry 128 8334] ∧
      ((t.layer .rearLeft .video).releasedShown, (t.layer .rearLeft .video).dropped) = (1, 1) ∧
      (findRegion t.regions 9).map Region.hold = some 1 := by decide +kernel
theorem test_starved_layer_raises_once :
    ((after (.displayFrameBoundary .rearLeft) (streamingLayer [] none 500000)).rw.fault .layerStarved).detail = 1 ∧
      ((after (.displayFrameBoundary .rearLeft) (streamingLayer [] none 499999)).rw.fault .layerStarved).flag = false := by
  decide +kernel
theorem test_picture_of_100_ms_is_fresh :
    (after (.displayFrameBoundary .front) (watching 100000)).displays.front.scan.camera = .fresh 0x100000 16 ∧
      (after (.displayFrameBoundary .front) (watching 100001)).displays.front.scan.camera = .fallback ∧
      ((after (.displayFrameBoundary .front) (watching 100001)).rw.fault .cameraLost).flag = true := by decide +kernel

/-- REAR_LEFT sends its frame: a view of the video layer, which draws the 16 by 16 frame at 0x2000000. -/
def sending (row : Option Nat) (video : Contribution) : State :=
  base.updateDisplay .rearLeft fun x =>
    { x with
      scan := { x.scan with
        frameNo := 1, row := row, view := some (systemView 1), video := video
        data := [{ layer := .video, row := 3, addr := 0x20000C0, bytes := List.replicate 4 0x80 }] } }
def drawn : Contribution := .frame { LayerSetting.default with enable := true } 0x2000000

theorem test_late_pixel_raises_once :
    let t := after (.latePixel .rearLeft .video 1) (sending (some 3) drawn)
    t.displays.rearLeft.scan.late = [(.video, 1)] ∧
      t.rw.fault .scanoutUnderrun = { flag := true, masked := true, counter := 1, detail := 1 } := by decide +kernel
theorem test_row_is_blended_as_granted :
    (sending (some 3) drawn).screenPixel (sending (some 3) drawn).displays.rearLeft.scan 0 3 =
      blend { rgb := { r := 0x80, g := 0x80, b := 0x80 }, alpha := 0x80 } 255 { r := 0x10, g := 0x20, b := 0x30 } := by
  decide +kernel
set_option maxRecDepth 20000 in
theorem test_next_row_begins :
    let t := after (.activeRowFetch .rearLeft) (sending (some 3) .nothing)
    t.displays.rearLeft.scan.row = some 4 ∧ (t.displays.rearLeft.scan.sent.map SentRow.row) = some 3 ∧
      ((t.displays.rearLeft.scan.sent.map fun r => r.pixels.head?) = some (some (0x10, 0x20, 0x30))) := by decide +kernel

theorem witness_BoundarySelectsAndReleasesFrames :
    (streamingLayer [] none 500000).startup.state ≠ .loading ∧
      0 ≤ ((streamingLayer [] none 0).time - ((streamingLayer [] none 0).displays.get .rearLeft).nextBoundary).toInt ∧
      ((streamingLayer [] none 500000).layer .rearLeft .video).staged = none ∧
      ([entry 0 8334].takeWhile fun e => decide ((e.time - 0).toInt ≤ 8333)) = [] ∧
      ([entry 0 8332, entry 64 8333, entry 128 8334].takeWhile fun e => decide ((e.time - 0).toInt ≤ 8333)) =
        [entry 0 8332] ++ [entry 64 8333] ∧
      ((streamingLayer [] none 500000).layer .rearLeft .video).armed = true ∧
      500000 ≤ ((500000 : Time) - ((streamingLayer [] none 500000).layer .rearLeft .video).lastSelection).toInt ∧
      ((500000 : Time) - 1).toInt < 500000 ∧
      (((after .setLayer (taking (setting 1 1920) base)).layer .rearLeft .video).staged.isSome ∧
        (after .setLayer (taking (setting 1 1920) base)).displays.rearLeft.hold = false) ∧
      (after .holdChanges (taking (record 3 [1]) base)).displays.rearLeft.hold = true ∧ Display.rearLeft ≠ .front ∧
      ((streamingLayer [entry 0 8333] none 0).layer .rearLeft .video).queue ≠ [] := by decide +kernel
theorem witness_BoundaryTakesFrame :
    (watching 100000).startup.state = .normal ∧ (watching 100000).roles ≠ none ∧
      0 ≤ ((watching 100000).time - ((watching 100000).displays.get .front).nextBoundary).toInt ∧
      ((watching 100000).stack .front).getLast? = some pinnedCamera ∧ (watching 100000).camera.newest = some (0, 0) ∧
      ((100000 : Time) - 0).toInt ≤ 100000 ∧ ¬ ((100001 : Time) - 0).toInt ≤ 100000 ∧
      (watching 100000).cameraArea = some 0x100000 ∧ (watching 100000).guide.config ≠ none ∧
      (base.stack .front).getLast? = none ∧
      (streamingLayer [] (some (entry 192 0, 2)) 0).regions.getLast? = some (frameRegion 3) ∧
      ((streamingLayer [] (some (entry 192 0, 2)) 0).layer .rearLeft .video).applied.enable = true := by decide +kernel
theorem witness_RowsAreSentAsComposed :
    0 < (sending (some 3) drawn).displays.rearLeft.scan.frameNo ∧ (sending (some 598) drawn).displays.rearLeft.scan.nextRow < 600 ∧
      (sending none drawn).displays.rearLeft.scan.nextRow = 0 ∧
      (sending (some 3) drawn).displays.rearLeft.scan.row = some 3 ∧ base.displays.front.scan.view = none ∧
      (sending (some 3) drawn).displays.rearLeft.scan.view = some (systemView 1) ∧ (systemView 1).owner = .system ∧
      pinnedCamera.owner = .camera ∧ ((systemView 1).video = true ∧ (systemView 1).menu = false) ∧
      LayerSetting.default.coversPixel 15 15 = true ∧ LayerSetting.default.coversPixel 16 15 = false ∧
      (sending (some 3) drawn).displays.rearLeft.scan.isLate .video 0 = false ∧
      (sending (some 3) drawn).displays.rearLeft.scan.byteFor .video 3 0x20000C3 = some 0x80 ∧
      (sending (some 3) drawn).displays.rearLeft.scan.missing .video 0 3 = false ∧
      (sending (some 3) drawn).displays.rearLeft.scan.missing .video 1 3 = true ∧
      (∀ x ∈ (sending (some 3) drawn).displays.rearLeft.scan.late, x.1 ≠ .video) ∧
      Display.columns .rearLeft ≤ 1024 ∧ 1023 < Display.columns .rearLeft := by decide +kernel

/-! ### Mixing and ramps -/

/-- The audio engine runs; stream 0 has a frame in its buffer, and a chime of one sample more plays on FRONT. -/
def mixing (consumer count : Nat) : State :=
  let s := (streaming (chiming [] (systemPlaying 2))).updateStream .front fun x =>
    { x with consumer := consumer, producer := 5, gEff := 64, buffer := [{ left := 20000, right := 0x8000 }] }
  { s with audio := { s.audio with running := true, sampleCount := count } }

theorem test_sample_is_mixed_and_clamped :
    let t := after .sampleTime (mixing 4 47)
    t.audio.tdm.map PerDisplay.front = some { left := 0x0E20, right := 0x8000 } ∧
      t.audio.streams.front.consumer = 5 ∧ t.audio.tickDue = true ∧
      t.rw.fault .audioClip = { flag := true, masked := true, counter := 1, detail := 0 } := by decide +kernel
theorem test_stream_underruns :
    let t := after .sampleTime (mixing 5 0)
    t.audio.streams.front.underrun = true ∧ (t.rw.fault .audioUnderrun).counter = 1 ∧ t.audio.sampleCount = 1 := by
  decide +kernel
theorem test_start_delay_ends :
    let s := (streaming base).updateStream .front fun x => { x with startDelay := some 1000 }
    (after (.startDelayExpiry .front) { s with time := 1000 }).audio.streams.front.startDelay = none ∧
      (after (.startDelayExpiry .front) { s with time := 999 }).audio.streams.front.startDelay = some 1000 := by
  decide +kernel
theorem test_ramp_lands_on_ducked_target :
    let s := (streaming (chiming [] (systemPlaying 2))).updateStream .front fun x => { x with setGain := 64, gEff := 18 }
    (after .millisecondTick { s with audio := { s.audio with tickDue := true } }).audio.streams.front.gEff = 16 ∧
      (after .millisecondTick s).audio.streams.front.gEff = 18 := by decide +kernel
theorem test_chime_end_starts_next :
    (after (.chimeEnd .front) (chiming [chime 2 1 4 .system] (.playing (chime 0 2 1 .system) .cache 2))).audio.chimes.front =
      { queue := [], arrivals := 5, player := .playing (chime 2 1 4 .system) .cache 0 } := by decide +kernel

theorem witness_SampleTimeMixesStreamsAndChimes :
    (mixing 4 47).audio.running = true ∧ (mixing 4 47).audio.streams.front.running = true ∧
      (mixing 4 47).audio.streams.front.startDelay = none ∧ (mixing 4 47).audio.streams.front.ring.isSome ∧
      (mixing 4 47).audio.streams.front.buffer ≠ [] ∧
      (mixing 4 47).audio.streams.front.consumer ≠ (mixing 4 47).audio.streams.front.producer ∧
      (mixing 5 46).audio.streams.front.consumer = (mixing 5 46).audio.streams.front.producer ∧
      (mixing 4 47).audio.streams.rearLeft.running = false ∧ (mixing 4 47).audio.chimes.rearLeft.player = .idle ∧
      (mixing 4 47).audio.chimes.front.player = systemPlaying 2 ∧
      1 < chimeSamples (mixing 4 47).audio.clips (chime 0 2 1 .system) .cache ∧
      48 ≤ (mixing 4 47).audio.sampleCount + 1 ∧ (mixing 4 46).audio.sampleCount + 1 < 48 := by decide +kernel
theorem witness_AudioTimersActAtTheirTimes :
    let s := (streaming base).updateStream .front fun x => { x with startDelay := some 1000 }
    let q := [chime 2 1 4 .system]
    s.audio.streams.front.startDelay = some 1000 ∧ ((999 : Time) - 1000).toInt < 0 ∧ 0 ≤ ((1000 : Time) - 1000).toInt ∧
      base.audio.tickDue = false ∧ (after .sampleTime (mixing 4 47)).audio.tickDue = true ∧
      (chiming q (.playing (chime 0 2 1 .system) .cache 2)).audio.chimes.front.player =
        .playing (chime 0 2 1 .system) .cache 2 ∧
      chimeSamples clips (chime 0 2 1 .system) .cache ≤ 2 ∧ 1 < chimeSamples clips (chime 0 2 1 .system) .cache ∧
      clips[2]?.map Clip.resident = some true ∧ (chiming q (systemPlaying 2)).audio.buffer.user ≠ some .front ∧
      (chiming q (systemPlaying 2)).audio.buffer.waiters = [] ∧
      ¬ ((chime 0 2 1 .system).owner = .part ∧ (chime 0 2 1 .system).clip = 1) := by decide +kernel
theorem witness_AudioTimersActAtTheirTimes_settled :
    (chiming [chime 2 1 4 .system] (.playing (chime 0 2 1 .system) .cache 2)).ChimesSettled :=
  chiming_settled _ _ (by decide) (fun h => nomatch h)

/-! ### Further witnesses: the forms and boundary values of the statements above -/

/-- At load step 5, with the fallback picture from the last byte of block 3 on, which is INCOMPLETE where `broken` says so. -/
def closingWith (broken : Bool) : State :=
  { closing false with
    startup := { (closing false).startup with fallbackOffset := 0x3FFFF }
    store := { (closing false).store with
      table := (closing false).store.table.setIfInBounds 3 (if broken then .incomplete else .written) } }
theorem witness_LoadCloseStartsDevice_fallback :
    (closingWith true).link.up = false ∧ (closingWith true).store.status 3 = .incomplete ∧
      (0x3FFFF / 65536 ≤ 3 ∧ 3 ≤ (0x3FFFF + 16447) / 65536) ∧
      (∀ b, b < 32 → (closingWith false).store.status b ≠ .incomplete) ∧ State.reset.link.up = false ∧
      State.reset.startup.step ≠ 2 ∧ (loading 2).link.up = false := by decide +kernel

/-- At load step 5 with reverse asserted, the tone's clip in the cache or not. -/
def closingTone (resident : Bool) : State :=
  { closing true with
    audio := { (closing true).audio with
      clips := [{ offset := 0x20000, length := 600, wanted := resident, resident := resident, gain := 64 }] } }
theorem witness_LoadCloseStartsDevice_tone (resident : Bool) :
    (closingTone resident).assertedReverse = true ∧
      ((closingTone resident).store.state = .idle ∧ (closingTone resident).store.op = none ∧
        (closingTone resident).store.staging = none) ∧
      (closingTone resident).audio.buffer.free = true ∧ (closingTone resident).audio.buffer.content = none ∧
      (closingTone resident).audio.buffer.waiters = [] ∧
      (∀ d, ((closingTone resident).audio.chimes.get d).queue = [] ∧
        ((closingTone resident).audio.chimes.get d).player = .idle) ∧
      (closingTone resident).audio.clips[0]?.map Clip.resident = some resident ∧
      (closingTone resident).store.anyIncomplete 0x20000 600 = false := by
  cases resident <;> exact ⟨by decide, by decide, by decide, by decide, by decide,
    fun d => by cases d <;> decide, by decide, by decide +kernel⟩
theorem test_store_enters_idle_after_first_rewrite :
    (after .loadStepComplete (closingTone false)).store.state = .reading ∧
      ((after .loadStepComplete (closingTone false)).rw.queue.any fun w =>
        w.addr ≤ 0x107C && decide (0x107C < w.addr + w.bytes.length) &&
          w.bytes[0x107C - w.addr]? == some (0 : Byte)) = true := by decide +kernel

/-- A read of block 0x40 is held by flow control. -/
def holding (s : State) : State := { s with link := { s.link with held := [.read 0x40 64] } }
/-- The last write of the bring-up waits. -/
def broughtUp : State :=
  { base with rw := { base.rw with queue := [{ addr := 0x1020, bytes := [2, 0, 0, 0], bringUp := true }] } }
theorem witness_LinkReadsAreTakenInOrder_held :
    (holding base).link.up = true ∧ (holding base).link.held ≠ [] ∧ (∃ w ∈ broughtUp.rw.queue, w.bringUp = true) ∧
      (holding (linked [.read 0 4 true] (awaiting 16))).link.held = .read 0x40 64 :: [] ∧
      InRange (0x40 : BitVec 32).toNat 64 ∧
      chooseClient Arbiter.reset (holding (linked [.read 0 4 true] (awaiting 16))).waits = some .link ∧
      (holding (linked [.read 0 4 true] (awaiting 16))).link.path = .read 0 4 true :: [] ∧
      (holding (linked [.read 0 4 true] (awaiting 16))).link.responses =
        { answer := none, error := false } :: List.replicate 15 { answer := none, error := false } ∧
      (List.replicate 15 ({ answer := none, error := false } : AwaitedRead)).length = 15 ∧
      (∀ x ∈ List.replicate 15 ({ answer := none, error := false } : AwaitedRead), x.answer = none) ∧
      (∀ w ∈ (holding (linked [.read 0 4 true] (awaiting 16))).rw.queue, w.bringUp = false) ∧
      chooseClient broughtUp.arb (holding broughtUp).waits = some .report ∧
      (holding broughtUp).rw.queue = { addr := 0x1020, bytes := [2, 0, 0, 0], bringUp := true } :: [] ∧
      (holding broughtUp).link.responses = [] := by decide
theorem witness_WriteGuardAndPartialWords_whole :
    (∀ r, regionAt base.regions (0 : BitVec 32).toNat = some r → r.kind = .control) ∧
      InRange 0 28 ∧ InRange 0x36 10 ∧
      ([0x000, 0x004, 0x010, 0x014, 0x018].map fun w => enabledBytes 0 (List.replicate 28 (some 1)) w) = [4, 4, 4, 4, 4] ∧
      ([0x000, 0x004, 0x010, 0x014, 0x018].map fun w => enabledBytes 0 (List.replicate 19 (some 1)) w) = [4, 4, 3, 0, 0] ∧
      wordValue 0 [some 1, some 2, some 3, some 4, some 5] 0 = 0x04030201#32 :=
  ⟨fun r h => by simp [regionAt, base, serviceRegions, Region.covers] at h; simp [← h], by decide +kernel⟩
theorem witness_GrantGoesByPriorityAndGuarantees_chosen :
    (contended Arbiter.reset).arb.window.length ≤ 3 ∧ (contended { Arbiter.reset with posB := 3 }).arb.posB < 4 ∧
      chooseClient (contended { Arbiter.reset with window := [.b, .a, .b] }).arb
        (contended { Arbiter.reset with window := [.b, .a, .b] }).waits = some .link ∧
      ¬ ((contended { Arbiter.reset with storeGap := 62 }).waits .store = true ∧ 62 = 63) := by decide

/-- A staging that has run its time in READING, its buffer in no one's hands, a FRONT chime of a clip on the wait list. -/
def waitingIn (clip : Nat) : State :=
  let s := stagingIn .reading none (.running 0) 44 none
  { s with
    audio := { s.audio with
      buffer := { s.audio.buffer with waiters := [.front] }
      chimes := { s.audio.chimes with front := { queue := [], arrivals := 5, player := .starting (chime clip 2 1 .system) } } } }
theorem waitingIn_settled (clip : Nat) : (waitingIn clip).ChimesSettled :=
  { queues := fun d => by cases d <;> simp [waitingIn, stagingIn, chiming, base, PerDisplay.get, State.reset, Audio.reset, PairChimes.reset]
    players := fun d h => by
      cases d <;> simp_all [waitingIn, stagingIn, chiming, base, PerDisplay.get, State.reset, Audio.reset, PairChimes.reset]
    served := fun h => nomatch h
    distinct := List.nodup_cons.2 ⟨nofun, List.nodup_nil⟩
    waiting := fun d h => by
      simp only [waitingIn, List.mem_singleton] at h
      subst h
      exact ⟨nofun, ⟨_, rfl⟩⟩ }
/-- The same staging with an erase of block 31 in the queue and no chime waiting. -/
def eraseWaiting : State :=
  let s := stagingIn .reading none (.running 0) 44 none
  { s with store := { s.store with queue := [{ tag := 3, work := .erase 31 }] } }
theorem witness_StagingSuspendsAndResumes_reading :
    (stagingIn .suspendedProgram none (.running 0) 9 none).store.state = .suspendedProgram ∧
      (stagingIn .reading none (.running 0) 44 (some .front)).store.state = .reading ∧
      (stagingIn .reading none (.running 0) 44 (some .front)).audio.buffer.user = some .front ∧
      ((stagingIn .reading none (.running 0) 44 (some .front)).audio.chimes.get .front).player =
        .starting (chime 1 2 1 .system) ∧
      (eraseWaiting.store.queue = { tag := 3, work := .erase 31 } :: [] ∧ eraseWaiting.audio.buffer.waiters = [] ∧
        blockOf (0x41000 + 256 - 1) ≠ 31) ∧
      (∀ clip, (waitingIn clip).audio.buffer.waiters = .front :: [] ∧ (waitingIn clip).store.queue = [] ∧
        ((waitingIn clip).audio.chimes.get .front).player = .starting (chime clip 2 1 .system)) ∧
      (waitingIn 3).audio.clips[3]? =
        some { offset := 0x50000, length := 512, wanted := false, resident := false, gain := 64 } ∧
      (waitingIn 3).store.unstageable 0x50000 512 = false ∧ (waitingIn 1).audio.clips[1]?.isSome :=
  ⟨by decide, by decide, by decide, by decide, by decide, fun _ => ⟨rfl, rfl, rfl⟩, by decide, by decide, by decide⟩
theorem witness_FrameStartOpensFrame_fourth :
    let s := seeing .locked (some (opened 3 0))
    3 ≤ ({ s.camera with erroredRun := 3 } : Camera).erroredRun ∧ s.camera.frame = some (opened 3 0) ∧
      s.camera.completing = none ∧ s.camera.align = .locked := by decide +kernel
/-- The capture of a usable frame is complete but for its event, and a FRAME_START waits behind it. -/
def followed (a : Machine.Alignment) : State :=
  { captured 90 16 none with
    camera := { (captured 90 16 none).camera with align := a, deferred := [.frameStart 6] } }
/-- The same, with nothing waiting behind it. -/
def unfollowed (a : Machine.Alignment) : State :=
  { followed a with camera := { (followed a).camera with deferred := [] } }
theorem witness_CaptureCompletesAndSetsGain_deferred :
    ∀ a, exec .captureComplete (unfollowed a) = .next (after .captureComplete (unfollowed a)) ∧
      ((followed a).camera.completing = some (230400 * 90) ∧ (followed a).camera.queue = [] ∧
        (followed a).camera.deferred = [.frameStart 6] ∧ (followed a).camera.frame = none) ∧
      (after .captureComplete (unfollowed a)).camera.newest.map Prod.fst = some 1 ∧
      (after .captureComplete (unfollowed a)).camera.displaying = none :=
  fun a => ⟨rfl, by cases a <;> decide +kernel, by cases a <;> decide +kernel, by cases a <;> decide +kernel⟩
theorem witness_CanFrameRefreshesSignal_several :
    let two : List AcceptEntry := [accepts[0], { accepts[3] with ident := 0x123 }]
    (∀ e ∈ two, e.width = 1 ∨ e.width = 2) ∧ (∀ e ∈ accepts, e.width = 1 ∨ e.width = 2) ∧
      (two.filter fun e => decide (e.ident = (0x123 : BitVec 11).toNat ∧ e.startByte + e.width ≤ 2 ∧
        e.marker ≠ some 16)).length = 2 ∧
      (beeping (some 1) (some 0) (some 100000) 700 9).park.active = true ∧
      (beeping (some 1) (some 0) (some 100000) 700 9).vehicle.receiving = true := by decide +kernel

/-- The CONTINUOUS band, its beep past its last sample. -/
def beepEnding : State :=
  let s := beepResident (beeping (some 0) none none 300 100000)
  { s with
    audio := { s.audio with
      chimes := { s.audio.chimes with
        front := { queue := [], arrivals := 5, player := .playing (chime 1 5 2 .part) .cache 128 } } } }
theorem witness_ParkPatternOffersBeeps_entered :
    (beeping none none none 700 0).park.band = none ∧ (beeping none none none 300 0).park.band ≠ some 0 ∧
      ((beeping none none none 300 0).park.table.findIdx? fun b => decide ((300 : Int) ≤ b.limit)) = some 0 ∧
      ((beeping none none none 300 0).park.table.findIdx? fun b => decide ((1500 : Int) ≤ b.limit)) = some 2 ∧
      ((beeping none none none 300 0).park.table.findIdx? fun b => decide ((1501 : Int) ≤ b.limit)) = none ∧
      beepEnding.park.active = true ∧ beepEnding.park.band = some 0 ∧
      beepEnding.park.table[0]?.map Band.interval = some none ∧
      beepEnding.audio.chimes.front.player = .playing (chime 1 5 2 .part) .cache 128 ∧
      chimeSamples beepEnding.audio.clips (chime 1 5 2 .part) .cache ≤ 128 ∧ (chime 1 5 2 .part).owner = .part ∧
      beepEnding.audio.chimes.front.queue = [] ∧ beepEnding.audio.buffer.waiters = [] ∧
      beepEnding.audio.clips[1]?.map Clip.resident = some true := by decide +kernel
theorem witness_ParkPatternOffersBeeps_ending : beepEnding.ChimesSettled :=
  { chiming_settled [] (.playing (chime 1 5 2 .part) .cache 128) (by decide) (fun h => nomatch h) with
    served := fun _ => rfl, waiting := fun _ h => nomatch h }
theorem witness_GuideBuildIsBoundedAndHandedOver_projected :
    (0 ≤ flatConfig.lineHalf ∧ (flatConfig.build 0).dropped = false) ∧
      (0 < flatConfig.homography.h31 * 0 + flatConfig.homography.h32 * 100 + flatConfig.homography.h33) ∧
      (({ flatConfig.homography with h33 := 0 } : Homography).h33 ≤ 0 ∧
        (project { flatConfig.homography with h33 := 0 } 0 100).point = none) ∧
      (project { flatConfig.homography with h13 := 65536 * 8191 } 0 0).clamped = false ∧
      (project { flatConfig.homography with h13 := 65536 * 8192 } 0 0).clamped = true ∧
      (pathOffset 1000 8000 2000, pathOffset 1000 8000 0, pathOffset (-32767) 8000 0) = (2861, 1907, -8000) := by
  decide +kernel

/-- A streaming layer of REAR_LEFT with a staged record. -/
def stagedLayer (new : LayerSetting) : State :=
  let s := streamingLayer [entry 0 8333] (some (entry 192 0, 2)) 0
  s.setLayer .rearLeft .video { s.layer .rearLeft .video with staged := some new }
theorem witness_BoundarySelectsAndReleasesFrames_staged :
    let old := (stagedLayer .default).layer .rearLeft .video |>.applied
    ((stagedLayer { old with alpha := 7 }).displays.get .rearLeft).hold = false ∧
      ((stagedLayer { old with alpha := 7 }).layer .rearLeft .video).staged = some { old with alpha := 7 } ∧
      (old.enable = true ∧ old.cadence = .stream) ∧
      ({ old with alpha := 7 }.enable = old.enable ∧ { old with alpha := 7 }.stride = old.stride) ∧
      { old with stride := 8 }.stride ≠ old.stride ∧
      ((stagedLayer .default).layer .rearLeft .menu).applied.enable = false ∧
      LayerSetting.default.cadence ≠ .stream ∧
      (stagedLayer .default).startup.state ≠ .loading := by decide +kernel
theorem witness_BoundaryTakesFrame_rewrite :
    ({ watching 100000 with link := LinkPort.reset } : State).link.up = false ∧
      (watching 100000).roles = some { serviceRoles with cameraArea := some 0x100000 } ∧
      (base.camera.newest = none ∧ 0 ≤ ((watching 100000).time - 0).toInt) := by decide +kernel

/-- FRONT sends a row of a fresh picture: its first pair has been granted, under a NEAR span and a FAR one. -/
def picturing (scene : CameraScene) : State :=
  let s := base.updateDisplay .front fun x =>
    { x with
      scan := { x.scan with
        frameNo := 1, row := some 3, view := some pinnedCamera, camera := scene
        data := [{ layer := .camera, row := 3, addr := 0x101E00, bytes := [90, 128, 91, 128] }] } }
  { s with
    guide := { s.guide with
      config := some guideConfig, shown := some .zero
      tableZero := [{ row := 3, startCol := 1, endCol := 2, band := .far }, { row := 3, startCol := 2, endCol := 3, band := .near }] } }
/-- REAR_LEFT sends a row of an NV12 frame of 16 by 16 with a menu frame over it. -/
def layered : State :=
  base.updateDisplay .rearLeft fun x =>
    { x with
      scan := { x.scan with
        frameNo := 1, row := some 3, view := some { systemView 1 with menu := true }
        video := .frame { LayerSetting.default with enable := true, format := .nv12, stride := 64 } 0x2000000
        menu := .frame { LayerSetting.default with enable := true } 0x3000000
        data := [{ layer := .video, row := 3, addr := 0x20000C0, bytes := [90] },
          { layer := .video, row := 3, addr := 0x2000440, bytes := [120, 130] },
          { layer := .menu, row := 3, addr := 0x30000C0, bytes := [1, 2, 3, 4] }] } }
theorem witness_RowsAreSentAsComposed_camera :
    let sc := fun scene => (picturing scene).displays.front.scan
    (sc (.fresh 0x100000 16)).view = some pinnedCamera ∧ (sc (.fresh 0x100000 16)).camera = .fresh 0x100000 16 ∧
      ((sc (.fresh 0x100000 16)).byteFor .camera 3 (0x100000 + 2560 * 3 + 4 * (1 / 2) + 2) = some 91 ∧
        (sc (.fresh 0x100000 16)).byteFor .camera 3 (0x100000 + 2560 * 3 + 4 * (1 / 2) + 1) = some 128) ∧
      (sc (.fresh 0x100000 16)).byteFor .camera 3 (0x100000 + 2560 * 3 + 4 * (2 / 2)) = none ∧
      (base.guide.shown = none ∧ (picturing .fallback).guide.shown = some .zero ∧
        (picturing .fallback).guide.config = some guideConfig) ∧
      (((picturing .fallback).guide.table .zero).filter fun x => decide (x.row = 3 ∧ x.startCol ≤ 4 ∧ 4 ≤ x.endCol)) = [] ∧
      (((picturing .fallback).guide.table .zero).filter fun x => decide (x.row = 3 ∧ x.startCol ≤ 2 ∧ 2 ≤ x.endCol)).map
        Span.band = [.far, .near] ∧ SpanBand.far.rank ≤ SpanBand.near.rank ∧
      (sc .fallback).camera = .fallback ∧ (512 ≤ 767 ∧ 767 < 768 ∧ 296 ≤ 423 ∧ 423 < 424) ∧
      (sc (.fresh 0x100000 16)).nextRow + 1 < 720 := by decide +kernel
theorem witness_RowsAreSentAsComposed_layers :
    let sc := layered.displays.rearLeft.scan
    sc.view = some { systemView 1 with menu := true } ∧ sc.isLate .video 0 = false ∧
      sc.byteFor .video 3 (0x2000000 + 3 * 64) = some 90 ∧ sc.byteFor .video 3 (0x2000000 + 16 * 64 + 3 / 2 * 64) = some 120 ∧
      sc.byteFor .video 3 (0x2000000 + 16 * 64 + 3 / 2 * 64 + 1) = some 130 ∧
      sc.byteFor .menu 3 (0x3000000 + 3 * 64 + 3) = some 4 ∧ sc.byteFor .video 3 (0x2000000 + 3 * 64 + 1) = none ∧
      (sc.video.source .rearLeft 4 = [(0x2000100, 16), (0x2000480, 16)] ∧ sc.menu.source .rearLeft 16 = []) := by
  decide +kernel

/-- The FRONT stream has no frame of its ring left, or has stopped; a chime plays. -/
def dried (running underrun : Bool) : State :=
  (mixing 5 46).updateStream .front fun x => { x with running := running, underrun := underrun, buffer := [] }
theorem witness_SampleTimeMixesStreamsAndChimes_dry :
    (dried true false).audio.streams.front.buffer = [] ∧ (dried true false).audio.streams.front.underrun = false ∧
      (dried true true).audio.streams.front.underrun = true ∧ (dried false false).audio.streams.front.running = false ∧
      (dried false false).audio.chimes.front.player = systemPlaying 2 ∧
      ((after .sampleTime (dried true false)).rw.fault .audioUnderrun).counter = 1 ∧
      ((after .sampleTime (dried true true)).rw.fault .audioUnderrun).counter = 0 ∧
      ((after .sampleTime (dried false false)).audio.tdm.map fun t => t.front.left.toInt) = some (-16384) := by decide +kernel

/-- A packet waits behind a capture. -/
def packetWaits (s : State) : State := { s with camera := { s.camera with deferred := [.other] } }
set_option maxRecDepth 60000 in
theorem witness_LineIsTakenOrConcealed_gap :
    let s := seeing .locked (some (opened 5 0))
    let right := fun (n : Nat) (rest : List Byte) => rest.length = 2690 ∧
      crc16 (bytesOf 2 n ++ rest.take 2688) = BitVec.ofNat 16 (256 * byteAt rest 2688 + byteAt rest 2689)
    base.camera.running = false ∧ (seeing .noSignal none).camera.frame = none ∧ (packetWaits s).camera.deferred ≠ [] ∧
      (opened 5 0).expected ≤ (22 : BitVec 16).toNat ∧ right 22 (greyLine [0x81, 0x73]) ∧
      CameraConfig.default.rowsOf 5 22 = [0, 1] ∧ (s.concealing (opened 5 0) 22).length = 80 ∧
      ((759 : BitVec 16).toNat ≤ 759 ∧ ¬ (759 : BitVec 16).toNat < CameraConfig.default.cropRow + 720) ∧
      (opened 759 0).expected ≤ (759 : BitVec 16).toNat ∧ right 759 (greyLine [0x53, 0xF3]) ∧
      (after (.line 22 [1, 2]) s).camera.queue = s.concealing (opened 5 0) 23 ∧
      (after (.line 22 [1, 2]) s).camera.frame = some ((opened 5 0).concealedTo CameraConfig.default 23) := by decide +kernel
theorem witness_FrameEndClassifiesFrame_gap :
    let s := seeing .locked (some (opened 738 0))
    (packetWaits s).camera.deferred ≠ [] ∧ (packetWaits s).camera.running = true ∧ base.camera.running = false ∧
      (seeing .locked none).camera.frame = none ∧ CameraConfig.default.rowsOf 738 760 = [718, 719] ∧
      ((opened 744 0).concealedTo CameraConfig.default 760).concealed = 16 ∧
      ((opened 743 0).concealedTo CameraConfig.default 760).concealed = 17 ∧
      (after (.frameEnd 5 760) s).camera.queue = s.concealing (opened 738 0) 760 ∧
      (after (.frameEnd 5 760) (seeing .locked (some (opened 744 0)))).camera.completing = some 0 ∧
      ({ s.camera with erroredRun := 3 } : Camera).erroredRun = 3 := by decide +kernel
/-- Stream 0 plays from the ring of region 8 with a fetch in flight, and 20 is held for it. -/
def refetching : State :=
  let s := streaming (ringed (some .front) 20)
  { s with audio := { s.audio with fetchQueue := [{ stream := .front, addr := 0x1000400, count := 16, keep := 16 }] } }
theorem witness_AudioStartRunsStream_restarted :
    refetching.audio.streams.front.running = true ∧ refetching.audio.streams.front.ring.isSome ∧
      refetching.audio.streams.front.held = 20 ∧
      findRegion refetching.regions 8 = some (ringRegion (some .front)) ∧
      (after .audioStart (taking (starting 0 64) refetching)).audio.fetchQueue =
        [{ stream := .front, addr := 0x1000400, count := 16, keep := 0 },
         { stream := .front, addr := 0x1000000, count := 16, keep := 16 },
         { stream := .front, addr := 0x1000040, count := 4, keep := 4 }] := by decide +kernel
/-- FRONT is idle, the buffer empty, the store busy with an erase of block 9 or with a read, at 2000 µs. -/
def busyStore (state : StoreState) (resumed : Option Time) : State :=
  { chiming [] .idle with
    time := 2000
    store := { base.store with
      state := state, op := some { op (.erase 9) [] (some 0) with lastResume := resumed } } }
theorem witness_PlayChimeStartsInIdlePlayer_busy :
    (∀ state resumed, (busyStore state resumed).ChimesSettled) ∧ (busyStore .reading none).store.state = .reading ∧
      (busyStore .erasing (some 0)).store.unstageable 0x41000 256 = false ∧
      (busyStore .erasing (some 0)).audio.buffer = StagingBuffer.reset ∧
      2000 ≤ elapsed (busyStore .erasing (some 0)).time 0 ∧ elapsed (busyStore .erasing (some 1)).time 1 < 2000 ∧
      (after .playChime (taking (playing 1 2) (busyStore .erasing (some 0)))).store.staging.map Staging.phase =
        some (.asked 2000) ∧
      (after .playChime (taking (playing 1 2) (busyStore .erasing (some 1)))).store.staging.map Staging.phase =
        some .waiting ∧
      (after .playChime (taking (playing 1 2) (busyStore .reading none))).store.staging.map Staging.phase =
        some .waiting :=
  ⟨fun _ _ => { chiming_settled [] .idle (by decide) (fun _ => rfl) with served := fun _ => rfl, waiting := fun _ h => nomatch h },
    by decide +kernel⟩
/-- FRONT plays clip 1 from the buffer, and a chime of clip 3 on REAR_LEFT waits for it where `waits` says so. -/
def usingBuffer (content : Nat) (waits : Bool) (q : List Chime) : State :=
  let s := chiming q (.playing (chime 1 1 1 .system) .staging 3)
  { s with
    audio := { s.audio with
      buffer := { StagingBuffer.reset with
        content := some content, user := some .front, waiters := if waits then [.rearLeft] else [] }
      chimes := { s.audio.chimes with
        rearLeft := if waits then { queue := [], arrivals := 2, player := .starting (chime 3 2 1 .system) }
          else s.audio.chimes.rearLeft } } }
theorem usingBuffer_settled (content : Nat) (waits : Bool) (q : List Chime) (h : q.length ≤ 4) :
    (usingBuffer content waits q).ChimesSettled :=
  { queues := fun d => by
      cases waits <;> cases d <;>
        simp [usingBuffer, chiming, base, PerDisplay.get, State.reset, Audio.reset, PairChimes.reset, h]
    players := fun d => by
      cases waits <;> cases d <;>
        simp [usingBuffer, chiming, base, PerDisplay.get, State.reset, Audio.reset, PairChimes.reset]
    served := fun h => nomatch h
    distinct := by cases waits <;> simp [usingBuffer, chiming]
    waiting := fun d h => by
      cases waits
      · exact nomatch h
      · obtain rfl : d = .rearLeft := by simpa [usingBuffer] using h
        exact ⟨nofun, ⟨_, rfl⟩⟩ }
theorem witness_PlayChimeOnBusyPlayerQueuesOrPreempts_buffer :
    let left := (usingBuffer 3 true []).audio.buffer.without .front
    (left.user = none ∧ left.asked = none ∧ left.waiters = .rearLeft :: [] ∧ left.content = some 3) ∧
      ((usingBuffer 1 true []).audio.buffer.without .front).content ≠ some 3 ∧
      ((usingBuffer 1 true []).store.unstageable 0x50000 512 = false ∧ (usingBuffer 1 true []).store.state = .idle) ∧
      ((usingBuffer 1 true []).audio.chimes.get .rearLeft).player = .starting (chime 3 2 1 .system) ∧
      ((usingBuffer 1 true []).audio.buffer.without .rearRight).user = some .front ∧
      ((usingBuffer 1 false []).audio.buffer.without .front).waiters = [] ∧
      (clips[0]?.map Clip.resident = some true ∧ clips[3]?.map Clip.resident = some false) ∧
      Arrives (taking (playing 3 2) (usingBuffer 1 false [])) 14 (playing 3 2) ∧
      (after .playChime (taking (playing 1 2) (usingBuffer 1 false []))).audio.chimes.front.player =
        .playing (chime 1 2 5 .system) .staging 0 ∧
      (after .playChime (taking (playing 3 2) (usingBuffer 3 true []))).audio.buffer.waiters = [.front] ∧
      (after .playChime (taking (playing 0 2) (usingBuffer 3 true []))).audio.chimes.rearLeft.player =
        .playing (chime 3 2 1 .system) .staging 0 := by decide +kernel
theorem witness_PlayChimeOnBusyPlayerQueuesOrPreempts_full :
    let full := [chime 2 1 6 .system, chime 2 1 7 .system, chime 2 0 8 .system, chime 2 0 9 .system]
    let kept := [chime 2 1 6 .system, chime 2 1 7 .system, chime 2 0 9 .system]
    (usingBuffer 1 false full).ChimesSettled ∧ MakesRoom full kept 2 ∧ MakesRoom [] [] 6 ∧ (∀ x ∈ kept, x.priority < 2) ∧
      (after .playChime (taking (playing 0 2) (usingBuffer 1 false full))).audio.chimes.front.queue = kept :=
  ⟨usingBuffer_settled _ _ _ (by decide),
    .inr ⟨rfl, [chime 2 1 6 .system, chime 2 1 7 .system], chime 2 0 8 .system, [chime 2 0 9 .system], rfl, rfl, by decide,
      by decide, by decide⟩,
    .inl ⟨by decide, rfl⟩, by decide, by decide +kernel⟩
theorem witness_PlayChimeOnBusyPlayerQueuesOrPreempts_tone :
    beepEnding.ChimesSettled ∧ beepEnding.audio.chimes.front.player.chime = some (chime 1 5 2 .part) ∧
      beepEnding.audio.chimes.front.queue = [] ∧ (beepEnding.audio.buffer.without .front).waiters = [] ∧
      (beepEnding.park.active = true ∧ beepEnding.park.band = some 0 ∧
        beepEnding.park.table[0]?.map Band.interval = some none) ∧
      beepEnding.offerTone.audio.chimes.front =
        { queue := [chime 1 5 6 .part], arrivals := 7, player := .playing (chime 0 6 5 .part) .cache 0 } :=
  ⟨witness_ParkPatternOffersBeeps_ending, by decide +kernel⟩
theorem witness_PlayChimeOnBusyPlayerQueuesOrPreempts_own :
    let toned := chiming [] (.playing (chime 0 6 1 .part) .cache 1)
    toned.ChimesSettled ∧ toned.audio.chimes.front.player.chime = some (chime 0 6 1 .part) ∧
      (beepResident (chiming [] (systemPlaying 3))).ChimesSettled ∧
      (beepResident (chiming [] (systemPlaying 3))).audio.clips[1]?.map Clip.resident = some true ∧
      toned.offerBeep.audio.chimes.front.queue = [chime 1 5 5 .part] ∧
      (beepResident (chiming [] (systemPlaying 3))).offerBeep.audio.chimes.front.player =
        .playing (chime 1 5 5 .part) .cache 0 :=
  ⟨chiming_settled _ _ (by decide) (fun _ => rfl), by decide,
    { chiming_settled [] (systemPlaying 3) (by decide) (fun _ => rfl) with
      served := fun _ => rfl, waiting := fun _ h => nomatch h },
    by decide +kernel⟩
theorem witness_ReverseControllerFollowsAssertion_reports :
    (∃ e ∈ (driving .off .pin true).vehicle.table, e.signal = .parkDistance) ∧
      (driving .off .pin true).vehicle.records.parkDistance.state ≠ .fresh ∧
      (chiming [chime 0 6 2 .part] (systemPlaying 2)).audio.chimes.front.queue = [chime 0 6 2 .part] ∧
      base.audio.clips = [] ∧ base.audio.chimes.front.player = .idle ∧
      (driving .holdOff .pin true).evaluateReverse.park.active = true ∧
      ((driving .manual .pin true).stack .front = []) := by decide +kernel
theorem witness_GuideBuildIsBoundedAndHandedOver_full :
    let crowded := { flatConfig with marks := [1, 2, 3, 4] }
    0 ≤ crowded.lineHalf ∧ ((crowded.offered 0).filter fun x => x.row == 0).length = 12 ∧
      (crowded.build 0).dropped = true ∧ (((flatConfig.offered 0).filter fun x => x.row == 10).length = 3) := by
  decide +kernel
theorem witness_BoundarySelectsAndReleasesFrames_released :
    let s := streamingLayer [entry 0 8332, entry 64 8333, entry 128 8334] (some (entry 192 0, 2)) 0
    s.releasedAtBoundary .rearLeft = [(.video, entry 192 0, 2), (.video, entry 0 8332, 0)] ∧
      (stagedLayer .default).releasedAtBoundary .rearLeft = [(.video, entry 192 0, 2), (.video, entry 0 8333, 0)] ∧
      ((streamingLayer [] none 500000).starves .rearLeft .video = true ∧
        (streamingLayer [] none 499999).starves .rearLeft .video = false) ∧
      ((watching 100001).compositor.fallbackShown = false ∧ ((watching 100001).stack .front).getLast? = some pinnedCamera ∧
        100000 < ((100001 : Time) - 0).toInt ∧ ¬ 100000 < ((100000 : Time) - 0).toInt) ∧
      (watching 100001).roles ≠ none ∧ { base with roles := none }.roles = none ∧
      (after (.displayFrameBoundary .rearLeft) s).rw = (s.layersTell .rearLeft).rw := by decide +kernel
/-- A view of the video layer on REAR_LEFT, over a layer with a current frame. -/
def rowZero : State :=
  (streamingLayer [] (some (entry 192 0, 2)) 0).setStack .rearLeft [systemView 1]
theorem witness_BoundaryTakesFrame_row_zero :
    (rowZero.stack .rearLeft).getLast? = some (systemView 1) ∧ rowZero.roles ≠ none ∧
      ((after (.displayFrameBoundary .rearLeft) rowZero).displays.rearLeft.scan.queue.map
        fun f => (f.layer, f.row, f.addr, f.len)) = [(.video, 0, 0x20000C0, 64)] ∧
      ((after (.displayFrameBoundary .front) (watching 100000)).displays.front.scan.queue.map ScanFetch.addr).take 2 =
        [0x100000, 0x100040] ∧
      (after (.displayFrameBoundary .front) (watching 100001)).displays.front.scan.queue = [] := by decide +kernel

/-! ### The points that a review raised -/

theorem test_completion_is_written_on_each_side_of_its_boundary :
    ((after .lockWriteComplete (working .programming (op .lock [] (some 0)) 600)).rw.queue.map
        fun w => (w.addr, w.bytes)).take 2 = [(0x107E, [19, 0]), (0x1080, [7, 0])] := by decide +kernel
theorem test_suspended_store_receives_no_grant :
    let s := stagingIn .suspendedProgram none (.running 0) 9 none
    ({ s with store := { s.store with transfers := [.source 0x5000000 64] } } : State).waits .store = false := by decide
theorem test_search_forgets_direction_candidate :
    (after (.otherCameraPacket [9]) { silentCapture with
      camera := { silentCapture.camera with candidate := some .up } }).camera.candidate = none := by decide +kernel
theorem test_identity_record_and_snapshot :
    identityRecord = identityBytes ∧ State.reset.snapshot.length = 0xFDC := by decide +kernel

/-! ### Headlines -/

theorem witness_CommandsStayWithinFootprint :
    exec .linkTraining base = .next base ∧ Instr.WellFormed (.linkRead 0 64) = true ∧
      Instr.WellFormed (.linkRead 0 65) = false := ⟨rfl, rfl, rfl⟩
/-- A command waits in a device that the invariants hold of. -/
def queueing (c : Instr) : State := { State.reset with pending := [c] }
theorem witness_StepKeepsDeviceInvariants :
    (queueing .linkTraining).Canonical ∧ (queueing .linkTraining).StacksLegal ∧ (queueing .linkTraining).PictureSafe ∧
      (queueing .linkTraining).Bounded ∧ step (queueing .linkTraining) = .next State.reset :=
  ⟨⟨by decide, by decide⟩,
    ⟨fun d => by cases d <;> decide, by decide, fun d _ => by cases d <;> decide⟩,
    ⟨fun _ h => (nomatch h), by decide, by decide, by decide, by decide⟩,
    { requestRing := by decide, reportRing := by decide, lost := by decide, counters := fun k => by cases k <;> decide
      responses := by decide, window := by decide, storeGap := by decide, positions := by decide, storeQueue := by decide
      queues := fun d l => by cases d <;> cases l <;> decide },
    rfl⟩
theorem witness_StepKeepsHoldCounts :
    (queueing .linkTraining).HoldsMatch ∧ step (queueing .linkTraining) = .next State.reset :=
  ⟨{ distinct := by decide, counts := fun _ h => (nomatch h), present := fun _ h => (nomatch h)
     loading := fun _ => by decide }, rfl⟩
theorem witness_StepKeepsChimesSettled :
    (queueing .linkTraining).ChimesSettled ∧ step (queueing .linkTraining) = .next State.reset :=
  ⟨{ queues := fun d => by cases d <;> decide, players := fun d _ => by cases d <;> rfl, served := fun _ => rfl
     distinct := by decide, waiting := fun _ h => (nomatch h) }, rfl⟩
theorem witness_LockedCalibrationNeverChanges :
    ({ lockedStore with pending := [.linkTraining] } : State).LockSafe ∧
      step { lockedStore with pending := [.linkTraining] } = .next lockedStore ∧
      lockedStore.store.lockMark = true ∧ 65535 < 65536 :=
  ⟨{ copy := rfl, ordered := by decide, idle := fun _ => by decide, running := fun _ _ h => (nomatch h) }, rfl, rfl,
    by decide⟩

end Sys2Proof.Tests
end

/-! ## Proofs: requests, reports and faults

First the rules of the operations that the statements speak of: a full write of a watched word, the report writer's
records, and a record taken by its owner. Then the statements, each assembled from the rules. -/

section

namespace Sys2Proof.Machine

/-! ### A full write of a watched word (R3, R4, R7, R14) -/

theorem LinkReady.mayTake {s : State} (h : LinkReady s) : s.mayTake = true := by
  have noneBringUp : s.rw.queue.any DeviceWrite.bringUp = false := by simpa using h.broughtUp
  simp [State.mayTake, h.up, h.room, noneBringUp]

/-- A ready link port holds nothing back. -/
theorem LinkReady.receive {s : State} (h : LinkReady s) (t : Transaction) : s.receive t = s.takeTransaction t := by
  simp [State.receive, h.up, h.noneHeld, h.mayTake]

theorem length_bytesOf (n v : Nat) : (bytesOf n v).length = n := by
  induction n generalizing v with
  | zero => rfl
  | succ n ih => rw [bytesOf, List.length_cons, ih]

theorem fieldAt_bytesOf_four (n : Nat) : fieldAt (bytesOf 4 n) 0 4 = n % 2 ^ 32 := by
  simp [fieldAt, byteAt, bytesOf]
  omega

/-- The word that a full write is for receives the written value. -/
theorem touchWord_same (a : Nat) (v : BitVec 32) : touchWord a ((bytesOf 4 v.toNat).map some) a = .whole v := by
  have lanes : wordLanes a ((bytesOf 4 v.toNat).map some) a = (bytesOf 4 v.toNat).map some := by
    simp [wordLanes, bytesOf, List.range_succ]
  have value : BitVec.ofNat 32 (fieldAt (bytesOf 4 v.toNat) 0 4) = v := by
    rw [fieldAt_bytesOf_four, Nat.mod_eq_of_lt v.isLt, BitVec.ofNat_toNat, BitVec.setWidth_eq]
  rw [touchWord, lanes]
  exact congrArg WordTouch.whole value

theorem touchWord_apart {a w : Nat} {lanes : List (Option Byte)} (h : w + 4 ≤ a ∨ a + lanes.length ≤ w) :
    touchWord a lanes w = .untouched := by
  have noLane : ∀ k < 4, (if a ≤ w + k then lanes.getD (w + k - a) none else none) = none := by
    intro k hk
    split
    · rw [List.getD_eq_default]
      omega
    · rfl
  have lanesEq : wordLanes a lanes w = [none, none, none, none] := by
    simp only [wordLanes, List.range_succ, List.range_zero, List.nil_append, List.cons_append, List.map_cons, List.map_nil,
      noLane 0 (by decide), noLane 1 (by decide), noLane 2 (by decide), noLane 3 (by decide)]
  rw [touchWord, lanesEq]

/-- A full write of one word reaches that word and no other. -/
theorem touchWord_word (page : Nat) (v : BitVec 32) {offset w : Nat} (ho : offset % 4 = 0) (hw : w % 4 = 0) :
    touchWord (page + offset) ((bytesOf 4 v.toNat).map some) (page + w) =
      if w = offset then .whole v else .untouched := by
  split
  · next same => rw [same, touchWord_same]
  · next other => exact touchWord_apart (by rw [List.length_map, length_bytesOf]; omega)

theorem mod_four_of_mem_watchedWords {w : Nat} (h : w ∈ watchedWords) : w % 4 = 0 ∧ w + 4 ≤ 4096 := by
  revert w
  decide

theorem captureWord_word (s : State) (page : Nat) (v : BitVec 32) {offset w : Nat} (ho : offset ∈ watchedWords)
    (hw : w ∈ watchedWords) :
    State.captureWord page (page + offset) ((bytesOf 4 v.toNat).map some) s w =
      if w = offset then s.handWord offset v else s := by
  rw [State.captureWord, touchWord_word page v (mod_four_of_mem_watchedWords ho).1 (mod_four_of_mem_watchedWords hw).1]
  by_cases same : w = offset
  · rw [if_pos same, if_pos same, same]
  · rw [if_neg same, if_neg same]

/-- Of all words that are watched, a full write of one hands the value to its owner alone. -/
theorem foldl_captureWord_word (s : State) (page : Nat) (v : BitVec 32) {offset : Nat} (ho : offset ∈ watchedWords) :
    watchedWords.foldl (State.captureWord page (page + offset) ((bytesOf 4 v.toNat).map some)) s =
      s.handWord offset v := by
  have stepAt : ∀ (u : State), ∀ w ∈ watchedWords,
      State.captureWord page (page + offset) ((bytesOf 4 v.toNat).map some) u w =
        if w = offset then u.handWord offset v else u := fun u w hw => captureWord_word u page v ho hw
  rw [List.foldl_ext _ _ _ stepAt]
  simp only [watchedWords, List.mem_cons, List.not_mem_nil, or_false] at ho
  obtain rfl | rfl | rfl | rfl | rfl := ho <;> rfl

/-- A full write of one word carries a media value where the word is a stream's, and only that one (R168). -/
theorem mediaValues_word (page : Nat) (v : BitVec 32) {offset : Nat} (ho : offset ∈ watchedWords) :
    mediaValues page (page + offset) ((bytesOf 4 v.toNat).map some) =
      (streamOfWord offset).toList.map fun d => (d, v) := by
  rw [mediaValues, List.filterMap_congr (g := fun w => if w = offset then (streamOfWord w).map fun d => (d, v) else none)]
  · simp only [watchedWords, List.mem_cons, List.not_mem_nil, or_false] at ho
    obtain rfl | rfl | rfl | rfl | rfl := ho <;> rfl
  · intro w hw
    rw [touchWord_word page v (mod_four_of_mem_watchedWords ho).1 (mod_four_of_mem_watchedWords hw).1]
    by_cases same : w = offset
    · rw [if_pos same, if_pos same]
      cases streamOfWord w <;> rfl
    · rw [if_neg same, if_neg same]
      cases streamOfWord w <;> rfl

theorem guardDecision_control {t : List Region} {a : Nat} (h : ∃ r, regionAt t a = some r ∧ r.kind = .control) :
    guardDecision t a = .pass := by
  obtain ⟨r, found, kind⟩ := h
  simp [guardDecision, found, kind]

/-- The state once an access has entered class C, behind those that wait there. -/
def State.entered (s : State) (a : LinkAccess) : State :=
  { s with link := { s.link with path := s.link.path ++ [a] } }

/-- A passing write enters class C with its media values, and the watched words are then gone through (R14, R168). -/
theorem State.passWrite_of_roles {s : State} {roles : Roles} (h : s.roles = some roles) (addr : Nat)
    (lanes : List (Option Byte)) :
    s.passWrite addr lanes =
      watchedWords.foldl (State.captureWord roles.controlPage addr lanes)
        (s.entered (.write addr lanes (mediaValues roles.controlPage addr lanes))) := by
  unfold State.passWrite
  split
  · next unnamed => simp [h] at unnamed
  · next named =>
    obtain rfl := Option.some.inj (h.symm.trans named)
    rfl

/-- A full write of a watched word enters class C, and its value goes to the word's owner at once (R14). -/
theorem WordWritable.writeWord {s : State} {roles : Roles} {offset : Nat} (h : WordWritable s roles offset)
    (ho : offset ∈ watchedWords) (v : BitVec 32) :
    s.writeWord offset v =
      (s.entered (wordWrite roles offset v ((streamOfWord offset).toList.map fun d => (d, v)))).handWord offset v := by
  have aligned := h.aligned
  have inDram := h.inDram
  have offsetFits := mod_four_of_mem_watchedWords ho
  have addrEq : (BitVec.ofNat 32 (roles.controlPage + offset)).toNat = roles.controlPage + offset := by
    rw [BitVec.toNat_ofNat, Nat.mod_eq_of_lt (by omega)]
  have inRange : outOfRange (roles.controlPage + offset) ((bytesOf 4 v.toNat).map some).length = false := by
    rw [List.length_map, length_bytesOf, outOfRange, decide_eq_false_iff_not, Config.dramSize]
    omega
  have passed : s.passWrite (roles.controlPage + offset) ((bytesOf 4 v.toNat).map some) =
      (s.entered (wordWrite roles offset v ((streamOfWord offset).toList.map fun d => (d, v)))).handWord offset v := by
    rw [State.passWrite_of_roles h.named, mediaValues_word _ v ho, foldl_captureWord_word _ _ v ho, wordWrite]
  simp only [State.writeWord, h.named, h.toLinkReady.receive, State.takeTransaction, State.takeWrite, addrEq, inRange,
    guardDecision_control h.control, Bool.false_eq_true, if_false, passed]

/-! ### What the report writer holds for each kind (R30 to R33) -/

/-- Each kind stands in the table at its index. -/
theorem allFaultKinds_getElem_index (k : FaultKind) : allFaultKinds[k.index.val]? = some k := by cases k <;> rfl

theorem FaultKind.index_injective : Function.Injective FaultKind.index := fun j k same =>
  Option.some.inj <| by rw [← allFaultKinds_getElem_index j, same, allFaultKinds_getElem_index]

theorem mem_allFaultKinds (k : FaultKind) : k ∈ allFaultKinds := List.mem_of_getElem? (allFaultKinds_getElem_index k)

theorem nodup_allFaultKinds : allFaultKinds.Nodup := by decide

/-- The kind's own record is replaced and no other. -/
theorem ReportWriter.fault_putFault (rw : ReportWriter) (j k : FaultKind) (v : FaultRecord) :
    (rw.putFault k v).fault j = if j = k then v else rw.fault j := by
  simp only [ReportWriter.putFault, ReportWriter.fault, Fin.getElem_fin, Vector.getElem_set]
  split
  · next same => rw [if_pos (FaultKind.index_injective (Fin.ext same)).symm]
  · next other => rw [if_neg (fun e => other (by rw [e]))]

theorem ReportWriter.fault_congr {rw rw' : ReportWriter} (h : rw.faults = rw'.faults) (k : FaultKind) :
    rw.fault k = rw'.fault k := by
  unfold ReportWriter.fault
  rw [h]

/-- The two writers agree in all but what they hold for the fault kinds. -/
def FaultsOnly (rw rw' : ReportWriter) : Prop := { rw' with faults := rw.faults } = rw

theorem FaultsOnly.trans {a b c : ReportWriter} (h : FaultsOnly a b) (g : FaultsOnly b c) : FaultsOnly a c := by
  unfold FaultsOnly at *
  rw [← h, ← g]

/-- `f` does to a kind's record what `g` says, and changes nothing else of the report writer. -/
structure ActsOnKind (f : ReportWriter → FaultKind → ReportWriter) (g : FaultKind → FaultRecord → FaultRecord) :
    Prop where
  fault : ∀ rw k j, (f rw k).fault j = if j = k then g k (rw.fault k) else rw.fault j
  rest : ∀ rw k, FaultsOnly rw (f rw k)

theorem ActsOnKind.foldl_rest {f g} (h : ActsOnKind f g) (ks : List FaultKind) (rw : ReportWriter) :
    FaultsOnly rw (ks.foldl f rw) := by
  induction ks generalizing rw with
  | nil => rfl
  | cons k ks ih => exact (h.rest rw k).trans (ih (f rw k))

theorem ActsOnKind.foldl_fault {f g} (h : ActsOnKind f g) {ks : List FaultKind} (distinct : ks.Nodup)
    (rw : ReportWriter) (j : FaultKind) :
    (ks.foldl f rw).fault j = if j ∈ ks then g j (rw.fault j) else rw.fault j := by
  induction ks generalizing rw with
  | nil => rfl
  | cons k ks ih =>
    obtain ⟨fresh, distinctRest⟩ := List.nodup_cons.mp distinct
    rw [List.foldl_cons, ih distinctRest, h.fault]
    by_cases same : j = k
    · subst same
      simp [fresh]
    · simp [same]

/-- One pass over the table does to every kind's record what one step does to it. -/
theorem ActsOnKind.foldl_all {f g} (h : ActsOnKind f g) (rw : ReportWriter) (j : FaultKind) :
    (allFaultKinds.foldl f rw).fault j = g j (rw.fault j) := by
  rw [h.foldl_fault nodup_allFaultKinds, if_pos (mem_allFaultKinds j)]

theorem actsOnKind_putFault (g : FaultKind → FaultRecord → FaultRecord) :
    ActsOnKind (fun rw k => rw.putFault k (g k (rw.fault k))) g where
  fault rw k j := rw.fault_putFault j k _
  rest _ _ := rfl

/-- Acting on the selected kinds only. -/
theorem ActsOnKind.onSelected {f g} (h : ActsOnKind f g) (p : FaultKind → Prop) [DecidablePred p] :
    ActsOnKind (fun rw k => if p k then f rw k else rw) (fun k r => if p k then g k r else r) where
  fault rw k j := by
    split
    · exact h.fault rw k j
    · split
      · next same => rw [same]
      · rfl
  rest rw k := by
    split
    · exact h.rest rw k
    · rfl

/-! ### Placing, posting and raising (R26 to R30) -/

/-- The record goes to the slot at the producer index, and the new index into the status block behind it (R26). -/
theorem State.placeReport_of_roles {s : State} {roles : Roles} (h : s.roles = some roles) (r : Report) :
    s.placeReport r =
      { s with
        rw := { s.rw with
          producer := (s.rw.producer + 1) % 128
          queue := s.rw.queue ++
            [{ addr := roles.reportRing + 32 * s.rw.producer, bytes := encodeReport s.time r, bringUp := false },
             { addr := roles.statusBlock + 0x028, bytes := bytesOf 4 ((s.rw.producer + 1) % 128)
               bringUp := false }] } } := by
  simp [State.placeReport, h, State.present]

theorem State.placeReport_faults_consumer (s : State) (r : Report) :
    (s.placeReport r).rw.faults = s.rw.faults ∧ (s.placeReport r).rw.consumer = s.rw.consumer := by
  unfold State.placeReport
  split <;> exact ⟨rfl, rfl⟩

/-- Posting touches neither a fault kind nor the consumer index. -/
theorem State.post_faults_consumer (s : State) (r : Report) :
    (s.post r).rw.faults = s.rw.faults ∧ (s.post r).rw.consumer = s.rw.consumer := by
  unfold State.post
  split
  · exact ⟨rfl, rfl⟩
  · split
    · exact s.placeReport_faults_consumer r
    · exact ⟨rfl, rfl⟩

/-- Whether or not a report is posted, an occurrence leaves the kind's record behind (R30). -/
theorem State.raise_faults_consumer (s : State) (k : FaultKind) (detail : Nat) :
    (s.raise k detail).rw.faults = (s.rw.putFault k ((s.rw.fault k).occur detail)).faults ∧
      (s.raise k detail).rw.consumer = s.rw.consumer := by
  unfold State.raise
  extract_lets before after s1
  split
  · exact s1.post_faults_consumer _
  · exact ⟨rfl, rfl⟩

theorem State.raise_faultRaised (s : State) (k : FaultKind) (detail : Nat) :
    FaultRaised k detail s (s.raise k detail) := by
  have fault : ∀ j, (s.raise k detail).rw.fault j = if j = k then (s.rw.fault k).occur detail else s.rw.fault j :=
    fun j => (ReportWriter.fault_congr (s.raise_faults_consumer k detail).1 j).trans (s.rw.fault_putFault j k _)
  exact ⟨by rw [fault, if_pos rfl], fun j hj => by rw [fault, if_neg hj]⟩

/-! ### The report consumer index (R28, R29) -/

theorem State.takeReportConsumer_refused {s : State} {v : BitVec 32}
    (h : 128 ≤ v.toNat ∨
      (s.rw.producer + 128 - s.rw.consumer) % 128 < (v.toNat + 128 - s.rw.consumer) % 128) :
    s.takeReportConsumer v = s.raise .requestInvalid 0x004 := by
  unfold State.takeReportConsumer
  split
  · rfl
  · next small => rw [if_pos (h.resolve_left small)]

/-- A value of the ring within the span becomes the consumer index. -/
theorem State.takeReportConsumer_quiet {s : State} {v : BitVec 32} (small : v.toNat < 128)
    (inSpan : (v.toNat + 128 - s.rw.consumer) % 128 ≤ (s.rw.producer + 128 - s.rw.consumer) % 128)
    (quiet : s.rw.lost = 0 ∨ (s.rw.producer + 128 - v.toNat) % 128 = 127) :
    s.takeReportConsumer v = { s with rw := { s.rw with consumer := v.toNat } } := by
  simp only [State.takeReportConsumer, ReportWriter.slotFree, decide_eq_true_eq]
  rw [if_neg (by omega), if_neg (by omega), if_neg (by omega)]

/-- With reports lost and a slot then free, REPORTS_LOST takes the slot. -/
theorem State.takeReportConsumer_told {s : State} {roles : Roles} {v : BitVec 32} (named : s.roles = some roles)
    (small : v.toNat < 128)
    (inSpan : (v.toNat + 128 - s.rw.consumer) % 128 ≤ (s.rw.producer + 128 - s.rw.consumer) % 128)
    (lost : 0 < s.rw.lost) (free : (s.rw.producer + 128 - v.toNat) % 128 < 127) :
    s.takeReportConsumer v =
      { s with
        rw := { s.rw with
          consumer := v.toNat, lost := 0, producer := (s.rw.producer + 1) % 128
          queue := s.rw.queue ++
            [{ addr := roles.reportRing + 32 * s.rw.producer
               bytes := encodeReport s.time (.reportsLost s.rw.lost), bringUp := false },
             { addr := roles.statusBlock + 0x028, bytes := bytesOf 4 ((s.rw.producer + 1) % 128)
               bringUp := false }] } } := by
  simp only [State.takeReportConsumer, ReportWriter.slotFree, decide_eq_true_eq]
  rw [if_neg (by omega), if_neg (by omega), if_pos ⟨lost, free⟩, State.placeReport_of_roles (roles := roles)]
  exact named

/-- A full write of the report consumer word is one more write in class C, and its value goes to the report writer. -/
theorem exec_reportConsumerIndex {s : State} {roles : Roles} (h : WordWritable s roles 0x004) (v : BitVec 32) :
    exec (.reportConsumerIndex v) s = .next ((s.entered (wordWrite roles 0x004 v [])).takeReportConsumer v) :=
  congrArg Host.Outcome.next (h.writeWord (by decide) v)

/-- Settles O11: the write enters class C, and the report writer then refuses the value, or takes it with or without telling
of lost reports. -/
theorem reportConsumerIsTaken : Obligations.ReportConsumerIsTaken := by
  intro s roles v writable _ _ path spanned
  have run := exec_reportConsumerIndex writable v
  have pathOnly := within_link s (s.entered (wordWrite roles 0x004 v [])).link
  refine ⟨fun refused => ?_, fun small inSpan => ⟨fun quiet => ?_, fun lost free => ?_⟩⟩
  · rw [State.takeReportConsumer_refused (s := s.entered _) refused] at run
    refine ⟨_, run, State.raise_faultRaised _ _ _, (State.raise_faults_consumer _ _ _).2, State.raise_link _ _ _, ?_⟩
    exact (pathOnly.mono (by decide)).trans ((State.raise_within _ _ _).mono (by decide))
  · exact run.trans (congrArg _ (State.takeReportConsumer_quiet (s := s.entered _) small inSpan quiet))
  · exact run.trans (congrArg _ (State.takeReportConsumer_told (s := s.entered _) writable.named small inSpan lost free))

/-! ### SET_FAULT_MASK and CLEAR_FAULTS (R32, R33) -/

/-- A record that passes the common checks is its owner's, and ends as the owner says (R21). -/
theorem State.takeKind_of_arrives {s : State} {kind : Nat} {rec : List Byte} (h : Arrives s kind rec) (owner : OwnerAct) :
    s.takeKind kind owner = (owner rec s).1.ended rec (owner rec s).2 := by
  obtain ⟨arrived, ofKind, checked⟩ := h
  simp [State.takeKind, State.arrivedOf, arrived, ofKind, State.takeRecord, checked, State.ended]

theorem checkFaultSet_eq_some {rec : List Byte} (clear : reservedClear rec [8, 9, 10, 11] = true)
    (inTable : fieldAt rec 8 4 < 0x10000) : checkFaultSet rec = some (fieldAt rec 8 4) := if_pos ⟨clear, inTable⟩

theorem checkFaultSet_eq_none {rec : List Byte}
    (h : reservedClear rec [8, 9, 10, 11] = false ∨ 0x10000 ≤ fieldAt rec 8 4) : checkFaultSet rec = none :=
  if_neg fun ⟨clear, inTable⟩ => h.elim (fun e => by simp [e] at clear) (fun e => absurd inTable (by omega))

theorem exec_setFaultMask {s : State} {rec : List Byte} (h : Arrives s 20 rec) :
    exec .setFaultMask s =
      .next ((ownSetFaultMask rec s).1.ended rec (ownSetFaultMask rec s).2) :=
  congrArg Host.Outcome.next (State.takeKind_of_arrives h ownSetFaultMask)

theorem exec_clearFaults {s : State} {rec : List Byte} (h : Arrives s 21 rec) :
    exec .clearFaults s =
      .next ((ownClearFaults rec s).1.ended rec (ownClearFaults rec s).2) :=
  congrArg Host.Outcome.next (State.takeKind_of_arrives h ownClearFaults)

/-- Posting where a condition holds, kind by kind, is posting for the kinds of which it holds. -/
theorem State.setFaultMask_eq_foldl_filter (s : State) (mask : Nat) : ∃ rw : ReportWriter,
    (∀ k, rw.fault k = { s.rw.fault k with masked := mask.testBit k.index.val }) ∧ FaultsOnly s.rw rw ∧
    s.setFaultMask mask =
      (allFaultKinds.filter fun k =>
          (s.rw.fault k).masked && !mask.testBit k.index.val && (s.rw.fault k).flag).foldl
        (fun (u : State) k => u.post (.fault k (s.rw.fault k).counter (s.rw.fault k).detail)) { s with rw := rw } := by
  have acts := actsOnKind_putFault fun k r => { r with masked := mask.testBit k.index.val }
  refine ⟨_, acts.foldl_all s.rw, acts.foldl_rest allFaultKinds s.rw, ?_⟩
  rw [List.foldl_filter]
  simp only [State.setFaultMask, Bool.and_eq_true, Bool.not_eq_true', and_assoc]

theorem State.clearFaults_eq_selected (s : State) (selection : Nat) : ∃ rw : ReportWriter,
    (∀ k, rw.fault k =
      if selection.testBit k.index.val then
        { flag := false, masked := (s.rw.fault k).masked, counter := 0, detail := 0 }
      else s.rw.fault k) ∧ FaultsOnly s.rw rw ∧ s.clearFaults selection = { s with rw := rw } := by
  have acts := (actsOnKind_putFault fun _ r => { r with flag := false, detail := 0, counter := 0 }).onSelected
    fun k => selection.testBit k.index.val = true
  exact ⟨_, acts.foldl_all s.rw, acts.foldl_rest allFaultKinds s.rw, rfl⟩

/-- Settles O18: each kind's record is rewritten once in the pass over the table, and the posts follow the pass. -/
theorem faultMaskAndClearActOnKinds : Obligations.FaultMaskAndClearActOnKinds := by
  refine ⟨fun s rec arrives => ⟨fun clear inTable => ?_, fun refused => ?_⟩,
    fun s rec arrives => ⟨fun clear inTable => ?_, fun refused => ?_⟩⟩
  · obtain ⟨rw', masks, rest, posted⟩ := s.setFaultMask_eq_foldl_filter (fieldAt rec 8 4)
    refine ⟨rw', masks, rest, ?_⟩
    rw [exec_setFaultMask arrives, ownSetFaultMask, checkFaultSet_eq_some clear inTable, ← posted]
  · rw [exec_setFaultMask arrives, ownSetFaultMask, checkFaultSet_eq_none refused]
  · obtain ⟨rw', cleared, rest, changed⟩ := s.clearFaults_eq_selected (fieldAt rec 8 4)
    refine ⟨rw', cleared, rest, ?_⟩
    rw [exec_clearFaults arrives, ownClearFaults, checkFaultSet_eq_some clear inTable, ← changed]
  · rw [exec_clearFaults arrives, ownClearFaults, checkFaultSet_eq_none refused]

end Sys2Proof.Machine

end

/-! ## Proofs: views

The rules of a view stack: where a pushed view lands, which view gives up its place, which view a pop takes. Then what the
requests PUSH_VIEW and POP_VIEW check and do, and the statement about them. -/

section

namespace Sys2Proof.Machine

/-! ### The view stack (R130 to R132) -/

theorem topView_append_singleton (lower : List View) (top : View) : topView (lower ++ [top]) = some top :=
  List.getLast?_concat

/-- Beneath a pinned CAMERA view (R131). -/
theorem placeSystem_beneath {top : View} (camera : top.owner = .camera) (pinned : top.pinned = true) (lower : List View)
    (v : View) : placeSystem (lower ++ [top]) v = lower ++ [v, top] := by
  have held : topPinned (lower ++ [top]) = true := by
    simp [topPinned, topView_append_singleton, camera, pinned]
  rw [placeSystem, if_pos held, insertBeneath, List.getLast?_concat, List.dropLast_concat]

/-- On top of any other stack, the empty one included (R131). -/
theorem placeSystem_onTop {st : List View}
    (h : ∀ top, st.getLast? = some top → top.owner = .system ∨ top.pinned = false) (v : View) :
    placeSystem st v = st ++ [v] := by
  have free : topPinned st = false := by
    unfold topPinned
    split
    · rfl
    · next top found =>
      obtain system | unpinned := h top found
      · rw [system]; rfl
      · rw [unpinned, Bool.and_false]
  rw [placeSystem, if_neg (ne_true_of_eq_false free), pushTop]

/-- The SYSTEM view that has no SYSTEM view beneath it is the one given up (R132). -/
theorem dropBottomSystem_append_cons {lower : List View} {x : View} (below : ∀ y ∈ lower, y.owner = .camera)
    (system : x.owner = .system) (upper : List View) : dropBottomSystem (lower ++ x :: upper) = lower ++ upper := by
  rw [dropBottomSystem, List.eraseP_append_right _ (fun y hy => by simp [below y hy]),
    List.eraseP_cons_of_pos (by simp [system])]

/-- With SYSTEM views alone beneath it, a CAMERA view on top is the one that goes (R100). -/
theorem dropCamera_append_singleton {lower : List View} {top : View} (below : ∀ v ∈ lower, v.owner = .system)
    (camera : top.owner = .camera) : dropCamera (lower ++ [top]) = lower := by
  have kept : lower.filter (fun v => v.owner == .system) = lower :=
    List.filter_eq_self.mpr fun v hv => by simp [below v hv]
  simp [dropCamera, kept, camera]

theorem State.raise_stack (s : State) (k : FaultKind) (n : Nat) (d : Display) : (s.raise k n).stack d = s.stack d := by
  rw [State.stack, State.raise_displays, State.stack]

/-! ### Pushing (R131, R132) -/

theorem State.pushView_of_room {s : State} {d : Display} (room : (s.stack d).length < 4) (v : View) :
    s.pushView d v = (s.setStack d (placeSystem (s.stack d) v), true) :=
  if_neg (by simpa [stackFull] using room)

theorem State.pushView_of_full_unmasked {s : State} {d : Display} (full : 4 ≤ (s.stack d).length)
    (unmasked : (s.rw.fault .viewOverflow).masked = false) (v : View) :
    s.pushView d v = (s.raise .viewOverflow (displayNumber d), false) := by
  simp [State.pushView, stackFull, full, State.isMasked, unmasked]

/-- A full stack under a set mask gives up its bottom-most SYSTEM view, and the push goes on from what is left (R132). -/
theorem State.pushView_of_full_masked {s : State} {d : Display} {lower upper : List View} {x : View}
    (holds : s.stack d = lower ++ x :: upper) (full : 3 ≤ (lower ++ upper).length)
    (masked : (s.rw.fault .viewOverflow).masked = true) (below : ∀ y ∈ lower, y.owner = .camera)
    (system : x.owner = .system) (v : View) :
    s.pushView d v =
      ((s.raise .viewOverflow (displayNumber d)).setStack d (placeSystem (lower ++ upper) v), true) := by
  have isFull : stackFull (lower ++ x :: upper) = true := by
    rw [List.length_append] at full
    rw [stackFull, decide_eq_true_eq, List.length_append, List.length_cons]
    omega
  simp only [State.pushView, State.raise_stack, holds, isFull, State.isMasked, masked, if_true,
    dropBottomSystem_append_cons below system]

/-! ### Popping (R133, R134) -/

theorem State.popView_system {s : State} {d : Display} {lower : List View} {top : View}
    (holds : s.stack d = lower ++ [top]) (system : top.owner = .system) :
    s.popView d = (s.setStack d lower, .done) := by
  simp [State.popView, holds, topView_append_singleton, system]

theorem State.popView_pinned {s : State} {d : Display} {lower : List View} {top : View}
    (holds : s.stack d = lower ++ [top]) (camera : top.owner = .camera) (pinned : top.pinned = true) :
    s.popView d = (s, .refused .viewPinned) := by
  simp [State.popView, holds, topView_append_singleton, camera, pinned]

theorem State.popView_unpinned {s : State} {d : Display} {lower : List View} {top : View}
    (holds : s.stack d = lower ++ [top]) (camera : top.owner = .camera) (unpinned : top.pinned = false) :
    s.popView d = (s.cameraOff, .done) := by
  simp [State.popView, holds, topView_append_singleton, camera, unpinned]

theorem State.popView_empty_masked {s : State} {d : Display} (empty : s.stack d = [])
    (masked : (s.rw.fault .viewUnderflow).masked = true) :
    s.popView d = (s.raise .viewUnderflow (displayNumber d), .done) := by
  simp [State.popView, empty, topView, State.isMasked, masked]

theorem State.popView_empty_unmasked {s : State} {d : Display} (empty : s.stack d = [])
    (unmasked : (s.rw.fault .viewUnderflow).masked = false) :
    s.popView d = (s.raise .viewUnderflow (displayNumber d), .refused .viewUnderflow) := by
  simp [State.popView, empty, topView, State.isMasked, unmasked]

/-- A CAMERA view that goes from the top leaves the SYSTEM views beneath as they are; the reverse controller goes to OFF and
posts it (R103, R133). -/
theorem State.cameraOff_of_top {s : State} {lower : List View} {top : View} (holds : s.stack .front = lower ++ [top])
    (below : ∀ v ∈ lower, v.owner = .system) (camera : top.owner = .camera) :
    s.cameraOff =
      { s.setStack .front lower with reverse := { s.reverse with state := .off, timer := none } }.post
        (.reverse .off) := by
  rw [State.cameraOff, holds, dropCamera_append_singleton below camera]
  rfl

/-! ### The checks of the two requests (R129, R133) -/

theorem displayField_eq_none {n : Nat} (h : 2 < n) : displayField n = none := by
  match n, h with
  | _ + 3, _ => rfl

/-- The SYSTEM view that a PUSH_VIEW record describes (R129). -/
def pushedView (rec : List Byte) : View :=
  { owner := .system, tag := BitVec.ofNat 8 (byteAt rec 8), video := (byteAt rec 7).testBit 0
    menu := (byteAt rec 7).testBit 1, background := BitVec.ofNat 32 (fieldAt rec 12 4), pinned := false }

theorem checkPushView_eq_some {rec : List Byte} {d : Display} (display : displayField (byteAt rec 6) = some d)
    (layers : byteAt rec 7 ≤ 3) (clear : reservedClear rec [6, 7, 8, 12, 13, 14, 15] = true) :
    checkPushView rec = some (d, pushedView rec) := by
  simp [checkPushView, display, layers, clear, pushedView]

theorem checkPushView_eq_none {rec : List Byte}
    (h : 2 < byteAt rec 6 ∨ 3 < byteAt rec 7 ∨ reservedClear rec [6, 7, 8, 12, 13, 14, 15] = false) :
    checkPushView rec = none := by
  unfold checkPushView
  split
  · rfl
  · next d display =>
    have noDisplay : ¬ 2 < byteAt rec 6 := fun far => by simp [displayField_eq_none far] at display
    rw [if_pos (h.resolve_left noDisplay)]

theorem checkPair_eq_some {rec : List Byte} {named : List Nat} {d : Display}
    (display : displayField (byteAt rec 6) = some d) (clear : reservedClear rec named = true) :
    checkPair rec named = some d := by
  rw [checkPair, if_pos clear, display]

theorem checkPair_eq_none {rec : List Byte} {named : List Nat}
    (h : 2 < byteAt rec 6 ∨ reservedClear rec named = false) : checkPair rec named = none := by
  unfold checkPair
  split
  · next clear => exact displayField_eq_none (h.resolve_right (ne_false_of_eq_true clear))
  · rfl

/-! ### PUSH_VIEW and POP_VIEW -/

theorem exec_pushView {s : State} {rec : List Byte} (h : Arrives s 5 rec) :
    exec .pushView s = .next ((ownPushView rec s).1.ended rec (ownPushView rec s).2) :=
  congrArg Host.Outcome.next (State.takeKind_of_arrives h ownPushView)

/-- A record that passes its checks ends by whether its view landed. -/
theorem exec_pushView_of_checked {s t : State} {rec : List Byte} {d : Display} {v : View} {landed : Bool}
    (h : Arrives s 5 rec) (checked : checkPushView rec = some (d, v)) (pushed : s.pushView d v = (t, landed)) :
    exec .pushView s = .next (t.ended rec (if landed then .done else .refused .viewOverflow)) := by
  rw [exec_pushView h, ownPushView, checked]
  cases landed <;> simp [pushed]

theorem exec_popView {s : State} {rec : List Byte} (h : Arrives s 6 rec) :
    exec .popView s = .next ((ownPopView rec s).1.ended rec (ownPopView rec s).2) :=
  congrArg Host.Outcome.next (State.takeKind_of_arrives h ownPopView)

theorem exec_popView_of_checked {s t : State} {rec : List Byte} {d : Display} {e : Ending} (h : Arrives s 6 rec)
    (checked : checkPair rec [6] = some d) (popped : s.popView d = (t, e)) :
    exec .popView s = .next (t.ended rec e) := by
  simp only [exec_popView h, ownPopView, checked, popped]

/-- Settles O23: a push is split by room and mask and then by what is on top, a pop by what is on top. -/
theorem viewsArePushedAndPopped : Obligations.ViewsArePushedAndPopped := by
  refine ⟨fun s rec arrives => ⟨fun refused => ?_, fun d display layers clear => ?_⟩,
    fun s rec arrives => ⟨fun refused => ?_, fun d display clear => ?_⟩⟩
  · rw [exec_pushView arrives, ownPushView, checkPushView_eq_none refused]
  · intro v raised
    have checked : checkPushView rec = some (d, v) := checkPushView_eq_some display layers clear
    refine ⟨fun room => ?_, fun full unmasked => ?_, fun lower x upper holds full masked below system => ?_⟩
    · have run := exec_pushView_of_checked arrives checked (State.pushView_of_room room v)
      refine ⟨fun lower top holds camera pinned => ?_, fun free => ?_⟩
      · rwa [holds, placeSystem_beneath camera pinned] at run
      · rwa [placeSystem_onTop free] at run
    · exact exec_pushView_of_checked arrives checked (State.pushView_of_full_unmasked full unmasked v)
    · have run := exec_pushView_of_checked arrives checked
        (State.pushView_of_full_masked holds full masked below system v)
      refine ⟨fun under top left camera pinned => ?_, fun free => ?_⟩
      · rwa [left, placeSystem_beneath camera pinned] at run
      · rwa [placeSystem_onTop free] at run
  · rw [exec_popView arrives, ownPopView, checkPair_eq_none refused]
  · intro raised
    have run {t : State} {e : Ending} (popped : s.popView d = (t, e)) : exec .popView s = .next (t.ended rec e) :=
      exec_popView_of_checked arrives (checkPair_eq_some display clear) popped
    refine ⟨fun lower top holds => ⟨fun system => ?_, fun camera pinned => ?_, fun camera unpinned front below => ?_⟩,
      fun empty => ⟨fun masked => ?_, fun unmasked => ?_⟩⟩
    · exact run (State.popView_system holds system)
    · exact run (State.popView_pinned holds camera pinned)
    · subst front
      rw [run (State.popView_unpinned holds camera unpinned), State.cameraOff_of_top holds below camera]
    · exact run (State.popView_empty_masked empty masked)
    · exact run (State.popView_empty_unmasked empty unmasked)

end Sys2Proof.Machine

end

/-! ## Proofs: presentation

The rules of a layer that is set, which reports and the taker do not read; what ending a request changes; what a publish does
to a queue with room and to a full one. Then what PUBLISH checks, and the statement about it. -/

section

namespace Sys2Proof.Machine

/-! ### Setting a layer -/

theorem DisplayState.putLayer_putLayer (x : DisplayState) (l : ScanLayer) (v w : LayerState) :
    (x.putLayer l v).putLayer l w = x.putLayer l w := by
  cases l <;> rfl

theorem DisplayState.layer_putLayer_same {l : ScanLayer} (system : l ≠ .camera) (x : DisplayState) (v : LayerState) :
    (x.putLayer l v).layer l = v := by
  cases l with
  | video => rfl
  | menu => rfl
  | camera => exact absurd rfl system

/-- The two system layers of a display are apart. -/
theorem DisplayState.layer_putLayer_other {l m : ScanLayer} (other : m ≠ l) (hm : m ≠ .camera) (hl : l ≠ .camera)
    (x : DisplayState) (v : LayerState) : (x.putLayer l v).layer m = x.layer m := by
  cases l with
  | camera => exact absurd rfl hl
  | video =>
    cases m with
    | video => exact absurd rfl other
    | menu => rfl
    | camera => rfl
  | menu =>
    cases m with
    | video => rfl
    | menu => exact absurd rfl other
    | camera => exact absurd rfl hm

theorem PerDisplay.put_put {α : Type} (p : PerDisplay α) (d : Display) (v w : α) : (p.put d v).put d w = p.put d w := by
  cases d <;> rfl

/-- The state with another region table and one layer set: all that a publish changes besides the report writer. -/
def State.withLayer (s : State) (table : List Region) (d : Display) (l : ScanLayer) (v : LayerState) : State :=
  ({ s with regions := table } : State).setLayer d l v

/-- Of two settings of one layer the later one stands. -/
theorem State.withLayer_withLayer (s : State) (table table' : List Region) (d : Display) (l : ScanLayer)
    (v w : LayerState) : (s.withLayer table d l v).withLayer table' d l w = s.withLayer table' d l w := by
  simp only [State.withLayer, State.setLayer, State.updateDisplay, PerDisplay.get_put_same, PerDisplay.put_put,
    DisplayState.putLayer_putLayer]

theorem State.layer_withLayer_same {l : ScanLayer} (system : l ≠ .camera) (s : State) (table : List Region) (d : Display)
    (v : LayerState) : (s.withLayer table d l v).layer d l = v := by
  rw [State.layer, State.withLayer, State.setLayer, State.updateDisplay_get, if_pos rfl,
    DisplayState.layer_putLayer_same system]

theorem State.layer_withLayer_other {d e : Display} {l m : ScanLayer} (other : (e, m) ≠ (d, l)) (hm : m ≠ .camera)
    (hl : l ≠ .camera) (s : State) (table : List Region) (v : LayerState) :
    (s.withLayer table d l v).layer e m = s.layer e m := by
  rw [State.layer, State.withLayer, State.setLayer, State.updateDisplay_get]
  split
  · next same =>
    subst same
    exact DisplayState.layer_putLayer_other (fun sameLayer => other (by rw [sameLayer])) hm hl _ v
  · rfl

theorem State.withLayer_within (s : State) (table : List Region) (d : Display) (l : ScanLayer) (v : LayerState) :
    Within [.regions, .displays] s (s.withLayer table d l v) :=
  ((within_regions s table).mono (by decide)).trans ((within_displays _ _).mono (by decide))

/-! ### Reports and the taker do not depend on the region table or a layer -/

section
variable (s : State) (table : List Region) (d : Display) (l : ScanLayer) (v : LayerState)

theorem State.withLayer_roles : (s.withLayer table d l v).roles = s.roles := rfl
theorem State.withLayer_taker : (s.withLayer table d l v).taker = s.taker := rfl

theorem State.placeReport_withLayer (r : Report) :
    (s.withLayer table d l v).placeReport r = (s.placeReport r).withLayer table d l v := by
  simp only [State.placeReport, State.withLayer_roles]
  split <;> rfl

theorem State.post_withLayer (r : Report) :
    (s.withLayer table d l v).post r = (s.post r).withLayer table d l v := by
  simp only [State.post, State.placeReport_withLayer, apply_ite (State.withLayer · table d l v)]
  rfl

theorem State.endRequest_withLayer (rec : List Byte) (e : Ending) :
    (s.withLayer table d l v).endRequest rec e = (s.endRequest rec e).withLayer table d l v := by
  cases e with
  | refused code => exact s.post_withLayer table d l v _
  | done => simp only [State.endRequest, State.post_withLayer, apply_ite (State.withLayer · table d l v)]
  | doneWithId ident => exact s.post_withLayer table d l v _
  | queued => rfl

theorem State.statusNow_withLayer (offset : Nat) (bytes : List Byte) :
    (s.withLayer table d l v).statusNow offset bytes = (s.statusNow offset bytes).withLayer table d l v := by
  simp only [State.statusNow, State.withLayer_roles]
  split <;> rfl

theorem State.startFetch_withLayer : (s.withLayer table d l v).startFetch = s.startFetch.withLayer table d l v := by
  simp only [State.startFetch, State.withLayer_roles, State.withLayer_taker]
  split
  · rfl
  · rw [apply_ite (State.withLayer · table d l v)]
    rfl

theorem State.advanceTaker_withLayer :
    (s.withLayer table d l v).advanceTaker = s.advanceTaker.withLayer table d l v := by
  unfold State.advanceTaker
  rw [← State.startFetch_withLayer, ← State.statusNow_withLayer]
  rfl

/-- Ending a request neither reads nor changes the region table and the layers. -/
theorem State.ended_withLayer (rec : List Byte) (e : Ending) :
    (s.withLayer table d l v).ended rec e = (s.ended rec e).withLayer table d l v := by
  rw [State.ended, State.endRequest_withLayer, State.advanceTaker_withLayer, State.ended]

end

/-! ### What ending a request changes -/

theorem State.ended_within (s : State) (rec : List Byte) (e : Ending) :
    Within [.taker, .link, .rw] s (s.ended rec e) :=
  ((s.endRequest_within rec e).mono (by decide)).trans (State.advanceTaker_within _)

/-- A fetch that starts is one more access in the link path, and the indices stay (R20). -/
theorem State.startFetch_enters (s : State) :
    s.startFetch.taker.consumer = s.taker.consumer ∧ s.startFetch.taker.producer = s.taker.producer ∧
      (s.startFetch.link = s.link ∨
        ∃ a, s.startFetch.link = { s.link with path := s.link.path ++ [.record a true] }) := by
  unfold State.startFetch
  split
  · exact ⟨rfl, rfl, .inl rfl⟩
  · split
    · exact ⟨rfl, rfl, .inr ⟨_, rfl⟩⟩
    · exact ⟨rfl, rfl, .inl rfl⟩

theorem State.advanceTaker_tookRecord (s : State) : TookRecord s s.advanceTaker := by
  unfold State.advanceTaker
  extract_lets next
  have entered := State.startFetch_enters
    ({ s with taker.consumer := next, taker.fetch := .idle }.statusNow 0x024 (bytesOf 4 next))
  rw [State.statusNow_taker, State.statusNow_link] at entered
  exact entered

/-- A report or none, and then the taker moves on (R21, R22). -/
theorem State.ended_tookRecord {s t : State} (rec : List Byte) (e : Ending) (sameTaker : t.taker = s.taker)
    (sameLink : t.link = s.link) : TookRecord s (t.ended rec e) := by
  have posted := t.endRequest_within rec e
  have taker : (t.endRequest rec e).taker = s.taker := (posted .taker (by decide)).trans sameTaker
  have link : (t.endRequest rec e).link = s.link := (posted .link (by decide)).trans sameLink
  have took := (t.endRequest rec e).advanceTaker_tookRecord
  rwa [TookRecord, taker, link] at took

/-! ### The queue of a layer (R149, R150, R153) -/

theorem State.publish_of_room {s : State} {d : Display} {l : ScanLayer} (room : (s.layer d l).queue.length < 4)
    (e : QueueEntry) : s.publish d l e = (s.enqueue d l e, none) := if_pos room

theorem State.publish_of_full_unmasked {s : State} {d : Display} {l : ScanLayer}
    (full : 4 ≤ (s.layer d l).queue.length) (unmasked : (s.rw.fault .queueFull).masked = false) (e : QueueEntry) :
    s.publish d l e = (s.raise .queueFull (displayLayerDetail d l), some .queueFull) := by
  rw [State.publish, if_neg (by omega)]
  simp only [State.isMasked, unmasked, Bool.false_eq_true, if_false]

theorem State.raise_layer (s : State) (k : FaultKind) (n : Nat) (d : Display) (l : ScanLayer) :
    (s.raise k n).layer d l = s.layer d l := by
  rw [State.layer, State.raise_displays, State.layer]

/-- A release with shown count 0 takes the hold back, counts the frame as dropped and posts RELEASED (R153). -/
theorem State.release_dropped (s : State) (d : Display) (l : ScanLayer) (e : QueueEntry) :
    s.release d l e 0 =
      (s.post (.released d l e 0)).withLayer (holdDown s.regions e.region) d l
        { s.layer d l with dropped := (s.layer d l).dropped + 1 } := by
  rw [← State.post_withLayer]
  rfl

/-- The oldest pending entry gives up its place and is released with shown count 0 (R150). -/
theorem State.dropHead_of_cons {s : State} {d : Display} {l : ScanLayer} {head : QueueEntry} {rest : List QueueEntry}
    (system : l ≠ .camera) (holds : (s.layer d l).queue = head :: rest) :
    s.dropHead d l =
      (s.post (.released d l head 0)).withLayer (holdDown s.regions head.region) d l
        { s.layer d l with queue := rest, dropped := (s.layer d l).dropped + 1 } := by
  have unlinked (v : LayerState) : s.setLayer d l v = s.withLayer s.regions d l v := rfl
  simp only [State.dropHead, holds, unlinked]
  rw [State.release_dropped, State.post_withLayer, State.withLayer_withLayer, State.layer_withLayer_same system]
  rfl

/-- A new entry changes the region table and its own layer alone (R149). -/
theorem State.enqueue_eq_withLayer (s : State) (d : Display) (l : ScanLayer) (e : QueueEntry) :
    s.enqueue d l e =
      s.withLayer (holdUp s.regions e.region) d l { s.layer d l with queue := (s.layer d l).queue ++ [e] } := rfl

/-- On a full queue under a set mask the oldest pending entry is released and the new one joins the tail (R150). -/
theorem State.publish_of_full_masked {s : State} {d : Display} {l : ScanLayer} {head : QueueEntry}
    {rest : List QueueEntry} (system : l ≠ .camera) (holds : (s.layer d l).queue = head :: rest)
    (full : 3 ≤ rest.length) (masked : (s.rw.fault .queueFull).masked = true) (e : QueueEntry) :
    s.publish d l e =
      (((s.raise .queueFull (displayLayerDetail d l)).post (.released d l head 0)).withLayer
        (holdUp (holdDown s.regions head.region) e.region) d l
        { s.layer d l with queue := rest ++ [e], dropped := (s.layer d l).dropped + 1 }, none) := by
  have isFull : ¬ (s.layer d l).queue.length < 4 := by rw [holds, List.length_cons]; omega
  have dropped := State.dropHead_of_cons (s := s.raise .queueFull (displayLayerDetail d l)) system
    ((congrArg LayerState.queue (s.raise_layer _ _ d l)).trans holds)
  rw [State.raise_layer, State.raise_regions] at dropped
  simp only [State.publish, if_neg isFull, State.isMasked, masked, if_true, dropped, State.enqueue_eq_withLayer,
    State.withLayer_withLayer, State.layer_withLayer_same system]
  rfl

/-! ### The checks of PUBLISH (R148) -/

theorem layerField_eq_none {n : Nat} (h : 1 < n) : layerField n = none := by
  match n, h with
  | _ + 2, _ => rfl

/-- A layer field names a system layer. -/
theorem layerField_ne_camera {n : Nat} {l : ScanLayer} (h : layerField n = some l) : l ≠ .camera := by
  unfold layerField at h
  split at h <;> cases h <;> decide

theorem findRegion_ident {t : List Region} {n : Nat} {r : Region} (h : findRegion t n = some r) : r.ident = n := by
  simpa using List.find?_some h

theorem checkPublish_badField {s : State} {rec : List Byte}
    (h : 2 < byteAt rec 6 ∨ 1 < byteAt rec 7 ∨ fieldAt rec 12 4 % 4 ≠ 0 ∨
      reservedClear rec [6, 7, 8, 12, 13, 14, 15, 16, 17, 18, 19] = false) :
    checkPublish s rec = .error .badField := by
  unfold checkPublish
  extract_lets offset
  split
  · next d l display layer passed =>
    rw [Bool.and_eq_true, beq_iff_eq] at passed
    obtain far | far | unaligned | reserved := h
    · rw [displayField_eq_none far] at display
      cases display
    · rw [layerField_eq_none far] at layer
      cases layer
    · exact absurd passed.2 unaligned
    · exact absurd passed.1 (ne_true_of_eq_false reserved)
  · rfl

/-- Only a system layer passes the checks. -/
theorem checkPublish_ne_camera {s : State} {rec : List Byte} {d : Display} {l : ScanLayer} {e : QueueEntry}
    (h : checkPublish s rec = .ok (d, l, e)) : l ≠ .camera := by
  unfold checkPublish at h
  extract_lets offset at h
  split at h
  · next d' m display layer passed =>
    iterate 5
      split at h
      · cases h
    cases h
    exact layerField_ne_camera layer
  · cases h

/-- The record names a display and a layer, its offset is a multiple of 4 and its reserved bytes are 0 (R148). -/
structure PublishNames (rec : List Byte) (d : Display) (l : ScanLayer) : Prop where
  display : displayField (byteAt rec 6) = some d
  layer : layerField (byteAt rec 7) = some l
  aligned : fieldAt rec 12 4 % 4 = 0
  clear : reservedClear rec [6, 7, 8, 12, 13, 14, 15, 16, 17, 18, 19] = true

/-- The entry that a PUBLISH record describes (R149). -/
def publishedEntry (rec : List Byte) : QueueEntry :=
  { region := byteAt rec 8, offset := fieldAt rec 12 4, time := BitVec.ofNat 32 (fieldAt rec 16 4) }

section
variable {s : State} {rec : List Byte} {d : Display} {l : ScanLayer} {r : Region}

theorem PublishNames.layerOff (h : PublishNames rec d l) (off : (s.layer d l).applied.enable = false) :
    checkPublish s rec = .error .layerOff := by
  simp [checkPublish, h.display, h.layer, h.aligned, h.clear, off]

theorem PublishNames.noRegion (h : PublishNames rec d l) (on : (s.layer d l).applied.enable = true)
    (noFrame : ∀ r ∈ s.regions, r.ident = byteAt rec 8 → r.kind ≠ .frame) :
    checkPublish s rec = .error .noRegion := by
  cases found : findRegion s.regions (byteAt rec 8) with
  | none => simp [checkPublish, h.display, h.layer, h.aligned, h.clear, on, found]
  | some r =>
    have other : r.kind ≠ .frame := noFrame r (List.mem_of_find?_eq_some found) (findRegion_ident found)
    simp [checkPublish, h.display, h.layer, h.aligned, h.clear, on, found, other]

/-- With the layer on and a FRAME region named, what is left to check is the size and the hold count. -/
theorem PublishNames.checked (h : PublishNames rec d l) (on : (s.layer d l).applied.enable = true)
    (found : findRegion s.regions (byteAt rec 8) = some r) (frame : r.kind = .frame) :
    checkPublish s rec =
      if r.size < fieldAt rec 12 4 + (s.layer d l).applied.frameSize then .error .regionTooSmall
      else if 15 ≤ r.hold then .error .regionBusy
      else .ok (d, l, publishedEntry rec) := by
  simp [checkPublish, h.display, h.layer, h.aligned, h.clear, on, found, frame, findRegion_ident found, publishedEntry]

end

/-! ### PUBLISH (R148 to R150) -/

theorem exec_publish_of_error {s : State} {rec : List Byte} {code : Code} (h : Arrives s 1 rec)
    (checked : checkPublish s rec = .error code) : exec .publish s = .next (s.ended rec (.refused code)) := by
  refine (congrArg Host.Outcome.next (State.takeKind_of_arrives h ownPublish)).trans ?_
  rw [ownPublish, checked]

/-- A record that passes its checks ends by the queue's answer. -/
theorem exec_publish_of_ok {s t : State} {rec : List Byte} {d : Display} {l : ScanLayer} {e : QueueEntry}
    {answer : Option Code} (h : Arrives s 1 rec) (checked : checkPublish s rec = .ok (d, l, e))
    (published : s.publish d l e = (t, answer)) :
    exec .publish s = .next (t.ended rec (answer.elim .done .refused)) := by
  refine (congrArg Host.Outcome.next (State.takeKind_of_arrives h ownPublish)).trans ?_
  cases answer <;> simp only [ownPublish, checked, published, Option.elim]

/-- Settles O21: the checks are gone through in their order; a publish on a full queue under a set mask is a fault, a report
and a change of one layer and two hold counts, which ending the request does not read. -/
theorem publishIsCheckedAndQueued : Obligations.PublishIsCheckedAndQueued := by
  refine ⟨fun s rec arrives => ⟨fun refused => ?_, fun d l display layer aligned clear => ?_⟩,
    fun s rec d l e head rest arrives checked holds full => ⟨fun masked => ?_, fun unmasked => ?_⟩⟩
  · exact exec_publish_of_error arrives (checkPublish_badField refused)
  · have names : PublishNames rec d l := ⟨display, layer, aligned, clear⟩
    intro v size
    refine ⟨fun off => exec_publish_of_error arrives (names.layerOff off),
      fun on noFrame => exec_publish_of_error arrives (names.noRegion on noFrame), fun r on found frame => ?_⟩
    have checked := names.checked on found frame
    refine ⟨fun small => ?_, fun fits busy => ?_, fun fits free room => ?_⟩
    · exact exec_publish_of_error arrives (checked.trans (if_pos small))
    · exact exec_publish_of_error arrives ((checked.trans (if_neg (Nat.not_lt.mpr fits))).trans (if_pos busy))
    · exact exec_publish_of_ok arrives
        ((checked.trans (if_neg (Nat.not_lt.mpr fits))).trans (if_neg (Nat.not_le.mpr free)))
        (State.publish_of_room room _)
  · have system := checkPublish_ne_camera checked
    have run := exec_publish_of_ok arrives checked (State.publish_of_full_masked system holds full masked e)
    rw [Option.elim_none, State.ended_withLayer] at run
    have told : Within [.taker, .link, .rw] s
        (((s.raise .queueFull (displayLayerDetail d l)).post (.released d l head 0)).ended rec .done) :=
      (((s.raise_within _ _).trans (State.post_within _ _)).mono (by decide)).trans (State.ended_within _ _ _)
    refine ⟨_, run, rfl, State.layer_withLayer_same system _ _ _ _, fun d' l' other hl' _ => ?_, rfl, ?_, ?_⟩
    · rw [State.layer_withLayer_other other hl' system, State.layer, told .displays (by decide), State.layer]
    · exact State.ended_tookRecord rec .done (by simp) (by simp)
    · exact (told.mono (by decide)).trans ((State.withLayer_within _ _ _ _ _).mono (by decide))
  · have fullQueue : 4 ≤ (s.layer d l).queue.length := by rw [holds, List.length_cons]; omega
    exact exec_publish_of_ok arrives checked (State.publish_of_full_unmasked fullQueue unmasked e)

end Sys2Proof.Machine

end

/-! ## Proofs: one step, reset, and the settling of chimes -/

section

namespace Sys2Proof.Machine

/-! ### Every step is one command (00, Conventions) -/

/-- Settles O1. -/
theorem stepRunsFrontCommand : Obligations.StepRunsFrontCommand := by
  unfold Obligations.StepRunsFrontCommand
  constructor
  · intro c rest s pending
    rw [step, pending]
  · intro s empty
    simp only [step, empty, State.tick]

/-! ### Reset -/

theorem State.stacksLegal_reset : State.reset.StacksLegal := by
  refine ⟨fun d => ?_, by decide, fun d _ => ?_⟩ <;> cases d <;> decide

theorem State.pictureSafe_reset : State.reset.PictureSafe :=
  ⟨fun _ writing => (nomatch writing), by decide⟩

theorem State.bounded_reset : State.reset.Bounded where
  requestRing := by decide
  reportRing := by decide
  lost := by decide
  counters k := by cases k <;> decide
  responses := by decide
  window := by decide
  storeGap := by decide
  positions := by decide
  storeQueue := by decide
  queues d l := by cases d <;> cases l <;> decide

theorem State.holdsMatch_reset : State.reset.HoldsMatch where
  distinct := by decide
  counts _ h := nomatch h
  present _ h := nomatch h
  loading _ := by decide

theorem State.chimesSettled_reset : State.reset.ChimesSettled where
  queues d := by cases d <;> decide
  players d _ := by cases d <;> rfl
  served _ := rfl
  distinct := by decide
  waiting _ h := nomatch h

theorem State.lockSafe_reset : State.reset.LockSafe where
  copy := rfl
  ordered := rfl
  idle _ := ⟨rfl, rfl, rfl⟩
  running _ _ h := nomatch h

/-- Settles O56, block by block: the reset state has no view, no frame, no chime and nothing in its store's queue. -/
theorem invariantsHoldAtReset : Obligations.InvariantsHoldAtReset :=
  ⟨⟨rfl, rfl⟩, State.stacksLegal_reset, State.pictureSafe_reset, State.bounded_reset, State.holdsMatch_reset,
    State.chimesSettled_reset, State.lockSafe_reset⟩

/-! ### The staging buffer whose user's player is IDLE (R173, R179) -/

/-- The staging buffer names FRONT as its user while the FRONT player is IDLE, which `ChimesSettled` does not exclude, and a
PLAY_CHIME of a clip that is not resident has arrived for FRONT. -/
def State.idleBufferUser : State :=
  { State.reset with
    pending := [.playChime]
    startup := { Startup.reset with state := .normal }
    taker := { consumer := 0, producer := 0, fetch := .arrived (14 :: List.replicate 31 0) }
    audio :=
      { Audio.reset with
        clips := [{ offset := 0x20000, length := 2, wanted := false, resident := false, gain := 64 }]
        buffer := { StagingBuffer.reset with user := some .front } } }

theorem State.chimesSettled_idleBufferUser : State.idleBufferUser.ChimesSettled where
  queues d := by cases d <;> decide
  players d _ := by cases d <;> rfl
  served _ := rfl
  distinct := by decide
  waiting _ h := nomatch h

/-- The chime enters the FRONT player, finds the buffer in use, and joins the wait list beside its own pair as the user. -/
theorem State.step_idleBufferUser : ∃ t, step State.idleBufferUser = .next t ∧
    t.audio.buffer.user = some .front ∧ t.audio.buffer.waiters = [.front] :=
  ⟨_, rfl, rfl, rfl⟩

/-- Refutes O59: in `State.idleBufferUser` the buffer's user is FRONT with an IDLE player, and after PLAY_CHIME the FRONT chime
waits for the buffer that its own pair is the user of. -/
theorem not_stepKeepsChimesSettled : ¬ Obligations.StepKeepsChimesSettled := by
  unfold Obligations.StepKeepsChimesSettled
  intro h
  obtain ⟨t, stepped, user, waiters⟩ := State.step_idleBufferUser
  have settled := h _ t State.chimesSettled_idleBufferUser stepped
  exact (settled.waiting .front (by rw [waiters]; exact List.mem_singleton.2 rfl)).1 user

end Sys2Proof.Machine

end

/-! ## Proofs: what each command may change

For each command the parts of the state that it can change, assembled from the footprints of the operations it calls, and
which commands complete. -/

section

namespace Sys2Proof.Machine

/-! ### Outcomes within parts of the state -/

/-- Where the outcome is a next state, it differs from `s` in the parts listed alone. -/
def NextWithin (ps : List Part) (s : State) (o : Host.Outcome State Fault Refusal) : Prop :=
  ∀ t, o = .next t → Within ps s t

theorem NextWithin.next {ps : List Part} {s t : State} (h : Within ps s t) : NextWithin ps s (.next t) := by
  intro u hu
  cases hu
  exact h

theorem NextWithin.same (ps : List Part) (s : State) : NextWithin ps s (.next s) := .next (.refl ps s)

theorem NextWithin.fault (ps : List Part) (s : State) (r : Fault) : NextWithin ps s (.fault r) := fun _ h => nomatch h

theorem within_startup (s : State) (v : Startup) : Within [.startup] s { s with startup := v } := fun p hp => by
  cases p <;> first | rfl | simp at hp
theorem within_roles (s : State) (v : Option Roles) : Within [.roles] s { s with roles := v } := fun p hp => by
  cases p <;> first | rfl | simp at hp
theorem within_dram (s : State) (v : Mem) : Within [.dram] s { s with dram := v } := fun p hp => by
  cases p <;> first | rfl | simp at hp
theorem within_arb (s : State) (v : Arbiter) : Within [.arb] s { s with arb := v } := fun p hp => by
  cases p <;> first | rfl | simp at hp

/-! ### Resets and the load -/

theorem State.afterReset_within (s : State) : Within (footprint .powerOnReset) s s.afterReset := fun p hp => by
  cases p <;> first | rfl | simp [footprint] at hp

theorem State.enterRunning_within (s : State) (st : StartupState) :
    Within [.startup, .regions, .roles, .guide] s (s.enterRunning st) := by
  unfold State.enterRunning
  extract_lets startup s1
  have entered : Within [.startup, .regions, .roles, .guide] s s1 := (within_startup s _).mono (by decide)
  split
  · refine entered.trans (Within.trans ((within_regions s1 serviceRegions).mono (by decide)) ?_)
    exact (within_roles _ _).mono (by decide)
  · exact entered.trans ((within_guide s1 _).mono (by decide))
  · exact entered
  · exact entered

theorem State.startReverse_within (s : State) :
    Within [.displays, .reverse, .park, .audio, .store, .rw] s s.startReverse := by
  unfold State.startReverse
  split
  · exact .refl _ s
  · exact ((within_reverse s _).mono (by decide)).trans (State.evaluateReverse_within _)

theorem State.startDisplays_within (s : State) :
    Within [.displays, .regions, .rw, .camera, .compositor, .guide] s s.startDisplays := by
  unfold State.startDisplays
  extract_lets s1
  have closed : Within [.displays, .regions, .rw, .camera, .compositor, .guide] s s1 :=
    (within_displays s _).mono (by decide)
  have told : Within [.displays, .regions, .rw, .camera, .compositor, .guide] s1 s1.writeIdentity :=
    (Within.of_rwOnly s1.writeIdentity_eq).mono (by decide)
  exact (((closed.trans told).trans (State.boundary_within _ _ _)).trans (State.boundary_within _ _ _)).trans
    (State.boundary_within _ _ _)

theorem State.closeLoad_within (s : State) (st : StartupState) :
    Within (footprint .loadStepComplete) s (s.closeLoad st) := by
  unfold State.closeLoad
  extract_lets entered engine s1 s2
  have started : Within (footprint .loadStepComplete) s s1 :=
    (((s.enterRunning_within st).mono (by decide)).trans ((within_audio _ _).mono (by decide))).trans
      ((State.startReverse_within _).mono (by decide))
  have shown : Within (footprint .loadStepComplete) s1 s2 :=
    ((within_store s1 _).mono (by decide)).trans ((State.startDisplays_within _).mono (by decide))
  exact (started.trans shown).trans ((within_store s2 _).mono (by decide))

theorem State.loadProtection_within (s : State) : Within (footprint .loadStepComplete) s s.loadProtection := by
  unfold State.loadProtection
  extract_lets store startup s1
  have copied : Within (footprint .loadStepComplete) s s1 :=
    ((within_store s { s.store with table := s.store.marks, lockCopy := s.store.lockMark }).mono (by decide)).trans
      ((within_startup _ { s.startup with step := 2 }).mono (by decide))
  refine copied.trans (Within.foldl (fun t b => ?_) _ s1)
  split
  · exact (t.raise_within _ _).mono (by decide)
  · exact .refl _ t

theorem State.loadLayout_within (s : State) : Within (footprint .loadStepComplete) s s.loadLayout := by
  unfold State.loadLayout
  split
  · exact s.closeLoad_within _
  · intro p hp
    cases p <;> first | rfl | simp [footprint] at hp

theorem State.loadCalibration_within (s : State) : Within (footprint .loadStepComplete) s s.loadCalibration := by
  unfold State.loadCalibration
  split <;> intro p hp <;> cases p <;> first | rfl | simp [footprint] at hp

theorem State.loadClips_within (s : State) : Within (footprint .loadStepComplete) s s.loadClips := fun p hp => by
  cases p <;> first | rfl | simp [footprint] at hp

theorem State.loadFallback_within (s : State) : Within [.compositor] s s.loadFallback := by
  unfold State.loadFallback
  extract_lets offset palette
  split
  · exact within_compositor s _
  · exact within_compositor s _

theorem execLoadStepComplete_within (s : State) :
    NextWithin (footprint .loadStepComplete) s (execLoadStepComplete s) := by
  unfold execLoadStepComplete
  split; · exact .same _ s
  split; · exact .next s.loadProtection_within
  split; · exact .next s.loadLayout_within
  split; · exact .next s.loadCalibration_within
  split; · exact .next s.loadClips_within
  exact .next ((s.loadFallback_within.mono (by decide)).trans (State.closeLoad_within _ _))

/-! ### The link -/

theorem execLinkTraining_within (s : State) : NextWithin [.link] s (execLinkTraining s) := by
  unfold execLinkTraining
  split
  · exact .same _ s
  · exact .next (within_link s _)

theorem State.tellReverse_within (s : State) (r : ReverseState) : Within [.rw] s (s.tellReverse r) := by
  unfold State.tellReverse
  split
  · exact s.post_within _
  · exact .refl _ s

theorem execLossOfLink_within (s : State) : NextWithin (footprint .lossOfLink) s (execLossOfLink s) := by
  unfold execLossOfLink
  split
  · exact .next (((within_link s _).mono (by decide)).trans (((State.systemRestart_within _).mono (by decide)).trans
      ((State.tellReverse_within _ _).mono (by decide))))
  · exact .same _ s

/-- Reading hands no watched word, so it enters the response list and the link path alone. -/
theorem State.receive_read_within (s : State) (a : BitVec 32) (n : Nat) :
    Within [.link, .rw] s (s.receive (.read a n)) := by
  unfold State.receive
  split; · exact .refl _ s
  split; · exact (within_link s _).mono (by decide)
  exact s.takeRead_within a n

theorem execLinkRead_within (a : BitVec 32) (n : Nat) (s : State) : NextWithin [.link, .rw] s (execLinkRead a n s) := by
  unfold execLinkRead
  split
  · exact .next (s.receive_read_within a n)
  · exact .fault _ s _

theorem execLinkWrite_within (a : BitVec 32) (ls : List (Option Byte)) (s : State) :
    NextWithin [.taker, .link, .rw, .audio] s (execLinkWrite a ls s) := by
  unfold execLinkWrite
  split
  · exact .next (s.receive_within _)
  · exact .fault _ s _

/-! ### Grants -/

theorem State.grantScan_within (s : State) (d : Display) : Within [.displays] s (s.grantScan d) := by
  unfold State.grantScan
  split
  · exact .refl _ s
  · exact within_displays s _

theorem State.grantCamera_within (s : State) : Within [.camera, .dram] s s.grantCamera := by
  unfold State.grantCamera
  split
  · exact .refl _ s
  · exact ((within_camera s _).mono (by decide)).trans ((within_dram _ _).mono (by decide))

theorem State.grantReport_within (s : State) : Within [.rw, .dram] s s.grantReport := by
  unfold State.grantReport
  split
  · exact .refl _ s
  · exact ((within_rw s _).mono (by decide)).trans ((within_dram _ _).mono (by decide))

theorem State.grantAudio_within (s : State) : Within [.audio] s s.grantAudio := by
  unfold State.grantAudio
  split
  · exact .refl _ s
  · extract_lets frames
    exact ((within_audio s _).trans (within_audio _ _)).trans (State.refill_within _ _)

theorem State.grantLink_within (s : State) : Within [.link, .dram, .taker, .audio, .rw] s s.grantLink := by
  unfold State.grantLink
  split
  · exact .refl _ s
  · extract_lets link s1 answered
    have taken : Within [.link, .dram, .taker, .audio, .rw] s s1 := (within_link s _).mono (by decide)
    split
    · exact taken.trans ((within_link s1 _).mono (by decide))
    · exact taken
  · rename_i addr lanes media rest _
    exact (((within_link s { s.link with path := rest }).mono (by decide)).trans
      ((within_dram _ (s.dram.writeLanes addr lanes)).mono (by decide))).trans
      (Within.foldl (fun (t : State) (m : Display × BitVec 32) => (t.applyProducer_within m.1 m.2).mono (by decide)) _ _)
  · rename_i addr live rest _
    split
    · exact ((within_link s { s.link with path := rest }).mono (by decide)).trans ((within_taker _ _).mono (by decide))
    · exact (within_link s _).mono (by decide)

theorem State.grantStore_within (s : State) : Within [.store, .dram] s s.grantStore := by
  unfold State.grantStore
  split
  · exact .refl _ s
  · rename_i addr bytes rest _
    exact ((within_store s { s.store with transfers := rest }).mono (by decide)).trans ((within_dram _ _).mono (by decide))
  · exact (within_store s _).mono (by decide)

theorem State.grantTo_within (s : State) (c : Client) : Within (footprint .dramGrant) s (s.grantTo c) := by
  cases c with
  | frontScan => exact (s.grantScan_within _).mono (by decide)
  | camera => exact s.grantCamera_within.mono (by decide)
  | rearLeftScan => exact (s.grantScan_within _).mono (by decide)
  | rearRightScan => exact (s.grantScan_within _).mono (by decide)
  | audio => exact s.grantAudio_within.mono (by decide)
  | report => exact s.grantReport_within.mono (by decide)
  | link => exact s.grantLink_within.mono (by decide)
  | store => exact s.grantStore_within.mono (by decide)

theorem execDramGrant_within (s : State) : NextWithin (footprint .dramGrant) s (execDramGrant s) := by
  unfold execDramGrant
  split
  · exact .same _ s
  · exact .next ((((within_arb s _).mono (by decide)).trans (State.grantTo_within _ _)).trans
      ((State.drain_within _).mono (by decide)))

/-! ### Requests -/

/-- Where the parts hold the taker, the link and the report writer, taking a record stays within them as its owner does. -/
theorem State.takeKind_within {own : List Part} (s : State) (kind : Nat) {owner : OwnerAct}
    (h : ∀ rec, Within (requestParts own) s (owner rec s).1) : NextWithin (requestParts own) s (.next (s.takeKind kind owner)) := by
  refine .next ?_
  unfold State.takeKind
  split
  · exact .refl _ s
  · exact s.takeRecord_within _ owner (h _) (by simp [requestParts]) (by simp [requestParts]) (by simp [requestParts])

theorem execUnknownRequestKind_within (s : State) : NextWithin (requestParts []) s (execUnknownRequestKind s) := by
  unfold execUnknownRequestKind
  split
  · split
    · exact .next (s.takeRecord_within _ _ (.refl _ s) (by decide) (by decide) (by decide))
    · exact .same _ s
  · exact .same _ s
  · exact .same _ s

theorem ownPublish_within (rec : List Byte) (s : State) : Within [.regions, .displays, .rw] s (ownPublish rec s).1 := by
  unfold ownPublish
  split
  · exact .refl _ s
  · have placed := s.publish_within
    rename_i d l e _
    specialize placed d l e
    split <;> rename_i published <;> rw [published] at placed <;> exact placed

theorem ownSetLayer_within (rec : List Byte) (s : State) : Within [.displays] s (ownSetLayer rec s).1 := by
  unfold ownSetLayer
  split
  · exact .refl _ s
  · exact within_displays s _

theorem ownHold_within (held : Bool) (rec : List Byte) (s : State) : Within [.displays] s (ownHold held rec s).1 := by
  unfold ownHold
  split
  · exact .refl _ s
  · exact within_displays s _

theorem State.pushView_within (s : State) (d : Display) (v : View) : Within [.displays, .rw] s (s.pushView d v).1 := by
  unfold State.pushView
  split
  · extract_lets s1
    have raised : Within [.displays, .rw] s s1 := (s.raise_within _ _).mono (by decide)
    split
    · exact raised.trans ((within_displays s1 _).mono (by decide))
    · exact raised
  · exact (within_displays s _).mono (by decide)

theorem ownPushView_within (rec : List Byte) (s : State) : Within [.displays, .rw] s (ownPushView rec s).1 := by
  unfold ownPushView
  split
  · exact .refl _ s
  · rename_i d v _
    have pushed := s.pushView_within d v
    split <;> rename_i landed <;> rw [landed] at pushed <;> exact pushed

theorem ownPopView_within (rec : List Byte) (s : State) : Within [.displays, .reverse, .rw] s (ownPopView rec s).1 := by
  unfold ownPopView
  split
  · exact .refl _ s
  · unfold State.popView
    split
    · extract_lets s1
      have raised : Within [.displays, .reverse, .rw] s s1 := (s.raise_within _ _).mono (by decide)
      split <;> exact raised
    · split
      · exact (within_displays s _).mono (by decide)
      · exact .refl _ s
      · exact s.cameraOff_within

theorem ownShowCamera_within (rec : List Byte) (s : State) :
    Within [.displays, .reverse, .rw] s (ownShowCamera rec s).1 := by
  unfold ownShowCamera
  split
  · exact .refl _ s
  · split
    · have pushed := s.pushView_within .front (cameraViewOf (BitVec.ofNat 8 (byteAt rec 8)) false)
      split <;> rename_i landed <;> rw [landed] at pushed
      · exact (pushed.mono (by decide)).trans ((State.toReverse_within _ _).mono (by decide))
      · exact pushed.mono (by decide)
    · exact .refl _ s
    · exact .refl _ s
    · exact .refl _ s

theorem ownCloseCamera_within (rec : List Byte) (s : State) :
    Within [.displays, .reverse, .rw] s (ownCloseCamera rec s).1 := by
  unfold ownCloseCamera
  split
  · exact .refl _ s
  · split
    · exact s.cameraOff_within
    · exact .refl _ s
    · exact .refl _ s
    · exact .refl _ s

theorem ownDefineRegion_within (rec : List Byte) (s : State) : Within [.regions] s (ownDefineRegion rec s).1 := by
  unfold ownDefineRegion
  split
  · exact .refl _ s
  · exact within_regions s _

theorem ownDeleteRegion_within (rec : List Byte) (s : State) : Within [.regions] s (ownDeleteRegion rec s).1 := by
  unfold ownDeleteRegion
  split; · exact .refl _ s
  split; · exact .refl _ s
  split; · exact .refl _ s
  split; · exact .refl _ s
  exact within_regions s _

theorem ownAudioStart_within (rec : List Byte) (s : State) :
    Within [.audio, .regions, .rw] s (ownAudioStart rec s).1 := by
  unfold ownAudioStart
  split
  · exact .refl _ s
  · exact s.startStream_within _ _ _

theorem ownAudioStop_within (rec : List Byte) (s : State) : Within [.audio, .regions] s (ownAudioStop rec s).1 := by
  unfold ownAudioStop
  split
  · exact .refl _ s
  · exact s.stopStream_within _

theorem ownAudioGain_within (rec : List Byte) (s : State) : Within [.audio] s (ownAudioGain rec s).1 := by
  unfold ownAudioGain
  split
  · exact .refl _ s
  · split
    · exact within_audio s _
    · exact .refl _ s

theorem ownPlayChime_within (rec : List Byte) (s : State) : Within [.audio, .store, .rw] s (ownPlayChime rec s).1 := by
  unfold ownPlayChime
  split
  · rename_i d _ _ _
    have offered := s.offerAndTell_within d (byteAt rec 7) (min (byteAt rec 8) 3) .system
    split <;> rename_i told <;> rw [told] at offered <;> exact offered
  · exact .refl _ s

theorem ownStopChimes_within (rec : List Byte) (s : State) : Within [.audio, .store, .rw] s (ownStopChimes rec s).1 := by
  unfold ownStopChimes
  split
  · exact .refl _ s
  · exact ((s.dropSystemChimes_within _).mono (by decide)).trans (State.settle_within _)

theorem State.placeOrRefuse_within (s : State) (rec : List Byte) (refusal : Option Code) (work : StoreWork) :
    Within [.store, .rw, .audio] s (s.placeOrRefuse rec refusal work).1 := by
  unfold State.placeOrRefuse
  split
  · exact .refl _ s
  · exact s.placeStore_within _

theorem ownSetFaultMask_within (rec : List Byte) (s : State) : Within [.rw] s (ownSetFaultMask rec s).1 := by
  unfold ownSetFaultMask
  split
  · exact .refl _ s
  · exact .of_rwOnly (s.setFaultMask_eq _)

theorem ownClearFaults_within (rec : List Byte) (s : State) : Within [.rw] s (ownClearFaults rec s).1 := by
  unfold ownClearFaults
  split
  · exact .refl _ s
  · exact within_rw s _

theorem State.takeSystemRestart_within (s : State) (rec : List Byte) :
    Within (footprint .systemRestart) s (s.takeSystemRestart rec) := by
  unfold State.takeSystemRestart
  split; · exact (s.ended_within rec _).mono (by decide)
  split; · exact (s.ended_within rec _).mono (by decide)
  exact ((s.systemRestart_within.mono (by decide)).trans ((State.endRequest_within _ _ _).mono (by decide))).trans
    ((State.tellReverse_within _ _).mono (by decide))

theorem execSystemRestart_within (s : State) : NextWithin (footprint .systemRestart) s (execSystemRestart s) := by
  unfold execSystemRestart
  split
  · exact .same _ s
  · exact .next (s.takeSystemRestart_within _)

/-! ### The store -/

theorem State.endProgram_within (s : State) (op : StoreOp) (offset : Nat) :
    Within [.store, .rw, .audio] s (s.endProgram op offset) := by
  unfold State.endProgram
  extract_lets result block s1
  have programmed : Within [.store, .rw, .audio] s s1 := (within_store s _).mono (by decide)
  split
  · exact programmed.trans (s1.finishStore_within _ _)
  · exact (programmed.trans ((s1.raise_within _ _).mono (by decide))).trans (State.finishStore_within _ _ _)

theorem State.endErase_within (s : State) (op : StoreOp) (block : Nat) :
    Within [.store, .rw, .audio] s (s.endErase op block) :=
  ((within_store s _).mono (by decide)).trans (State.finishStore_within _ _ _)

theorem State.endRead_within (s : State) (op : StoreOp) (offset length : Nat) :
    Within [.store, .rw, .audio] s (s.endRead op offset length) := by
  unfold State.endRead
  split
  · exact s.finishStore_within _ _
  · exact ((s.raise_within _ _).mono (by decide)).trans (State.finishStore_within _ _ _)

theorem State.endLock_within (s : State) (op : StoreOp) : Within [.store, .rw, .audio] s (s.endLock op) :=
  ((within_store s { s.store with lockMark := true, lockCopy := true }).mono (by decide)).trans
    (State.finishStore_within _ _ _)

theorem execStoreProgramComplete_within (s : State) :
    NextWithin [.store, .rw, .audio] s (execStoreProgramComplete s) := by
  unfold execStoreProgramComplete
  split
  · exact .same _ s
  · split
    · split
      · exact .next (s.endProgram_within _ _)
      · exact .same _ s
    all_goals exact .same _ s

theorem execStoreEraseComplete_within (s : State) : NextWithin [.store, .rw, .audio] s (execStoreEraseComplete s) := by
  unfold execStoreEraseComplete
  split
  · exact .same _ s
  · split
    · split
      · exact .next (s.endErase_within _ _)
      · exact .same _ s
    all_goals exact .same _ s

theorem execStoreReadComplete_within (s : State) : NextWithin [.store, .rw, .audio] s (execStoreReadComplete s) := by
  unfold execStoreReadComplete
  split
  · exact .same _ s
  · split
    · split
      · exact .next (s.endRead_within _ _ _)
      · exact .same _ s
    all_goals exact .same _ s

theorem execLockWriteComplete_within (s : State) : NextWithin [.store, .rw, .audio] s (execLockWriteComplete s) := by
  unfold execLockWriteComplete
  split
  · exact .same _ s
  · split
    · split
      · exact .next (s.endLock_within _)
      · exact .same _ s
    all_goals exact .same _ s

theorem execSuspensionAsk_within (s : State) : NextWithin [.store] s (execSuspensionAsk s) := by
  unfold execSuspensionAsk
  split
  · split
    · exact .next (within_store s _)
    · exact .same _ s
  · exact .same _ s

theorem execSuspensionTakesEffect_within (s : State) : NextWithin [.store] s (execSuspensionTakesEffect s) := by
  unfold execSuspensionTakesEffect
  split
  · split
    · split
      · exact .next (within_store s _)
      · exact .same _ s
    all_goals exact .same _ s
  · exact .same _ s

theorem State.stagedAnswer_within (s : State) (g : Staging) : Within [.audio] s (s.stagedAnswer g) := by
  unfold State.stagedAnswer
  extract_lets audio buffer s1
  have filled : Within [.audio] s s1 := within_audio s _
  split
  · exact filled
  · split
    · exact filled.trans (within_audio s1 _)
    · exact filled
    · exact filled

theorem State.afterStaging_within (s : State) : Within [.store, .rw, .audio] s s.afterStaging := by
  unfold State.afterStaging
  split
  · exact (within_store s _).mono (by decide)
  · exact (within_store s _).mono (by decide)
  · exact ((within_store s { s.store with staging := none }).mono (by decide)).trans (State.startQueued_within _ _)

theorem execStagingComplete_within (s : State) : NextWithin [.store, .rw, .audio] s (execStagingComplete s) := by
  unfold execStagingComplete
  split
  · exact .same _ s
  · split
    · split
      · exact .next ((((s.stagedAnswer_within _).mono (by decide)).trans (State.afterStaging_within _)).trans
          ((State.settle_within _).mono (by decide)))
      · exact .same _ s
    all_goals exact .same _ s

/-! ### The camera -/

theorem execOtherCameraPacket_within (bytes : List Byte) (s : State) :
    NextWithin [.camera, .rw] s (execOtherCameraPacket bytes s) := by
  unfold execOtherCameraPacket
  split
  · exact .next (s.packetArrives_within _)
  · exact .fault _ s _

theorem execSignalTimerExpiry_within (s : State) : NextWithin [.camera, .rw] s (execSignalTimerExpiry s) := by
  unfold execSignalTimerExpiry
  split
  · extract_lets s1
    have closed : Within [.camera, .rw] s s1 := by
      unfold s1
      split
      · exact .refl _ s
      · exact s.closeErrored_within _
    exact .next ((closed.trans ((within_camera s1 _).mono (by decide))).trans (State.toAlign_within _ _))
  · exact .same _ s

theorem execCaptureComplete_within (s : State) : NextWithin [.camera, .rw] s (execCaptureComplete s) := by
  unfold execCaptureComplete
  split
  · exact .same _ s
  · split
    · exact .next (((within_camera s _).mono (by decide)).trans (State.takeDeferred_within _ _))
    · exact .same _ s

/-! ### Vehicle signals, reverse and the park pattern -/

theorem State.offerFrame_within (ident : Nat) (data : List Byte) (s : State) (e : AcceptEntry) :
    Within (footprint (.canFrame 0 0 [])) s (State.offerFrame ident data s e) := by
  unfold State.offerFrame
  split
  · split
    · exact .refl _ s
    · exact s.refresh_within e _
  · exact .refl _ s

theorem execCanFrame_within (ident : BitVec 11) (dlc : BitVec 4) (data : List Byte) (s : State) :
    NextWithin (footprint (.canFrame ident dlc data)) s (execCanFrame ident dlc data s) := by
  unfold execCanFrame
  split
  · split
    · exact .next (Within.foldl (State.offerFrame_within _ _) _ s)
    · exact .same _ s
  · exact .fault _ s _

theorem State.expire_within (s : State) (g : Signal) (t : Time) :
    Within (footprint (.freshnessExpiry g)) s (s.expire g t) := by
  unfold State.expire
  extract_lets r stale vehicle s1
  have told : Within [.vehicle, .guide, .park, .audio, .store, .rw] s s1 :=
    ((within_vehicle s _).mono (by decide)).trans ((State.raise_within _ _ _).mono (by decide))
  split
  · exact told.trans ((within_vehicle s1 _).mono (by decide))
  · exact told.trans ((within_guide s1 _).mono (by decide))
  · exact told
  · split
    · exact told.trans (s1.chooseBand_within.mono (by decide))
    · exact told

theorem execFreshnessExpiry_within (g : Signal) (s : State) :
    NextWithin (footprint (.freshnessExpiry g)) s (execFreshnessExpiry g s) := by
  unfold execFreshnessExpiry
  split
  · split
    · exact .next (s.expire_within g _)
    · exact .same _ s
  · exact .same _ s

theorem execStalePeriodEnd_within (s : State) : NextWithin (footprint .stalePeriodEnd) s (execStalePeriodEnd s) := by
  unfold execStalePeriodEnd
  split
  · exact .same _ s
  · split
    · exact .next (((within_vehicle s _).mono (by decide)).trans ((State.evaluateReverse_within _).mono (by decide)))
    · exact .same _ s

theorem execReversePinChange_within (high : Bool) (s : State) :
    NextWithin [.vehicle] s (execReversePinChange high s) := by
  unfold execReversePinChange
  split
  · exact .same _ s
  · exact .next (within_vehicle s _)

theorem execPinDebounceExpiry_within (s : State) :
    NextWithin (footprint .pinDebounceExpiry) s (execPinDebounceExpiry s) := by
  unfold execPinDebounceExpiry
  split
  · exact .next (((within_vehicle s _).mono (by decide)).trans ((State.evaluateReverse_within _).mono (by decide)))
  · exact .same _ s

theorem execHoldOffExpiry_within (s : State) : NextWithin [.displays, .reverse, .rw] s (execHoldOffExpiry s) := by
  unfold execHoldOffExpiry
  split
  · exact .next s.cameraOff_within
  · exact .same _ s

theorem execParkOfferTime_within (s : State) : NextWithin (footprint .parkOfferTime) s (execParkOfferTime s) := by
  unfold execParkOfferTime
  split
  · split
    · exact .next (((within_park s _).mono (by decide)).trans ((State.offerBeep_within _).mono (by decide)))
    · exact .same _ s
  · exact .same _ s

/-! ### Displays and the guide engine -/

theorem State.beginFrame_within (s : State) (d : Display) (v m : Bool) (scene : CameraScene) :
    Within [.displays] s (s.beginFrame d v m scene) := within_displays s _

/-- A boundary of a rear display leaves the camera, the compositor and the guide engine as they were. -/
theorem State.boundary_rear_within (s : State) {d : Display} (rear : d ≠ .front) (u : Bool) :
    Within [.displays, .regions, .rw] s (s.boundary d u) := by
  unfold State.boundary
  extract_lets s0 badVideo badMenu s1 view
  have layers : Within [.displays, .regions, .rw] s s1 :=
    (((s.finishRow_within d).mono (by decide)).trans ((within_displays s0 _).mono (by decide))).trans
      ((State.boundaryLayers_within _ d).mono (by decide))
  cases d with
  | front => exact absurd rfl rear
  | rearLeft => exact layers.trans ((s1.beginFrame_within _ _ _ _).mono (by decide))
  | rearRight => exact layers.trans ((s1.beginFrame_within _ _ _ _).mono (by decide))

theorem State.boundary_within_footprint (s : State) (d : Display) (u : Bool) :
    Within (footprint (.displayFrameBoundary d)) s (s.boundary d u) := by
  cases d with
  | front => exact s.boundary_within .front u |>.mono (by decide)
  | rearLeft => exact s.boundary_rear_within (by decide) u
  | rearRight => exact s.boundary_rear_within (by decide) u

theorem execDisplayFrameBoundary_within (d : Display) (s : State) :
    NextWithin (footprint (.displayFrameBoundary d)) s (execDisplayFrameBoundary d s) := by
  unfold execDisplayFrameBoundary
  split
  · exact .next (s.boundary_within_footprint d false)
  · exact .same _ s

theorem execGuideBuildComplete_within (s : State) : NextWithin [.guide, .rw] s (execGuideBuildComplete s) := by
  unfold execGuideBuildComplete
  split
  · extract_lets r s1
    have finished : Within [.guide, .rw] s s1 := (within_guide s _).mono (by decide)
    split
    · exact .next (finished.trans ((s1.raise_within _ _).mono (by decide)))
    · exact .next finished
  · exact .same _ s

theorem execLatePixel_within (d : Display) (l : ScanLayer) (col : Nat) (s : State) :
    NextWithin [.displays, .rw] s (execLatePixel d l col s) := by
  unfold execLatePixel
  split
  · extract_lets sc
    split
    · exact .same _ s
    · split
      · exact .next (((within_displays s _).mono (by decide)).trans ((State.raise_within _ _ _).mono (by decide)))
      · exact .same _ s
  · exact .fault _ s _

theorem execActiveRowFetch_within (d : Display) (s : State) : NextWithin [.displays] s (execActiveRowFetch d s) := by
  unfold execActiveRowFetch
  extract_lets sc
  split
  · exact .next ((s.finishRow_within d).trans (within_displays _ _))
  · exact .same _ s

/-! ### Audio -/

theorem State.sampleStream_within (s : State) (d : Display) : Within [.audio, .rw] s (s.sampleStream d) := by
  unfold State.sampleStream
  extract_lets r s1 s2
  have sampled : Within [.audio, .rw] s s1 := (within_audio s _).mono (by decide)
  have told : Within [.audio, .rw] s1 s2 := by
    unfold s2
    split
    · exact (s1.raise_within _ _).mono (by decide)
    · exact .refl _ s1
  exact (sampled.trans told).trans ((s2.refill_within d).mono (by decide))

theorem State.raiseClip_within (s : State) (d : Display) (clipped : Bool) : Within [.rw] s (s.raiseClip d clipped) := by
  unfold State.raiseClip
  split
  · exact s.raise_within _ _
  · exact .refl _ s

theorem State.sampleTime_within (s : State) : Within [.audio, .rw] s s.sampleTime := by
  unfold State.sampleTime
  extract_lets x mix s1 s2 s3
  have taken : Within [.audio, .rw] s s1 := Within.foldl State.sampleStream_within _ s
  have advanced : Within [.audio, .rw] s1 s2 := Within.foldl (fun t _ => (within_audio t _).mono (by decide)) _ s1
  have told : Within [.audio, .rw] s2 s3 := Within.foldl (fun t d => (t.raiseClip_within d _).mono (by decide)) _ s2
  exact ((taken.trans advanced).trans told).trans ((within_audio s3 _).mono (by decide))

theorem execSampleTime_within (s : State) : NextWithin [.audio, .rw] s (execSampleTime s) := by
  unfold execSampleTime
  split
  · exact .next s.sampleTime_within
  · exact .same _ s

theorem execStartDelayExpiry_within (d : Display) (s : State) : NextWithin [.audio] s (execStartDelayExpiry d s) := by
  unfold execStartDelayExpiry
  split
  · exact .next (within_audio s _)
  · exact .same _ s

theorem execMillisecondTick_within (s : State) : NextWithin [.audio] s (execMillisecondTick s) := by
  unfold execMillisecondTick
  split
  · exact .next (within_audio s _)
  · exact .same _ s

theorem State.endChime_within (s : State) (d : Display) (c : Chime) : Within [.store, .rw, .audio] s (s.endChime d c) := by
  unfold State.endChime
  extract_lets s1
  have left : Within [.store, .rw, .audio] s s1 :=
    ((within_audio s (s.leavePlayer d).audio).mono (by decide)).trans ((State.settle_within _).mono (by decide))
  split
  · exact left.trans (s1.beepStopped_within.mono (by decide))
  · exact left

theorem execChimeEnd_within (d : Display) (s : State) : NextWithin [.store, .rw, .audio] s (execChimeEnd d s) := by
  unfold execChimeEnd
  split
  · split
    · exact .next (s.endChime_within d _)
    · exact .same _ s
  all_goals exact .same _ s

/-! ### Every command -/

theorem NextWithin.mono {ps qs : List Part} {s : State} {o : Host.Outcome State Fault Refusal} (h : NextWithin ps s o)
    (hs : ∀ p ∈ ps, p ∈ qs) : NextWithin qs s o := fun t ht => (h t ht).mono hs

/-- The footprint of a link write, of its bytes or of a whole word, lists its parts in another order. -/
theorem mem_linkWriteParts : ∀ p ∈ [Part.taker, .link, .rw, .audio], p ∈ [Part.link, .taker, .rw, .audio] := by decide

theorem exec_within (c : Instr) (s : State) : NextWithin (footprint c) s (exec c s) := by
  cases c with
  | powerOnReset => exact .next s.afterReset_within
  | pinReset => exact .next s.afterReset_within
  | loadStepComplete => exact execLoadStepComplete_within s
  | linkTraining => exact execLinkTraining_within s
  | lossOfLink => exact execLossOfLink_within s
  | linkRead addr len => exact execLinkRead_within addr len s
  | linkWrite addr lanes => exact (execLinkWrite_within addr lanes s).mono mem_linkWriteParts
  | requestProducerIndex v => exact .next ((s.writeWord_within _ v).mono mem_linkWriteParts)
  | reportConsumerIndex v => exact .next ((s.writeWord_within _ v).mono mem_linkWriteParts)
  | mediaProducerIndex d v => exact .next ((s.writeWord_within _ v).mono mem_linkWriteParts)
  | dramGrant => exact execDramGrant_within s
  | unknownRequestKind => exact execUnknownRequestKind_within s
  | publish => exact s.takeKind_within 1 fun rec => (ownPublish_within rec s).mono (by decide)
  | setLayer => exact s.takeKind_within 2 fun rec => (ownSetLayer_within rec s).mono (by decide)
  | holdChanges => exact s.takeKind_within 3 fun rec => (ownHold_within _ rec s).mono (by decide)
  | releaseChanges => exact s.takeKind_within 4 fun rec => (ownHold_within _ rec s).mono (by decide)
  | pushView => exact s.takeKind_within 5 fun rec => (ownPushView_within rec s).mono (by decide)
  | popView => exact s.takeKind_within 6 fun rec => (ownPopView_within rec s).mono (by decide)
  | showCamera => exact s.takeKind_within 7 fun rec => (ownShowCamera_within rec s).mono (by decide)
  | closeCamera => exact s.takeKind_within 8 fun rec => (ownCloseCamera_within rec s).mono (by decide)
  | defineRegion => exact s.takeKind_within 9 fun rec => (ownDefineRegion_within rec s).mono (by decide)
  | deleteRegion => exact s.takeKind_within 10 fun rec => (ownDeleteRegion_within rec s).mono (by decide)
  | audioStart => exact s.takeKind_within 11 fun rec => (ownAudioStart_within rec s).mono (by decide)
  | audioStop => exact s.takeKind_within 12 fun rec => (ownAudioStop_within rec s).mono (by decide)
  | audioGain => exact s.takeKind_within 13 fun rec => (ownAudioGain_within rec s).mono (by decide)
  | playChime => exact s.takeKind_within 14 fun rec => (ownPlayChime_within rec s).mono (by decide)
  | stopChimes => exact s.takeKind_within 15 fun rec => (ownStopChimes_within rec s).mono (by decide)
  | storeRead => exact s.takeKind_within 16 fun rec => (s.placeOrRefuse_within rec _ _).mono (by decide)
  | storeProgram => exact s.takeKind_within 17 fun rec => (s.placeOrRefuse_within rec _ _).mono (by decide)
  | storeErase => exact s.takeKind_within 18 fun rec => (s.placeOrRefuse_within rec _ _).mono (by decide)
  | storeLockCalibration => exact s.takeKind_within 19 fun rec => (s.placeOrRefuse_within rec _ _).mono (by decide)
  | setFaultMask => exact s.takeKind_within 20 fun rec => (ownSetFaultMask_within rec s).mono (by decide)
  | clearFaults => exact s.takeKind_within 21 fun rec => (ownClearFaults_within rec s).mono (by decide)
  | systemRestart => exact execSystemRestart_within s
  | storeProgramComplete => exact execStoreProgramComplete_within s
  | storeEraseComplete => exact execStoreEraseComplete_within s
  | storeReadComplete => exact execStoreReadComplete_within s
  | lockWriteComplete => exact execLockWriteComplete_within s
  | suspensionAsk => exact execSuspensionAsk_within s
  | suspensionTakesEffect => exact execSuspensionTakesEffect_within s
  | stagingComplete => exact execStagingComplete_within s
  | frameStart n => exact .next (s.packetArrives_within _)
  | line n rest => exact .next (s.packetArrives_within _)
  | frameEnd n k => exact .next (s.packetArrives_within _)
  | otherCameraPacket bytes => exact execOtherCameraPacket_within bytes s
  | signalTimerExpiry => exact execSignalTimerExpiry_within s
  | captureComplete => exact execCaptureComplete_within s
  | canFrame ident dlc data => exact execCanFrame_within ident dlc data s
  | freshnessExpiry g => exact execFreshnessExpiry_within g s
  | stalePeriodEnd => exact execStalePeriodEnd_within s
  | reversePinChange high => exact execReversePinChange_within high s
  | pinDebounceExpiry => exact execPinDebounceExpiry_within s
  | holdOffExpiry => exact execHoldOffExpiry_within s
  | parkOfferTime => exact execParkOfferTime_within s
  | displayFrameBoundary d => exact execDisplayFrameBoundary_within d s
  | guideBuildComplete => exact execGuideBuildComplete_within s
  | latePixel d l col => exact execLatePixel_within d l col s
  | sampleTime => exact execSampleTime_within s
  | startDelayExpiry d => exact execStartDelayExpiry_within d s
  | millisecondTick => exact execMillisecondTick_within s
  | chimeEnd d => exact execChimeEnd_within d s
  | activeRowFetch d => exact execActiveRowFetch_within d s

/-! ### Which commands complete (log 34) -/

/-- The outcome is a next state. -/
def IsNext (o : Host.Outcome State Fault Refusal) : Prop := ∃ t, o = .next t

theorem isNext_next (t : State) : IsNext (.next t) := ⟨t, rfl⟩

/-- The five commands with operands that may not arrive complete where they do; every branch of the others is a next state. -/
theorem exec_isNext (c : Instr) (s : State) (arrives : c.WellFormed = true) : IsNext (exec c s) := by
  cases c with
  | linkRead addr len => simp [exec, execLinkRead, of_decide_eq_true arrives, isNext_next]
  | linkWrite addr lanes => simp [exec, execLinkWrite, of_decide_eq_true arrives, isNext_next]
  | otherCameraPacket bytes =>
    have other : isOtherPacket bytes = true := arrives
    simp [exec, execOtherCameraPacket, other, isNext_next]
  | canFrame ident dlc data =>
    simp only [exec, execCanFrame, arrives, if_true]
    split <;> exact isNext_next _
  | latePixel d l col =>
    have onDisplay : col < d.columns ∧ (l = .camera → d = .front) := of_decide_eq_true arrives
    simp only [exec, execLatePixel, if_pos onDisplay]
    repeat' split
    all_goals exact isNext_next _
  | _ =>
    simp only [exec, execLoadStepComplete, execLinkTraining, execLossOfLink, execDramGrant, execUnknownRequestKind,
      execSystemRestart, execStoreProgramComplete, execStoreEraseComplete, execStoreReadComplete, execLockWriteComplete,
      execSuspensionAsk, execSuspensionTakesEffect, execStagingComplete, execSignalTimerExpiry, execCaptureComplete,
      execFreshnessExpiry, execStalePeriodEnd, execReversePinChange, execPinDebounceExpiry, execHoldOffExpiry,
      execParkOfferTime, execDisplayFrameBoundary, execGuideBuildComplete, execSampleTime, execStartDelayExpiry,
      execMillisecondTick, execChimeEnd, execActiveRowFetch]
    repeat' split
    all_goals exact isNext_next _

/-- Only those five commands have operands that cannot arrive, and each of them checks its operands first. -/
theorem exec_of_not_wellFormed (c : Instr) (s : State) (cannot : c.WellFormed = false) :
    exec c s = .fault .cannotArrive := by
  cases c with
  | linkRead addr len => exact if_neg (of_decide_eq_false cannot)
  | linkWrite addr lanes => exact if_neg (of_decide_eq_false cannot)
  | otherCameraPacket bytes => exact if_neg (ne_true_of_eq_false cannot)
  | canFrame ident dlc data => exact if_neg (ne_true_of_eq_false cannot)
  | latePixel d l col => exact if_neg (of_decide_eq_false cannot)
  | _ => exact Bool.noConfusion (cannot : true = false)

/-- Settles O55, from the footprint of each command and from the operands that each checks. -/
theorem commandsStayWithinFootprint : Obligations.CommandsStayWithinFootprint :=
  ⟨fun c s t answered => exec_within c s t answered, fun c s arrives => exec_isNext c s arrives, exec_of_not_wellFormed⟩

end Sys2Proof.Machine

end

/-! ## Proofs: what chimes, reverse and signals do to the store

A chime can have its clip staged; nothing else that chimes, the reverse controller and the vehicle signals do reaches the
store. Said once for each operation, so that the store's invariants follow for all of them. -/

section

namespace Sys2Proof.Machine

/-! ### A store that has at most accepted stagings -/

/-- `st'` is `st` after it has accepted any number of stagings (R47, R48): an IDLE store has gone on to read, and one that is
not IDLE runs no staging that it did not run before. -/
structure Store.StagedFrom (st st' : Store) : Prop where
  rest : { st' with staging := st.staging, state := st.state } = st
  state : st'.state = st.state ∨ (st.state = .idle ∧ st'.state = .reading)
  idle : st'.state = .idle → st'.staging = st.staging
  running : ∀ g since, st'.staging = some g → g.phase = .running since →
    (st'.staging = st.staging ∧ st'.state = st.state) ∨ (st.state = .idle ∧ st'.state = .reading)

theorem Store.StagedFrom.refl (st : Store) : st.StagedFrom st :=
  ⟨rfl, .inl rfl, fun _ => rfl, fun _ _ _ _ => .inl ⟨rfl, rfl⟩⟩

theorem Store.StagedFrom.idle_before {st st' : Store} (h : st.StagedFrom st') (idle : st'.state = .idle) :
    st.state = .idle := by
  rcases h.state with same | ⟨was, _⟩
  · rw [← same, idle]
  · exact was

theorem Store.StagedFrom.trans {st st' st'' : Store} (h : st.StagedFrom st') (g : st'.StagedFrom st'') :
    st.StagedFrom st'' where
  rest := by
    have first := h.rest
    rw [← g.rest] at first
    exact first
  state := by
    rcases g.state with same | ⟨was, now⟩
    · rw [same]; exact h.state
    · exact .inr ⟨h.idle_before was, now⟩
  idle now := by rw [g.idle now, h.idle (g.idle_before now)]
  running c since held phase := by
    rcases g.running c since held phase with ⟨sameStaging, sameState⟩ | ⟨was, now⟩
    · rw [sameStaging] at held
      rw [sameStaging, sameState]
      exact h.running c since held phase
    · exact .inr ⟨h.idle_before was, now⟩

/-- The store of `t` is that of `s` after it has accepted any number of stagings. -/
def StagesOnly (s t : State) : Prop := s.store.StagedFrom t.store

theorem StagesOnly.refl (s : State) : StagesOnly s s := Store.StagedFrom.refl _

theorem StagesOnly.trans {s t u : State} (h : StagesOnly s t) (g : StagesOnly t u) : StagesOnly s u :=
  Store.StagedFrom.trans h g

theorem StagesOnly.of_eq {s t : State} (h : t.store = s.store) : StagesOnly s t := by
  unfold StagesOnly
  rw [h]
  exact .refl _

/-- An update before the operation that does not change the store. -/
theorem StagesOnly.after {s t u : State} (h : StagesOnly t u) (same : t.store = s.store) : StagesOnly s u :=
  (StagesOnly.of_eq same).trans h

/-- An operation after it that does not change the store. -/
theorem StagesOnly.then {s t u : State} (h : StagesOnly s t) (same : u.store = t.store) : StagesOnly s u :=
  h.trans (.of_eq same)

theorem Within.store_eq {ps : List Part} {s t : State} (h : Within ps s t) (hp : .store ∉ ps) : t.store = s.store :=
  h .store hp

/-- An operation that does not change the store at all. -/
theorem StagesOnly.of_within {ps : List Part} {s t : State} (h : Within ps s t) (hp : .store ∉ ps) : StagesOnly s t :=
  .of_eq (h .store hp)

theorem StagesOnly.foldl {α : Type} {f : State → α → State} (h : ∀ s x, StagesOnly s (f s x)) (xs : List α) (s : State) :
    StagesOnly s (xs.foldl f s) := by
  induction xs generalizing s with
  | nil => exact .refl s
  | cons x xs ih => exact (h s x).trans (ih (f s x))

/-! ### Staging (R47, R48) -/

/-- A staging that is not running may be put into a store that is not IDLE. -/
theorem Store.stagedFrom_put {st : Store} {g : Staging} (busy : st.state ≠ .idle) (waits : ∀ since, g.phase ≠ .running since) :
    st.StagedFrom { st with staging := some g } where
  rest := rfl
  state := .inl rfl
  idle now := absurd now busy
  running c since held phase := by
    cases held
    exact absurd phase (waits since)

theorem State.acceptStaging_stages (s : State) (clip offset length : Nat) :
    StagesOnly s (s.acceptStaging clip offset length) := by
  unfold State.acceptStaging StagesOnly
  extract_lets waiting
  have busyPut : s.store.state ≠ .idle → s.store.StagedFrom { s.store with staging := some waiting } := fun busy =>
    Store.stagedFrom_put busy fun since => by simp [waiting]
  have askedPut : s.store.state ≠ .idle →
      s.store.StagedFrom { s.store with staging := some { waiting with phase := .asked s.time } } := fun busy =>
    Store.stagedFrom_put busy fun since => by simp
  split
  case h_1 idle => exact ⟨rfl, .inr ⟨idle, rfl⟩, fun now => (nomatch now), fun _ _ _ _ => .inr ⟨idle, rfl⟩⟩
  case h_2 reading => exact busyPut (by simp [reading])
  case h_3 programming =>
    split
    · split
      · exact askedPut (by simp [programming])
      · exact busyPut (by simp [programming])
    · exact busyPut (by simp [programming])
  case h_4 erasing =>
    split
    · split
      · exact askedPut (by simp [erasing])
      · exact busyPut (by simp [erasing])
    · exact busyPut (by simp [erasing])
  case h_5 suspended => exact busyPut (by simp [suspended])
  case h_6 suspended => exact busyPut (by simp [suspended])

/-! ### Chimes -/

theorem State.claimBuffer_stages (s : State) (d : Display) (c : Chime) (k : Clip) :
    StagesOnly s (s.claimBuffer d c k) := by
  unfold State.claimBuffer
  split
  · exact .of_eq rfl
  · split
    · exact .of_within (s.unstageableAnswer_within d c k) (by decide)
    · exact (State.acceptStaging_stages _ _ _ _).after rfl

theorem State.startChime_stages (s : State) (d : Display) (c : Chime) : StagesOnly s (s.startChime d c) := by
  unfold State.startChime
  split
  · exact .of_eq (by simp)
  · split
    · exact .of_eq rfl
    · split
      · exact s.claimBuffer_stages d c _
      · exact .of_eq rfl

theorem State.serveWaiter_stages (s : State) (d : Display) (rest : List Display) :
    StagesOnly s (s.serveWaiter d rest) := by
  unfold State.serveWaiter
  extract_lets audio buffer s1
  have left : StagesOnly s s1 := .of_eq rfl
  split
  · split
    · exact left.trans (s1.claimBuffer_stages d _ _)
    · exact left
  · exact left
  · exact left

theorem State.settleChimes_stages (n : Nat) (s : State) : StagesOnly s (State.settleChimes n s) := by
  induction n generalizing s with
  | zero => exact .refl s
  | succ n ih =>
    unfold State.settleChimes
    split
    · split
      · exact .refl s
      · exact (s.serveWaiter_stages _ _).trans (ih _)
    · split
      · exact .refl s
      · split
        · exact .refl s
        · refine StagesOnly.trans ?_ (ih _)
          exact (State.startChime_stages _ _ _).after rfl

theorem State.settle_stages (s : State) : StagesOnly s s.settle := State.settleChimes_stages _ s

theorem State.offerChime_stages (s : State) (d : Display) (clip priority : Nat) (owner : ChimeOwner) :
    StagesOnly s (s.offerChime d clip priority owner).state := by
  unfold State.offerChime
  extract_lets inPlayer preempts stopped s1
  have left : StagesOnly s s1 := by
    unfold s1
    split
    · exact .of_eq rfl
    · exact .refl s
  split
  · exact left.trans s1.settle_stages
  · exact left.trans ((State.settle_stages _).after rfl)

theorem State.offerBeep_stages (s : State) : StagesOnly s s.offerBeep := by
  unfold State.offerBeep
  split
  · exact .refl s
  · exact s.offerChime_stages _ _ _ _

theorem State.chooseBand_stages (s : State) : StagesOnly s s.chooseBand := by
  have enter : ∀ b ms, StagesOnly s (s.enterInterval b ms) := fun b ms =>
    (State.offerBeep_stages _).after rfl
  unfold State.chooseBand
  extract_lets old
  split
  · exact .of_eq rfl
  · split
    · exact .refl s
    · split
      · exact (State.offerBeep_stages _).after rfl
      · split
        · extract_lets next
          split
          · exact enter _ _
          · exact .of_eq rfl
        · exact enter _ _

theorem State.beepStopped_stages (s : State) : StagesOnly s s.beepStopped := by
  unfold State.beepStopped
  split
  · exact s.offerBeep_stages
  · exact .refl s

theorem State.offerAndTell_stages (s : State) (d : Display) (clip priority : Nat) (owner : ChimeOwner) :
    StagesOnly s (s.offerAndTell d clip priority owner).1 := by
  have offered := s.offerChime_stages d clip priority owner
  unfold State.offerAndTell
  extract_lets o
  split
  · exact offered.trans (State.beepStopped_stages _)
  · exact offered

theorem State.offerTone_stages (s : State) : StagesOnly s s.offerTone := by
  unfold State.offerTone
  split
  · exact .refl s
  · exact s.offerAndTell_stages _ _ _ _

theorem State.endChime_stages (s : State) (d : Display) (c : Chime) : StagesOnly s (s.endChime d c) := by
  unfold State.endChime
  extract_lets s1
  have left : StagesOnly s s1 := (StagesOnly.of_eq (s := s) (t := s.leavePlayer d) rfl).trans (State.settle_stages _)
  split
  · exact left.trans s1.beepStopped_stages
  · exact left

/-! ### Reverse, signals and restarts -/

theorem State.startPattern_stages (s : State) : StagesOnly s s.startPattern := by
  unfold State.startPattern
  split
  · exact (State.chooseBand_stages _).after rfl
  · exact .refl s

theorem State.reverseAsserted_stages (s : State) : StagesOnly s s.reverseAsserted := by
  unfold State.reverseAsserted
  have pushed : StagesOnly s (s.forcedPush.toReverse .engaged) :=
    (StagesOnly.of_within s.forcedPush_within (by decide)).trans (.of_within (State.toReverse_within _ _) (by decide))
  split
  · refine StagesOnly.trans ?_ (State.startPattern_stages _)
    exact pushed.trans (State.offerTone_stages _)
  · refine StagesOnly.then ?_ (State.post_store _ _)
    exact (State.startPattern_stages _).after rfl
  · refine StagesOnly.trans ?_ (State.startPattern_stages _)
    refine StagesOnly.trans ?_ (State.offerTone_stages _)
    exact .of_eq ((State.toReverse_within _ _).store_eq (by decide))
  · exact .refl s

theorem State.evaluateReverse_stages (s : State) : StagesOnly s s.evaluateReverse := by
  unfold State.evaluateReverse
  split
  · split
    · exact s.reverseAsserted_stages
    · split
      · exact .of_within s.reverseReleased_within (by decide)
      · exact .refl s
  · exact .refl s

theorem State.startReverse_stages (s : State) : StagesOnly s s.startReverse := by
  unfold State.startReverse
  split
  · exact .refl s
  · exact (State.evaluateReverse_stages _).after rfl

theorem State.refresh_stages (s : State) (e : AcceptEntry) (v : Int) : StagesOnly s (s.refresh e v) := by
  unfold State.refresh
  extract_lets deadline
  split
  · exact (State.evaluateReverse_stages _).after rfl
  · exact .of_eq rfl
  · exact .of_eq ((State.speedExit_within _ _).store_eq (by decide))
  · split
    · exact (State.chooseBand_stages _).after rfl
    · exact .of_eq rfl

theorem State.offerFrame_stages (ident : Nat) (data : List Byte) (s : State) (e : AcceptEntry) :
    StagesOnly s (State.offerFrame ident data s e) := by
  unfold State.offerFrame
  split
  · split
    · exact .refl s
    · exact s.refresh_stages e _
  · exact .refl s

theorem State.expire_stages (s : State) (g : Signal) (t : Time) : StagesOnly s (s.expire g t) := by
  unfold State.expire
  extract_lets r stale vehicle s1
  have told : StagesOnly s s1 := .of_eq (by simp [s1])
  split
  · exact told
  · exact told
  · exact told
  · split
    · exact told.trans s1.chooseBand_stages
    · exact told

theorem State.restartStreams_within (s : State) : Within [.audio, .regions] s s.restartStreams := by
  unfold State.restartStreams
  exact Within.foldl (fun t d => (t.stopStream_within d).trans ((within_audio _ _).mono (by decide))) _ _

theorem State.systemRestart_stages (s : State) : StagesOnly s s.systemRestart := by
  unfold State.systemRestart
  extract_lets s1 s2
  have rings : StagesOnly s s.restartRings := .of_eq (by simp [State.restartRings])
  have streams : StagesOnly s.restartRings s1 := .of_within s.restartRings.restartStreams_within (by decide)
  have stopped : StagesOnly s s1 := rings.trans streams
  clear_value s1
  have dropped : ∀ t : State, StagesOnly t (allDisplays.foldl State.dropSystemChimes t) :=
    StagesOnly.foldl (fun t d => .of_within (t.dropSystemChimes_within d) (by decide)) _
  refine StagesOnly.trans ?_ (State.settle_stages _)
  refine StagesOnly.trans ?_ (dropped _)
  exact stopped.then rfl

theorem ownPlayChime_stages (rec : List Byte) (s : State) : StagesOnly s (ownPlayChime rec s).1 := by
  unfold ownPlayChime
  split
  · rename_i d _ _ _
    have offered := s.offerAndTell_stages d (byteAt rec 7) (min (byteAt rec 8) 3) .system
    split <;> rename_i told <;> rw [told] at offered <;> exact offered
  · exact .refl s

theorem ownStopChimes_stages (rec : List Byte) (s : State) : StagesOnly s (ownStopChimes rec s).1 := by
  unfold ownStopChimes
  split
  · exact .refl s
  · exact (StagesOnly.of_within (s.dropSystemChimes_within _) (by decide)).trans (State.settle_stages _)

theorem State.takeSystemRestart_stages (s : State) (rec : List Byte) : StagesOnly s (s.takeSystemRestart rec) := by
  have refused : ∀ e, StagesOnly s (s.ended rec e) := fun e => .of_within (s.ended_within rec e) (by decide)
  unfold State.takeSystemRestart
  split; · exact refused _
  split; · exact refused _
  exact (s.systemRestart_stages.trans (.of_within (State.endRequest_within _ _ _) (by decide))).trans
    (.of_within (State.tellReverse_within _ _) (by decide))

end Sys2Proof.Machine

end

/-! ## Proofs: the calibration lock

The order of the work still to run is what keeps block 0: no program or erase of it stands behind a lock. Said for the store
controller's operations first, then for each command that changes the store. -/

section

namespace Sys2Proof.Machine

/-! ### The order of the work (R38, R41, R43) -/

theorem lockOrdered_cons (locked : Bool) (r : StoreRequest) (rest : List StoreRequest) :
    lockOrdered locked (r :: rest) = (!(locked && r.touchesCalibration) && lockOrdered (locked || r.work == .lock) rest) :=
  rfl

/-- What may run once the lock is set may run before. -/
theorem lockOrdered_mono {q : List StoreRequest} (locked : Bool) (h : lockOrdered true q = true) :
    lockOrdered locked q = true := by
  induction q generalizing locked with
  | nil => rfl
  | cons r rest ih =>
    rw [lockOrdered_cons, Bool.and_eq_true] at h ⊢
    obtain ⟨head, tail⟩ := h
    refine ⟨?_, ih _ (by simpa using tail)⟩
    cases locked <;> simp_all

theorem lockOrdered_tail {locked : Bool} {r : StoreRequest} {rest : List StoreRequest}
    (h : lockOrdered locked (r :: rest) = true) : lockOrdered locked rest = true := by
  rw [lockOrdered_cons, Bool.and_eq_true] at h
  cases locked with
  | true => simpa using h.2
  | false =>
    by_cases isLock : (r.work == .lock) = true
    · exact lockOrdered_mono false (by simpa [isLock] using h.2)
    · simpa [isLock] using h.2

/-- After a lock everything behind it may run once the lock is set. -/
theorem lockOrdered_of_lock {locked : Bool} {r : StoreRequest} {rest : List StoreRequest}
    (h : lockOrdered locked (r :: rest) = true) (isLock : r.work = .lock) : lockOrdered true rest = true := by
  rw [lockOrdered_cons, Bool.and_eq_true] at h
  simpa [isLock] using h.2

/-- A request joins the tail where it leaves block 0 alone, or where no lock is set or stands before it. -/
theorem lockOrdered_append {locked : Bool} {q : List StoreRequest} {r : StoreRequest} (h : lockOrdered locked q = true)
    (may : r.touchesCalibration = true → locked = false ∧ (q.any fun x => x.work == .lock) = false) :
    lockOrdered locked (q ++ [r]) = true := by
  induction q generalizing locked with
  | nil =>
    cases touches : r.touchesCalibration with
    | false => simp [lockOrdered, touches]
    | true => simp [lockOrdered, (may touches).1]
  | cons x rest ih =>
    rw [lockOrdered_cons, Bool.and_eq_true] at h
    rw [List.cons_append, lockOrdered_cons, Bool.and_eq_true]
    refine ⟨h.1, ih h.2 fun touches => ?_⟩
    obtain ⟨unlocked, none⟩ := may touches
    simp only [List.any_cons, Bool.or_eq_false_iff] at none
    exact ⟨by simp [unlocked, none.1], none.2⟩

/-! ### What a step may do to a store whose lock is set -/

/-- The invariant is kept, and a lock that is set stays set with block 0 as it is. -/
def KeepsLock (s t : State) : Prop :=
  s.LockSafe → t.LockSafe ∧ (s.store.lockMark = true →
    t.store.lockMark = true ∧ ∀ a, a < 65536 → t.store.byte a = s.store.byte a)

theorem KeepsLock.trans {s t u : State} (h : KeepsLock s t) (g : KeepsLock t u) : KeepsLock s u := by
  intro safe
  obtain ⟨safeT, keptT⟩ := h safe
  obtain ⟨safeU, keptU⟩ := g safeT
  refine ⟨safeU, fun locked => ?_⟩
  obtain ⟨lockedT, bytesT⟩ := keptT locked
  obtain ⟨lockedU, bytesU⟩ := keptU lockedT
  exact ⟨lockedU, fun a low => (bytesU a low).trans (bytesT a low)⟩

/-- The lock mark and the stored bytes are the same. -/
structure SameContent (st st' : Store) : Prop where
  lockMark : st'.lockMark = st.lockMark
  cells : st'.cells = st.cells
  background : st'.background = st.background

theorem SameContent.refl (st : Store) : SameContent st st := ⟨rfl, rfl, rfl⟩

theorem SameContent.trans {a b c : Store} (h : SameContent a b) (g : SameContent b c) : SameContent a c :=
  ⟨g.lockMark.trans h.lockMark, g.cells.trans h.cells, g.background.trans h.background⟩

theorem SameContent.byte {st st' : Store} (h : SameContent st st') (a : Nat) : st'.byte a = st.byte a := by
  unfold Store.byte
  rw [h.cells, h.background]

theorem KeepsLock.of_sameContent {s t : State} (same : SameContent s.store t.store) (safe : s.LockSafe → t.LockSafe) :
    KeepsLock s t := fun h =>
  ⟨safe h, fun locked => ⟨same.lockMark.trans locked, fun a _ => same.byte a⟩⟩

/-- An operation that may have stagings accepted and changes the store in no other way. -/
theorem KeepsLock.of_stages {s t : State} (h : StagesOnly s t) : KeepsLock s t := by
  have rest := h.rest
  have sameOp : t.store.op = s.store.op := by rw [← rest]
  have sameQueue : t.store.queue = s.store.queue := by rw [← rest]
  have sameMark : t.store.lockMark = s.store.lockMark := by rw [← rest]
  have sameCopy : t.store.lockCopy = s.store.lockCopy := by rw [← rest]
  refine .of_sameContent ⟨sameMark, by rw [← rest], by rw [← rest]⟩ fun safe => ⟨?_, ?_, ?_, ?_⟩
  · rw [sameCopy, sameMark, safe.copy]
  · rw [Store.work, sameOp, sameQueue, sameMark]
    exact safe.ordered
  · intro idle
    rw [sameOp, sameQueue, h.idle idle]
    exact safe.idle (h.idle_before idle)
  · intro g since held running
    rw [sameOp]
    rcases h.running g since held running with ⟨sameStaging, sameState⟩ | ⟨was, now⟩
    · rw [sameStaging] at held
      rw [sameState]
      exact safe.running g since held running
    · exact .inl ⟨now, (safe.idle was).1⟩

theorem KeepsLock.of_eq {s t : State} (h : t.store = s.store) : KeepsLock s t := .of_stages (.of_eq h)

theorem KeepsLock.refl (s : State) : KeepsLock s s := .of_eq rfl

/-- An update before the operation that does not change the store. -/
theorem KeepsLock.after {s t u : State} (h : KeepsLock t u) (same : t.store = s.store) : KeepsLock s u :=
  (KeepsLock.of_eq same).trans h

/-! ### Starting and completing operations (R39, R46) -/

theorem State.completeStore_store (s : State) (r : StoreRequest) (code : Code) :
    (s.completeStore r code).store =
      { s.store with lastTag := r.tag, lastKind := storeWorkKind r.work, lastCode := code, op := none } := by
  simp [State.completeStore]

theorem State.invalidateStaged_store (s : State) (b : Nat) : (s.invalidateStaged b).store = s.store :=
  (s.invalidateStaged_within b).store_eq (by decide)

/-- What starting a request makes of the store: it is in progress in a store that is not IDLE, or, a lock whose copy is set
already, it is over. The queue, the staging and the content are as they were. -/
theorem State.startStore_cases (s : State) (r : StoreRequest) : ∃ t, t.store.queue = s.store.queue ∧
    t.store.staging = s.store.staging ∧ t.store.lockCopy = s.store.lockCopy ∧ SameContent s.store t.store ∧
    ((s.startStore r = (t, false) ∧ t.store.state ≠ .idle ∧ t.store.op.map StoreOp.request = some r) ∨
      (s.startStore r = (t, true) ∧ r.work = .lock ∧ s.store.lockCopy = true ∧ t.store.op = none)) := by
  unfold State.startStore
  split
  · refine ⟨_, ?_, ?_, ?_, ?_, .inl ⟨rfl, ?_, ?_⟩⟩
    · rfl
    · rfl
    · rfl
    · exact ⟨rfl, rfl, rfl⟩
    · exact fun idle => nomatch idle
    · rfl
  · extract_lets reads store s1
    refine ⟨_, ?_, ?_, ?_, ?_, .inl ⟨rfl, ?_, ?_⟩⟩ <;> rw [State.invalidateStaged_store]
    · rfl
    · rfl
    · rfl
    · exact ⟨rfl, rfl, rfl⟩
    · simp [s1, Store.setStatus]
    · rfl
  · extract_lets store s1
    refine ⟨_, ?_, ?_, ?_, ?_, .inl ⟨rfl, ?_, ?_⟩⟩ <;> rw [State.invalidateStaged_store]
    · rfl
    · rfl
    · rfl
    · exact ⟨rfl, rfl, rfl⟩
    · simp [s1, Store.setStatus]
    · rfl
  · rename_i isLock
    split
    · rename_i copied
      refine ⟨_, ?_, ?_, ?_, ?_, .inr ⟨rfl, isLock, copied, ?_⟩⟩ <;> rw [State.completeStore_store]
      exact ⟨rfl, rfl, rfl⟩
    · refine ⟨_, ?_, ?_, ?_, ?_, .inl ⟨rfl, ?_, ?_⟩⟩
      · rfl
      · rfl
      · rfl
      · exact ⟨rfl, rfl, rfl⟩
      · exact fun idle => nomatch idle
      · rfl

/-- A store with no operation and no staging, of which the requests `q` are to run next. -/
structure State.ReadyFor (s : State) (q : List StoreRequest) : Prop where
  copy : s.store.lockCopy = s.store.lockMark
  ordered : lockOrdered s.store.lockMark q = true
  op : s.store.op = none
  staging : s.store.staging = none

theorem State.startQueued_lockSafe {q : List StoreRequest} {s : State} (ready : s.ReadyFor q) :
    (State.startQueued q s).LockSafe ∧ SameContent s.store (State.startQueued q s).store := by
  induction q generalizing s with
  | nil =>
    refine ⟨⟨ready.copy, ?_, fun _ => ⟨ready.op, rfl, ready.staging⟩, fun g _ held => ?_⟩, ⟨rfl, rfl, rfl⟩⟩
    · simp [State.startQueued, Store.work, ready.op, lockOrdered]
    · exact absurd held (by simp [State.startQueued, ready.staging])
  | cons r rest ih =>
    obtain ⟨t, queue, staging, copy, content, started | complete⟩ := State.startStore_cases { s with store.queue := rest } r
      <;> have same : SameContent s.store t.store := ⟨content.lockMark, content.cells, content.background⟩
    · obtain ⟨eq, busy, op⟩ := started
      rw [State.startQueued, eq]
      refine ⟨⟨?_, ?_, fun idle => absurd idle busy, fun g _ held => ?_⟩, same⟩
      · rw [copy, same.lockMark]
        exact ready.copy
      · rw [Store.work, op, queue, same.lockMark]
        exact ready.ordered
      · rw [staging] at held
        exact absurd held (by simp [ready.staging])
    · obtain ⟨eq, isLock, copied, op⟩ := complete
      rw [State.startQueued, eq]
      have readyRest : t.ReadyFor rest := by
        refine ⟨?_, ?_, op, ?_⟩
        · rw [copy, same.lockMark]
          exact ready.copy
        · rw [same.lockMark]
          exact lockOrdered_tail ready.ordered
        · rw [staging]
          exact ready.staging
      obtain ⟨safe, sameRest⟩ := ih readyRest
      exact ⟨safe, same.trans sameRest⟩

theorem State.finishStore_lockSafe {s : State} (r : StoreRequest) (code : Code)
    (copy : s.store.lockCopy = s.store.lockMark) (ordered : lockOrdered s.store.lockMark s.store.queue = true) :
    (s.finishStore r code).LockSafe ∧ SameContent s.store (s.finishStore r code).store := by
  have completed : SameContent s.store (s.completeStore r code).store := by
    rw [State.completeStore_store]
    exact ⟨rfl, rfl, rfl⟩
  unfold State.finishStore State.continueStore
  split
  case h_1 g staging =>
    refine ⟨⟨?_, ?_, fun idle => (nomatch idle), fun _ _ _ _ => .inl ⟨rfl, ?_⟩⟩,
      ⟨completed.lockMark, completed.cells, completed.background⟩⟩
    · simpa [State.completeStore_store] using copy
    · simpa [State.completeStore_store, Store.work] using ordered
    · simp [State.completeStore_store]
  case h_2 staging =>
    have ready : (s.completeStore r code).ReadyFor (s.completeStore r code).store.queue := by
      refine ⟨?_, ?_, ?_, staging⟩ <;> rw [State.completeStore_store]
      · exact copy
      · exact ordered
    obtain ⟨safe, same⟩ := State.startQueued_lockSafe ready
    exact ⟨safe, completed.trans same⟩

/-! ### Placing a request (R40, R41, R43) -/

theorem Store.lockComing_eq (st : Store) : st.lockComing = st.work.any fun r => r.work == .lock := by
  unfold Store.lockComing Store.work
  cases st.op <;> simp

theorem State.placeStore_keepsLock (s : State) {r : StoreRequest} (may : r.touchesCalibration = true → s.store.locked = false) :
    KeepsLock s (s.placeStore r) := by
  intro safe
  have ordered : lockOrdered s.store.lockMark (s.store.work ++ [r]) = true := by
    refine lockOrdered_append safe.ordered fun touches => ?_
    have unlocked := may touches
    rw [Store.locked, Bool.or_eq_false_iff, Store.lockComing_eq, safe.copy] at unlocked
    exact unlocked
  have kept : (s.placeStore r).LockSafe ∧ SameContent s.store (s.placeStore r).store := by
    unfold State.placeStore
    split
    case isTrue rest =>
      obtain ⟨op, queue, staging⟩ := safe.idle rest.1
      refine State.startQueued_lockSafe ⟨safe.copy, ?_, op, staging⟩
      simpa [Store.work, op, queue] using ordered
    case isFalse busy =>
      refine ⟨⟨safe.copy, ?_, fun idle => ?_, safe.running⟩, ⟨rfl, rfl, rfl⟩⟩
      · simpa [Store.work] using ordered
      · exact absurd ⟨idle, (safe.idle idle).2.2⟩ busy
  exact ⟨kept.1, fun locked => ⟨kept.2.lockMark.trans locked, fun a _ => kept.2.byte a⟩⟩

theorem State.placeOrRefuse_keepsLock (s : State) (rec : List Byte) (refusal : Option Code) (work : StoreWork)
    (may : refusal = none → (StoreRequest.mk (reqTag rec) work).touchesCalibration = true → s.store.locked = false) :
    KeepsLock s (s.placeOrRefuse rec refusal work).1 := by
  unfold State.placeOrRefuse
  split
  · exact .refl s
  · exact s.placeStore_keepsLock (may rfl)

/-- A record is taken by its owner, ended, and the taker moves on. -/
theorem State.takeKind_keepsLock (s : State) (kind : Nat) {owner : OwnerAct} (h : ∀ rec, KeepsLock s (owner rec s).1) :
    KeepsLock s (s.takeKind kind owner) := by
  have ended : ∀ (t : State) rec e, KeepsLock t (t.ended rec e) := fun t rec e =>
    .of_eq ((t.ended_within rec e).store_eq (by decide))
  unfold State.takeKind
  split
  · exact .refl s
  · unfold State.takeRecord
    split
    · exact ended s _ _
    · exact (h _).trans (ended _ _ _)

theorem checkProgram_locked {s : State} {rec : List Byte} (passes : checkProgram s rec = none)
    (calibration : blockOf (fieldAt rec 8 4) = 0) : s.store.locked = false := by
  unfold checkProgram at passes
  extract_lets offset length at passes
  split at passes; · exact nomatch passes
  split at passes; · exact nomatch passes
  split at passes
  · exact nomatch passes
  · rename_i refused
    exact Bool.eq_false_of_not_eq_true fun locked => refused ⟨calibration, locked⟩

theorem checkErase_locked {s : State} {rec : List Byte} (passes : checkErase s rec = none)
    (calibration : byteAt rec 6 = 0) : s.store.locked = false := by
  unfold checkErase at passes
  split at passes; · exact nomatch passes
  split at passes
  · exact nomatch passes
  · rename_i refused
    exact Bool.eq_false_of_not_eq_true fun locked => refused ⟨calibration, locked⟩

/-! ### The ends of the operations (R42 to R45) -/

/-- While an operation is in progress, what is to run is that operation and then the queue. -/
theorem State.LockSafe.ordered_op {s : State} (safe : s.LockSafe) {op : StoreOp} (running : s.store.op = some op) :
    lockOrdered s.store.lockMark (op.request :: s.store.queue) = true := by
  have ordered := safe.ordered
  rwa [Store.work, running] at ordered

/-- An operation that changes block 0 is in progress only while the lock is clear. -/
theorem State.LockSafe.not_touches {s : State} (safe : s.LockSafe) {op : StoreOp} (running : s.store.op = some op)
    (locked : s.store.lockMark = true) : op.request.touchesCalibration = false := by
  have ordered := safe.ordered_op running
  rw [lockOrdered_cons, Bool.and_eq_true, locked] at ordered
  simpa using ordered.1

/-- A completion that leaves lock and queue, and block 0 where the lock is set, as they are. -/
theorem KeepsLock.finish {s t : State} {op : StoreOp} (running : s.store.op = some op) (code : Code)
    (mark : t.store.lockMark = s.store.lockMark) (copy : t.store.lockCopy = s.store.lockCopy)
    (queue : t.store.queue = s.store.queue)
    (bytes : op.request.touchesCalibration = false → ∀ a, a < 65536 → t.store.byte a = s.store.byte a) :
    KeepsLock s (t.finishStore op.request code) := by
  intro safe
  have ordered : lockOrdered t.store.lockMark t.store.queue = true := by
    rw [mark, queue]
    exact lockOrdered_tail (safe.ordered_op running)
  obtain ⟨safeT, same⟩ := State.finishStore_lockSafe op.request code (by rw [copy, mark, safe.copy]) ordered
  refine ⟨safeT, fun locked => ⟨by rw [same.lockMark, mark, locked], fun a low => ?_⟩⟩
  rw [same.byte, bytes (safe.not_touches running locked) a low]

theorem blockOf_of_low {a : Nat} (low : a < 65536) : blockOf a = 0 := Nat.div_eq_of_lt low

/-- Setting bytes changes the listed bytes alone. -/
theorem Store.setBytes_eq (st : Store) (offset : Nat) (bs : List Byte) :
    st.setBytes offset bs = { st with cells := (st.setBytes offset bs).cells } := by
  induction bs generalizing st offset with
  | nil => rfl
  | cons v rest ih =>
    rw [Store.setBytes, ih]

theorem State.endProgram_keepsLock (s : State) {op : StoreOp} {offset length source : Nat} (running : s.store.op = some op)
    (work : op.request.work = .program offset length source) : KeepsLock s (s.endProgram op offset) := by
  have outside : op.request.touchesCalibration = false → ∀ a, a < 65536 → ∀ bs : List Byte,
      (s.store.setBytes offset bs).byte a = s.store.byte a := by
    intro other a low bs
    rw [StoreRequest.touchesCalibration, work] at other
    have high : 65536 ≤ offset := by
      by_contra small
      simp [blockOf_of_low (Nat.lt_of_not_le small)] at other
    exact s.store.byte_setBytes_outside offset bs (.inl (Nat.lt_of_lt_of_le low high))
  unfold State.endProgram
  extract_lets result block s1
  have mark : s1.store.lockMark = s.store.lockMark := by
    change (s.store.setBytes offset result.1).lockMark = _
    rw [Store.setBytes_eq]
  have copy : s1.store.lockCopy = s.store.lockCopy := by
    change (s.store.setBytes offset result.1).lockCopy = _
    rw [Store.setBytes_eq]
  have queue : s1.store.queue = s.store.queue := by
    change (s.store.setBytes offset result.1).queue = _
    rw [Store.setBytes_eq]
  have bytes : op.request.touchesCalibration = false → ∀ a, a < 65536 → s1.store.byte a = s.store.byte a :=
    fun other a low => outside other a low result.1
  clear_value s1
  split
  · exact .finish running .ok mark copy queue bytes
  · exact .finish running .verifyFail (by simpa using mark) (by simpa using copy) (by simpa using queue) (by simpa using bytes)

theorem State.endErase_keepsLock (s : State) {op : StoreOp} {block : Nat} (running : s.store.op = some op)
    (work : op.request.work = .erase block) : KeepsLock s (s.endErase op block) := by
  refine .finish running .ok rfl rfl rfl fun other a low => ?_
  rw [StoreRequest.touchesCalibration, work] at other
  refine Store.byte_wipeBlock_other s.store none fun same => ?_
  rw [blockOf_of_low low] at same
  simp [← same] at other

theorem State.endRead_keepsLock (s : State) {op : StoreOp} (running : s.store.op = some op) (offset length : Nat) :
    KeepsLock s (s.endRead op offset length) := by
  unfold State.endRead
  split
  · exact .finish running .ok rfl rfl rfl fun _ _ _ => rfl
  · exact .finish running .blockIncomplete (by simp) (by simp) (by simp) (by simp)

/-- The lock is set by the operation that had it next to run, so nothing behind it changes block 0. -/
theorem State.endLock_keepsLock (s : State) {op : StoreOp} (running : s.store.op = some op) (work : op.request.work = .lock) :
    KeepsLock s (s.endLock op) := by
  intro safe
  obtain ⟨safeT, same⟩ := State.finishStore_lockSafe (s := { s with store.lockMark := true, store.lockCopy := true })
    op.request .ok rfl (lockOrdered_of_lock (safe.ordered_op running) work)
  exact ⟨safeT, fun _ => ⟨same.lockMark, fun a _ => same.byte a⟩⟩

/-! ### Stagings and suspension (R48, R49) -/

/-- Source bytes arrive for the operation in progress, whose request stays. -/
theorem Store.takeSource_eq (st : Store) (bytes : List Byte) (now : Time) :
    ∃ op, st.takeSource bytes now = { st with op := op } ∧ op.map StoreOp.request = st.op.map StoreOp.request := by
  unfold Store.takeSource
  split
  · exact ⟨st.op, rfl, rfl⟩
  · rename_i op running
    extract_lets op1
    split
    · exact ⟨_, rfl, by rw [running]; rfl⟩
    · exact ⟨_, rfl, by rw [running]; rfl⟩

/-- An operation's record changes and its request does not. -/
theorem KeepsLock.of_sameRequest {s t : State} {op : Option StoreOp} {transfers : List Transfer}
    (h : t.store = { s.store with op := op, transfers := transfers })
    (request : op.map StoreOp.request = s.store.op.map StoreOp.request) : KeepsLock s t := by
  have present : op = none ↔ s.store.op = none := by
    rw [← Option.map_eq_none_iff (f := StoreOp.request), request, Option.map_eq_none_iff]
  refine .of_sameContent ?_ fun safe => ⟨?_, ?_, ?_, ?_⟩ <;> rw [h]
  · exact ⟨rfl, rfl, rfl⟩
  · exact safe.copy
  · rw [Store.work, request]
    exact safe.ordered
  · intro idle
    exact ⟨present.2 (safe.idle idle).1, (safe.idle idle).2⟩
  · intro g since held running
    rcases safe.running g since held running with ⟨reading, none⟩ | ⟨suspended, some⟩
    · exact .inl ⟨reading, present.2 none⟩
    · exact .inr ⟨suspended, fun gone => some (present.1 gone)⟩

theorem State.grantStore_keepsLock (s : State) : KeepsLock s s.grantStore := by
  unfold State.grantStore
  split
  · exact .refl s
  · exact .of_sameRequest (op := s.store.op) rfl rfl
  · rename_i addr len rest _
    extract_lets store s1
    obtain ⟨op, eq, request⟩ := s1.store.takeSource_eq (s.dram.readBytes addr len) s.time
    exact .of_sameRequest eq request

/-- A staging that waits, or has had suspension asked for, may replace one that the store holds while it is not IDLE. -/
theorem KeepsLock.of_staging {s t : State} {g : Staging} (h : t.store = { s.store with staging := some g })
    (busy : s.store.state ≠ .idle) (waits : ∀ since, g.phase ≠ .running since) : KeepsLock s t := by
  refine .of_stages ?_
  unfold StagesOnly
  rw [h]
  exact Store.stagedFrom_put busy waits

theorem Store.not_idle_of_suspendable {st : Store} (h : st.suspendable = true) : st.state ≠ .idle := by
  intro idle
  simp [Store.suspendable, idle] at h

theorem execSuspensionAsk_keepsLock {s t : State} (h : execSuspensionAsk s = .next t) : KeepsLock s t := by
  unfold execSuspensionAsk at h
  split at h
  · split at h <;> cases h
    · rename_i op g _ _ may
      exact .of_staging rfl (Store.not_idle_of_suspendable may.1) (by simp)
    · exact .refl s
  · cases h
    exact .refl s

/-- A suspended operation stands beside the staging that runs, and its request stays the first of the work. -/
theorem State.suspend_keepsLock (s : State) {op : StoreOp} {g : Staging} (running : s.store.op = some op) :
    KeepsLock s { s with store := s.store.suspend op g s.time } := by
  have suspended : ∀ st : StoreState, (if st = .erasing then StoreState.suspendedErase else .suspendedProgram) ≠ .idle ∧
      ((if st = .erasing then StoreState.suspendedErase else .suspendedProgram) = .suspendedProgram ∨
        (if st = .erasing then StoreState.suspendedErase else .suspendedProgram) = .suspendedErase) := by
    intro st
    split <;> simp
  refine .of_sameContent ⟨rfl, rfl, rfl⟩ fun safe => ?_
  have ordered : lockOrdered s.store.lockMark (op.request :: s.store.queue) = true := safe.ordered_op running
  refine ⟨safe.copy, ordered, fun idle => ?_, fun _ _ _ _ => .inr ?_⟩
  · exact absurd idle (suspended _).1
  · exact ⟨(suspended _).2, by simp [Store.suspend]⟩

theorem execSuspensionTakesEffect_keepsLock {s t : State} (h : execSuspensionTakesEffect s = .next t) : KeepsLock s t := by
  unfold execSuspensionTakesEffect at h
  split at h
  · rename_i op g running _
    split at h
    · split at h <;> cases h
      · exact s.suspend_keepsLock running
      · exact .refl s
    all_goals cases h; exact .refl s
  · cases h
    exact .refl s

theorem State.resume_keepsLock (s : State) {op : StoreOp} (running : s.store.op = some op) :
    KeepsLock s { s with store := s.store.resume op s.time } := by
  refine .of_sameContent ⟨rfl, rfl, rfl⟩ fun safe => ?_
  have ordered : lockOrdered s.store.lockMark (op.request :: s.store.queue) = true := safe.ordered_op running
  refine ⟨safe.copy, ordered, fun idle => ?_, fun g _ held => (nomatch held)⟩
  change (if s.store.state = .suspendedErase then StoreState.erasing else .programming) = .idle at idle
  split at idle <;> exact nomatch idle

/-- The store goes on after the staging that ran: the operation beside it resumes, or none was in progress. -/
theorem State.afterStaging_keepsLock (s : State) {g : Staging} {since : Time} (held : s.store.staging = some g)
    (phase : g.phase = .running since) : KeepsLock s s.afterStaging := by
  unfold State.afterStaging
  split
  · rename_i op _ running
    exact s.resume_keepsLock running
  · rename_i op _ running
    exact s.resume_keepsLock running
  · rename_i notProgram notErase
    intro safe
    have none : s.store.op = none := by
      rcases safe.running g since held phase with ⟨_, none⟩ | ⟨program | erase, some⟩
      · exact none
      · obtain ⟨op, running⟩ := Option.ne_none_iff_exists'.1 some
        exact (notProgram op program running).elim
      · obtain ⟨op, running⟩ := Option.ne_none_iff_exists'.1 some
        exact (notErase op erase running).elim
    have ordered : lockOrdered s.store.lockMark s.store.queue = true := by
      have all := safe.ordered
      rwa [Store.work, none] at all
    obtain ⟨safeT, same⟩ := State.startQueued_lockSafe (s := { s with store.staging := .none })
      ⟨safe.copy, ordered, none, rfl⟩
    exact ⟨safeT, fun locked => ⟨same.lockMark.trans locked, fun a _ => same.byte a⟩⟩

theorem execStagingComplete_keepsLock {s t : State} (h : execStagingComplete s = .next t) : KeepsLock s t := by
  unfold execStagingComplete at h
  split at h
  · cases h
    exact .refl s
  · rename_i g held
    split at h
    · rename_i since phase
      split at h <;> cases h
      · have answered : (s.stagedAnswer g).store = s.store := (s.stagedAnswer_within g).store_eq (by decide)
        exact ((KeepsLock.of_eq answered).trans (State.afterStaging_keepsLock _ (answered ▸ held) phase)).trans
          (.of_stages (State.settle_stages _))
      · exact .refl s
    all_goals cases h; exact .refl s

/-! ### Resets and the load (R51, R55, R61) -/

/-- A reset leaves the block of a program or erase in no defined state, and that is not block 0 once the lock is set. -/
theorem State.afterReset_keepsLock (s : State) : KeepsLock s s.afterReset := by
  intro safe
  refine ⟨⟨rfl, rfl, fun _ => ⟨rfl, rfl, rfl⟩, fun _ _ held => (nomatch held)⟩, fun locked => ⟨locked, fun a low => ?_⟩⟩
  change (s.store.afterReset).byte a = _
  unfold Store.afterReset
  extract_lets kept
  change kept.byte a = _
  unfold kept
  split
  · rfl
  · rename_i b target
    obtain ⟨op, running, block⟩ := Option.bind_eq_some_iff.1 target
    have other := safe.not_touches running locked
    refine Store.byte_wipeBlock_other s.store _ fun same => ?_
    rw [blockOf_of_low low] at same
    subst same
    unfold StoreOp.target at block
    unfold StoreRequest.touchesCalibration at other
    split at block <;> rename_i work <;> simp_all

/-- The store enters IDLE at the close of the load: a staging that the close has accepted runs from then on, with no operation
in progress. -/
theorem KeepsLock.of_entersIdle {s t : State} {now : Time} (h : t.store = s.store.heldByLoad.entersIdle now) :
    KeepsLock s t := by
  intro safe
  refine KeepsLock.trans (t := t) ?_ (.refl t) safe
  cases staging : s.store.staging with
  | none => exact .of_eq (h.trans (s.store.entersIdle_heldByLoad_none now staging))
  | some g =>
    cases op : s.store.op with
    | none =>
      rw [s.store.entersIdle_heldByLoad_some now g staging op] at h
      refine .of_sameContent ?_ fun safe => ⟨?_, ?_, fun idle => ?_, fun _ _ _ _ => .inl ?_⟩
      · rw [h]
        exact ⟨rfl, rfl, rfl⟩
      · rw [h]
        exact safe.copy
      · rw [h]
        exact safe.ordered
      · rw [h] at idle
        exact nomatch idle
      · rw [h]
        exact ⟨rfl, op⟩
    | some x =>
      have busy : s.store.state ≠ .idle := fun idle => by simp [(safe.idle idle).1] at op
      refine .of_eq (h.trans ?_)
      simp only [Store.heldByLoad, staging, op, Store.entersIdle]
      split
      · rename_i idle _
        exact absurd idle busy
      · rfl

theorem State.closeLoad_keepsLock (s : State) (st : StartupState) : KeepsLock s (s.closeLoad st) := by
  unfold State.closeLoad
  extract_lets entered engine s1 s2
  have started : KeepsLock s s1 := by
    refine KeepsLock.of_stages ((State.startReverse_stages _).after ?_)
    exact (s.enterRunning_within st).store_eq (by decide)
  have shown : s2.store = s1.store.heldByLoad := (State.startDisplays_within _).store_eq (by decide)
  clear_value s2
  exact started.trans (.of_entersIdle (now := s2.time) (congrArg (Store.entersIdle · s2.time) shown))

theorem State.loadProtection_keepsLock (s : State) : KeepsLock s s.loadProtection := by
  unfold State.loadProtection
  extract_lets store startup s1
  have copied : KeepsLock s s1 := .of_sameContent ⟨rfl, rfl, rfl⟩ fun safe => ⟨rfl, safe.ordered, safe.idle, safe.running⟩
  refine copied.trans (.of_stages (StagesOnly.foldl (fun t b => ?_) _ s1))
  split
  · exact .of_eq (by simp)
  · exact .refl t

theorem State.loadLayout_keepsLock (s : State) : KeepsLock s s.loadLayout := by
  unfold State.loadLayout
  split
  · exact s.closeLoad_keepsLock _
  · exact .of_eq rfl

theorem State.loadCalibration_store (s : State) : s.loadCalibration.store = s.store := by
  unfold State.loadCalibration
  split <;> rfl

theorem execLoadStepComplete_keepsLock {s t : State} (h : execLoadStepComplete s = .next t) : KeepsLock s t := by
  unfold execLoadStepComplete at h
  split at h
  · obtain rfl := Host.Outcome.next.inj h
    exact .refl s
  split at h
  · obtain rfl := Host.Outcome.next.inj h
    exact s.loadProtection_keepsLock
  split at h
  · obtain rfl := Host.Outcome.next.inj h
    exact s.loadLayout_keepsLock
  split at h
  · obtain rfl := Host.Outcome.next.inj h
    exact .of_eq s.loadCalibration_store
  split at h <;> obtain rfl := Host.Outcome.next.inj h
  · exact .of_eq rfl
  · exact (State.closeLoad_keepsLock _ _).after (s.loadFallback_within.store_eq (by decide))

/-! ### Every command that changes the store -/

theorem State.grantTo_keepsLock (s : State) (c : Client) : KeepsLock s (s.grantTo c) := by
  cases c with
  | frontScan => exact .of_eq ((s.grantScan_within _).store_eq (by decide))
  | camera => exact .of_eq (s.grantCamera_within.store_eq (by decide))
  | rearLeftScan => exact .of_eq ((s.grantScan_within _).store_eq (by decide))
  | rearRightScan => exact .of_eq ((s.grantScan_within _).store_eq (by decide))
  | audio => exact .of_eq (s.grantAudio_within.store_eq (by decide))
  | report => exact .of_eq (s.grantReport_within.store_eq (by decide))
  | link => exact .of_eq (s.grantLink_within.store_eq (by decide))
  | store => exact s.grantStore_keepsLock

theorem execDramGrant_keepsLock {s t : State} (h : execDramGrant s = .next t) : KeepsLock s t := by
  unfold execDramGrant at h
  split at h <;> cases h
  · exact .refl s
  · refine KeepsLock.trans ?_ (.of_eq ((State.drain_within _).store_eq (by decide)))
    exact (State.grantTo_keepsLock _ _).after rfl

theorem execLossOfLink_keepsLock {s t : State} (h : execLossOfLink s = .next t) : KeepsLock s t := by
  unfold execLossOfLink at h
  split at h <;> cases h
  · refine KeepsLock.trans ?_ (.of_eq ((State.tellReverse_within _ _).store_eq (by decide)))
    exact .of_stages ((State.systemRestart_stages _).after rfl)
  · exact .refl s

theorem execSystemRestart_keepsLock {s t : State} (h : execSystemRestart s = .next t) : KeepsLock s t := by
  unfold execSystemRestart at h
  split at h <;> cases h
  · exact .refl s
  · exact .of_stages (s.takeSystemRestart_stages _)

theorem execStoreProgramComplete_keepsLock {s t : State} (h : execStoreProgramComplete s = .next t) : KeepsLock s t := by
  unfold execStoreProgramComplete at h
  split at h
  · cases h; exact .refl s
  · rename_i op running
    split at h
    · rename_i work
      split at h <;> cases h
      · exact s.endProgram_keepsLock running work
      · exact .refl s
    all_goals cases h; exact .refl s

theorem execStoreEraseComplete_keepsLock {s t : State} (h : execStoreEraseComplete s = .next t) : KeepsLock s t := by
  unfold execStoreEraseComplete at h
  split at h
  · cases h; exact .refl s
  · rename_i op running
    split at h
    · rename_i work
      split at h <;> cases h
      · exact s.endErase_keepsLock running work
      · exact .refl s
    all_goals cases h; exact .refl s

theorem execStoreReadComplete_keepsLock {s t : State} (h : execStoreReadComplete s = .next t) : KeepsLock s t := by
  unfold execStoreReadComplete at h
  split at h
  · cases h; exact .refl s
  · rename_i op running
    split at h
    · split at h <;> cases h
      · exact s.endRead_keepsLock running _ _
      · exact .refl s
    all_goals cases h; exact .refl s

theorem execLockWriteComplete_keepsLock {s t : State} (h : execLockWriteComplete s = .next t) : KeepsLock s t := by
  unfold execLockWriteComplete at h
  split at h
  · cases h; exact .refl s
  · rename_i op running
    split at h
    · rename_i work
      split at h <;> cases h
      · exact s.endLock_keepsLock running work
      · exact .refl s
    all_goals cases h; exact .refl s

theorem execChimeEnd_keepsLock {d : Display} {s t : State} (h : execChimeEnd d s = .next t) : KeepsLock s t := by
  unfold execChimeEnd at h
  split at h
  · split at h <;> cases h
    · exact .of_stages (s.endChime_stages d _)
    · exact .refl s
  all_goals cases h; exact .refl s

/-! Vehicle signals, reverse and the park pattern have stagings accepted and no more. -/

theorem execCanFrame_stages {ident : BitVec 11} {dlc : BitVec 4} {data : List Byte} {s t : State}
    (h : execCanFrame ident dlc data s = .next t) : StagesOnly s t := by
  unfold execCanFrame at h
  split at h
  · split at h <;> cases h
    · exact StagesOnly.foldl (State.offerFrame_stages _ _) _ s
    · exact .refl s
  · exact nomatch h

theorem execFreshnessExpiry_stages {g : Signal} {s t : State} (h : execFreshnessExpiry g s = .next t) : StagesOnly s t := by
  unfold execFreshnessExpiry at h
  split at h
  · split at h <;> cases h
    · exact s.expire_stages g _
    · exact .refl s
  · cases h; exact .refl s

theorem execStalePeriodEnd_stages {s t : State} (h : execStalePeriodEnd s = .next t) : StagesOnly s t := by
  unfold execStalePeriodEnd at h
  split at h
  · cases h; exact .refl s
  · split at h <;> cases h
    · exact (State.evaluateReverse_stages _).after rfl
    · exact .refl s

theorem execPinDebounceExpiry_stages {s t : State} (h : execPinDebounceExpiry s = .next t) : StagesOnly s t := by
  unfold execPinDebounceExpiry at h
  split at h <;> cases h
  · exact (State.evaluateReverse_stages _).after rfl
  · exact .refl s

theorem execParkOfferTime_stages {s t : State} (h : execParkOfferTime s = .next t) : StagesOnly s t := by
  unfold execParkOfferTime at h
  split at h
  · split at h <;> cases h
    · exact (State.offerBeep_stages _).after rfl
    · exact .refl s
  · cases h; exact .refl s

theorem exec_keepsLock {c : Instr} {s t : State} (h : exec c s = .next t) : KeepsLock s t := by
  cases c with
  | powerOnReset => cases h; exact s.afterReset_keepsLock
  | pinReset => cases h; exact s.afterReset_keepsLock
  | loadStepComplete => exact execLoadStepComplete_keepsLock h
  | lossOfLink => exact execLossOfLink_keepsLock h
  | dramGrant => exact execDramGrant_keepsLock h
  | playChime => cases h; exact s.takeKind_keepsLock 14 fun rec => .of_stages (ownPlayChime_stages rec s)
  | stopChimes => cases h; exact s.takeKind_keepsLock 15 fun rec => .of_stages (ownStopChimes_stages rec s)
  | storeRead =>
    cases h
    exact s.takeKind_keepsLock 16 fun rec => s.placeOrRefuse_keepsLock rec _ _ fun _ touches => nomatch touches
  | storeProgram =>
    cases h
    exact s.takeKind_keepsLock 17 fun rec => s.placeOrRefuse_keepsLock rec _ _ fun passes touches =>
      checkProgram_locked passes (by simpa [StoreRequest.touchesCalibration] using touches)
  | storeErase =>
    cases h
    exact s.takeKind_keepsLock 18 fun rec => s.placeOrRefuse_keepsLock rec _ _ fun passes touches =>
      checkErase_locked passes (by simpa [StoreRequest.touchesCalibration] using touches)
  | storeLockCalibration =>
    cases h
    exact s.takeKind_keepsLock 19 fun rec => s.placeOrRefuse_keepsLock rec _ _ fun _ touches => nomatch touches
  | systemRestart => exact execSystemRestart_keepsLock h
  | storeProgramComplete => exact execStoreProgramComplete_keepsLock h
  | storeEraseComplete => exact execStoreEraseComplete_keepsLock h
  | storeReadComplete => exact execStoreReadComplete_keepsLock h
  | lockWriteComplete => exact execLockWriteComplete_keepsLock h
  | suspensionAsk => exact execSuspensionAsk_keepsLock h
  | suspensionTakesEffect => exact execSuspensionTakesEffect_keepsLock h
  | stagingComplete => exact execStagingComplete_keepsLock h
  | canFrame ident dlc data => exact .of_stages (execCanFrame_stages h)
  | freshnessExpiry g => exact .of_stages (execFreshnessExpiry_stages h)
  | stalePeriodEnd => exact .of_stages (execStalePeriodEnd_stages h)
  | pinDebounceExpiry => exact .of_stages (execPinDebounceExpiry_stages h)
  | parkOfferTime => exact .of_stages (execParkOfferTime_stages h)
  | chimeEnd d => exact execChimeEnd_keepsLock h
  | displayFrameBoundary d =>
    have changed := exec_within _ s _ h
    cases d <;> exact .of_eq (changed.store_eq (by decide))
  | _ => exact .of_eq ((exec_within _ s _ h).store_eq (by simp [footprint, requestParts]))

/-- Settles O60: each command keeps the order of the store's work, and with the lock set that order lets no program, erase or
reset reach block 0. -/
theorem lockedCalibrationNeverChanges : Obligations.LockedCalibrationNeverChanges := by
  intro s t safe stepped
  cases pending : s.pending with
  | nil =>
    rw [stepRunsFrontCommand.2 s pending] at stepped
    cases stepped
    exact KeepsLock.of_eq (s := s) rfl safe
  | cons c rest =>
    rw [stepRunsFrontCommand.1 c rest s pending] at stepped
    exact (exec_keepsLock stepped).after rfl safe

end Sys2Proof.Machine

end

/-! ## Proofs: the report writer keeps its bounds

Ring indices, the lost count and the fault counters stay in their ranges (R28 to R30) whatever posts a report or raises a fault.
The five elementary operations first, then everything that is made of them. -/

section

namespace Sys2Proof.Machine

/-! ### The bounds and the elementary operations -/

/-- Ring indices below 128, lost count and counters at most 65,535 (R26, R28, R30). -/
structure ReportWriter.InBounds (rw : ReportWriter) : Prop where
  ring : rw.producer < 128 ∧ rw.consumer < 128
  lost : rw.lost ≤ 65535
  counters : ∀ k, (rw.fault k).counter ≤ 65535

/-- The report writer's bounds are kept from `s` to `t`. -/
def RwKept (s t : State) : Prop := s.rw.InBounds → t.rw.InBounds

theorem RwKept.refl (s : State) : RwKept s s := id

theorem RwKept.trans {s t u : State} (h : RwKept s t) (g : RwKept t u) : RwKept s u := g ∘ h

theorem RwKept.of_eq {s t : State} (same : t.rw = s.rw) : RwKept s t := fun h => by rwa [same]

theorem RwKept.of_within {ps : List Part} {s t : State} (h : Within ps s t) (hp : .rw ∉ ps) : RwKept s t := .of_eq (h .rw hp)

theorem Within.rw_eq {ps : List Part} {s t : State} (h : Within ps s t) (hp : .rw ∉ ps) : t.rw = s.rw := h .rw hp

/-- An update before the operation that does not change the report writer. -/
theorem RwKept.after {s t u : State} (h : RwKept t u) (same : t.rw = s.rw) : RwKept s u := (RwKept.of_eq same).trans h

/-- An update after the operation that does not change the report writer. -/
theorem RwKept.then {s t u : State} (h : RwKept s t) (same : u.rw = t.rw) : RwKept s u := h.trans (.of_eq same)

theorem RwKept.foldl {α : Type} {f : State → α → State} (h : ∀ s x, RwKept s (f s x)) (xs : List α) (s : State) :
    RwKept s (xs.foldl f s) := by
  induction xs generalizing s with
  | nil => exact .refl s
  | cons x xs ih => exact (h s x).trans (ih (f s x))

/-- Writes presented, and what else leaves indices, counts and fault records, leave the bounds. -/
theorem ReportWriter.InBounds.queue {rw : ReportWriter} (h : rw.InBounds) (q : List DeviceWrite) :
    { rw with queue := q }.InBounds := ⟨h.ring, h.lost, h.counters⟩

theorem State.present_rwKept (s : State) (addr : Nat) (bytes : List Byte) (u : Bool) : RwKept s (s.present addr bytes u) :=
  fun h => h.queue _

theorem State.statusNow_rwKept (s : State) (offset : Nat) (bytes : List Byte) : RwKept s (s.statusNow offset bytes) := by
  unfold State.statusNow
  split
  · exact .refl s
  · exact s.present_rwKept _ _ _

theorem State.placeReport_rwKept (s : State) (r : Report) : RwKept s (s.placeReport r) := by
  unfold State.placeReport
  split
  · exact .refl s
  · exact fun h => ⟨⟨Nat.mod_lt _ (by decide), h.ring.2⟩, h.lost, h.counters⟩

theorem State.post_rwKept (s : State) (r : Report) : RwKept s (s.post r) := by
  unfold State.post
  split
  · exact .refl s
  · split
    · exact s.placeReport_rwKept r
    · exact fun h => ⟨h.ring, Nat.min_le_right _ _, h.counters⟩

theorem FaultRecord.occur_counter (f : FaultRecord) (detail : Nat) : (f.occur detail).counter ≤ 65535 := by
  unfold FaultRecord.occur
  split <;> exact Nat.min_le_right _ _

/-- Replacing a kind's record by one whose counter is in bounds. -/
theorem ReportWriter.InBounds.putFault {rw : ReportWriter} (h : rw.InBounds) (k : FaultKind) {v : FaultRecord}
    (bound : v.counter ≤ 65535) : (rw.putFault k v).InBounds := by
  refine ⟨h.ring, h.lost, fun j => ?_⟩
  rw [ReportWriter.fault_putFault]
  split
  · exact bound
  · exact h.counters j

theorem State.raise_rwKept (s : State) (k : FaultKind) (detail : Nat) : RwKept s (s.raise k detail) := by
  unfold State.raise
  extract_lets before after s1
  have counted : RwKept s s1 := fun h => h.putFault k (FaultRecord.occur_counter _ _)
  split
  · exact counted.trans (s1.post_rwKept _)
  · exact counted

/-- A pass over the table that changes only the records of the kinds, each to one whose counter is in bounds. -/
theorem ReportWriter.InBounds.foldl_allFaultKinds {f g} {rw : ReportWriter} (h : rw.InBounds) (acts : ActsOnKind f g)
    (bound : ∀ k r, r.counter ≤ 65535 → (g k r).counter ≤ 65535) : (allFaultKinds.foldl f rw).InBounds := by
  have rest := acts.foldl_rest allFaultKinds rw
  refine ⟨?_, ?_, fun k => ?_⟩
  · rw [← rest] at h
    exact h.ring
  · rw [← rest] at h
    exact h.lost
  · rw [acts.foldl_all]
    exact bound k _ (h.counters k)

theorem State.setFaultMask_rwKept (s : State) (mask : Nat) : RwKept s (s.setFaultMask mask) := by
  unfold State.setFaultMask
  extract_lets posted masked
  refine RwKept.trans (t := { s with rw := masked }) (fun h => ?_) (RwKept.foldl (fun t k => ?_) _ _)
  · exact h.foldl_allFaultKinds (actsOnKind_putFault fun k r => { r with masked := mask.testBit k.index.val }) fun _ _ b => b
  · unfold posted
    split
    · exact t.post_rwKept _
    · exact .refl t

theorem State.clearFaults_rwKept (s : State) (selection : Nat) : RwKept s (s.clearFaults selection) := fun h =>
  h.foldl_allFaultKinds
    ((actsOnKind_putFault fun _ r => { r with flag := false, detail := 0, counter := 0 }).onSelected
      fun k => selection.testBit k.index.val = true)
    fun _ _ bound => by
      split
      · exact Nat.zero_le _
      · exact bound

theorem ReportWriter.InBounds.restart {rw : ReportWriter} (h : rw.InBounds) : rw.restart.InBounds :=
  ReportWriter.InBounds.foldl_allFaultKinds (rw := { rw with producer := 0, consumer := 0, lost := 0 })
    ⟨⟨Nat.zero_lt_succ _, Nat.zero_lt_succ _⟩, Nat.zero_le _, h.counters⟩
    (actsOnKind_putFault fun _ r => { r with flag := false, detail := 0, masked := true }) fun _ _ bound => bound

theorem State.takeReportConsumer_rwKept (s : State) (v : BitVec 32) : RwKept s (s.takeReportConsumer v) := by
  unfold State.takeReportConsumer
  split
  · exact s.raise_rwKept _ _
  · rename_i small
    split
    · exact s.raise_rwKept _ _
    · extract_lets rw s1
      have taken : RwKept s s1 := fun h => ⟨⟨h.ring.1, Nat.lt_of_not_le small⟩, h.lost, h.counters⟩
      split
      · refine taken.trans (RwKept.trans (t := { s1 with rw.lost := 0 }) ?_ (State.placeReport_rwKept _ _))
        exact fun h => ⟨h.ring, Nat.zero_le _, h.counters⟩
      · exact taken

theorem State.presentAll_rwKept (s : State) (addr : Nat) (bytes : List Byte) (u : Bool) :
    RwKept s (s.presentAll addr bytes u) := RwKept.foldl (fun t _ => t.present_rwKept _ _ _) _ s

theorem State.fullRewrite_rwKept (s : State) (u : Bool) : RwKept s (s.fullRewrite u) := by
  unfold State.fullRewrite
  split
  · exact .refl s
  · extract_lets shot s1 s2 s3
    have rewritten : RwKept s s3 :=
      ((s.present_rwKept _ _ _).trans (s1.presentAll_rwKept _ _ _)).trans (s2.present_rwKept _ _ _)
    clear_value s3
    exact rewritten.trans fun h => ⟨h.ring, h.lost, h.counters⟩

theorem State.writeIdentity_rwKept (s : State) : RwKept s s.writeIdentity := by
  unfold State.writeIdentity
  split
  · exact .refl s
  · exact s.present_rwKept _ _ _

/-! ### The store controller -/

theorem State.completeStore_rwKept (s : State) (r : StoreRequest) (code : Code) : RwKept s (s.completeStore r code) := by
  unfold State.completeStore
  extract_lets store s1
  refine RwKept.trans ?_ (State.post_rwKept _ _)
  exact ((s1.statusNow_rwKept _ _).trans (State.statusNow_rwKept _ _ _)).after rfl

theorem State.startStore_rwKept (s : State) (r : StoreRequest) : RwKept s (s.startStore r).1 := by
  unfold State.startStore
  split
  · exact .of_eq rfl
  · exact (RwKept.of_within (State.invalidateStaged_within _ _) (by decide)).after rfl
  · exact (RwKept.of_within (State.invalidateStaged_within _ _) (by decide)).after rfl
  · split
    · exact s.completeStore_rwKept r .ok
    · exact .of_eq rfl

theorem State.startQueued_rwKept (q : List StoreRequest) (s : State) : RwKept s (State.startQueued q s) := by
  induction q generalizing s with
  | nil => exact .of_eq rfl
  | cons r rest ih =>
    have started : RwKept s ({ s with store.queue := rest }.startStore r).1 := (State.startStore_rwKept _ r).after rfl
    unfold State.startQueued
    split <;> rename_i eq <;> rw [eq] at started
    · exact started.trans (ih _)
    · exact started

theorem State.finishStore_rwKept (s : State) (r : StoreRequest) (code : Code) : RwKept s (s.finishStore r code) := by
  unfold State.finishStore State.continueStore
  refine (s.completeStore_rwKept r code).trans ?_
  split
  · exact .of_eq rfl
  · exact State.startQueued_rwKept _ _

theorem State.placeStore_rwKept (s : State) (r : StoreRequest) : RwKept s (s.placeStore r) := by
  unfold State.placeStore
  split
  · exact State.startQueued_rwKept _ s
  · exact .of_eq rfl

theorem State.endProgram_rwKept (s : State) (op : StoreOp) (offset : Nat) : RwKept s (s.endProgram op offset) := by
  unfold State.endProgram
  extract_lets result block s1
  have programmed : RwKept s s1 := .of_eq rfl
  split
  · exact programmed.trans (s1.finishStore_rwKept _ _)
  · exact (programmed.trans (s1.raise_rwKept _ _)).trans (State.finishStore_rwKept _ _ _)

theorem State.endRead_rwKept (s : State) (op : StoreOp) (offset length : Nat) : RwKept s (s.endRead op offset length) := by
  unfold State.endRead
  split
  · exact s.finishStore_rwKept _ _
  · exact (s.raise_rwKept _ _).trans (State.finishStore_rwKept _ _ _)

theorem State.afterStaging_rwKept (s : State) : RwKept s s.afterStaging := by
  unfold State.afterStaging
  split
  · exact .of_eq rfl
  · exact .of_eq rfl
  · exact (State.startQueued_rwKept _ _).after rfl

/-! ### Chimes -/

theorem State.unstageableAnswer_rwKept (s : State) (d : Display) (c : Chime) (k : Clip) :
    RwKept s (s.unstageableAnswer d c k) := by
  unfold State.unstageableAnswer
  extract_lets s1
  have raised : RwKept s s1 := s.raise_rwKept _ _
  split <;> exact raised.then rfl

theorem State.claimBuffer_rwKept (s : State) (d : Display) (c : Chime) (k : Clip) : RwKept s (s.claimBuffer d c k) := by
  unfold State.claimBuffer
  split
  · exact .of_eq rfl
  · split
    · exact s.unstageableAnswer_rwKept d c k
    · exact (RwKept.of_within (State.acceptStaging_within _ _ _ _) (by decide)).after rfl

theorem State.startChime_rwKept (s : State) (d : Display) (c : Chime) : RwKept s (s.startChime d c) := by
  unfold State.startChime
  split
  · exact (s.raise_rwKept _ _).then rfl
  · split
    · exact .of_eq rfl
    · split
      · exact s.claimBuffer_rwKept d c _
      · exact .of_eq rfl

theorem State.serveWaiter_rwKept (s : State) (d : Display) (rest : List Display) : RwKept s (s.serveWaiter d rest) := by
  unfold State.serveWaiter
  extract_lets audio buffer s1
  have left : RwKept s s1 := .of_eq rfl
  split
  · split
    · exact left.trans (s1.claimBuffer_rwKept d _ _)
    · exact left
  · exact left
  · exact left

theorem State.settleChimes_rwKept (n : Nat) (s : State) : RwKept s (State.settleChimes n s) := by
  induction n generalizing s with
  | zero => exact .refl s
  | succ n ih =>
    unfold State.settleChimes
    split
    · split
      · exact .refl s
      · exact (s.serveWaiter_rwKept _ _).trans (ih _)
    · split
      · exact .refl s
      · split
        · exact .refl s
        · refine RwKept.trans ?_ (ih _)
          exact (State.startChime_rwKept _ _ _).after rfl

theorem State.settle_rwKept (s : State) : RwKept s s.settle := State.settleChimes_rwKept _ s

theorem State.offerChime_rwKept (s : State) (d : Display) (clip priority : Nat) (owner : ChimeOwner) :
    RwKept s (s.offerChime d clip priority owner).state := by
  unfold State.offerChime
  extract_lets inPlayer preempts stopped s1
  have left : RwKept s s1 := by
    unfold s1
    split
    · exact .of_eq rfl
    · exact .refl s
  split
  · exact left.trans s1.settle_rwKept
  · exact left.trans ((State.settle_rwKept _).after rfl)

theorem State.offerBeep_rwKept (s : State) : RwKept s s.offerBeep := by
  unfold State.offerBeep
  split
  · exact .refl s
  · exact s.offerChime_rwKept _ _ _ _

theorem State.chooseBand_rwKept (s : State) : RwKept s s.chooseBand := by
  have enter : ∀ b ms, RwKept s (s.enterInterval b ms) := fun b ms => (State.offerBeep_rwKept _).after rfl
  unfold State.chooseBand
  extract_lets old
  split
  · exact .of_eq rfl
  · split
    · exact .refl s
    · split
      · exact (State.offerBeep_rwKept _).after rfl
      · split
        · extract_lets next
          split
          · exact enter _ _
          · exact .of_eq rfl
        · exact enter _ _

theorem State.beepStopped_rwKept (s : State) : RwKept s s.beepStopped := by
  unfold State.beepStopped
  split
  · exact s.offerBeep_rwKept
  · exact .refl s

theorem State.offerAndTell_rwKept (s : State) (d : Display) (clip priority : Nat) (owner : ChimeOwner) :
    RwKept s (s.offerAndTell d clip priority owner).1 := by
  have offered := s.offerChime_rwKept d clip priority owner
  unfold State.offerAndTell
  extract_lets o
  split
  · exact offered.trans (State.beepStopped_rwKept _)
  · exact offered

theorem State.offerTone_rwKept (s : State) : RwKept s s.offerTone := by
  unfold State.offerTone
  split
  · exact .refl s
  · exact s.offerAndTell_rwKept _ _ _ _

theorem State.endChime_rwKept (s : State) (d : Display) (c : Chime) : RwKept s (s.endChime d c) := by
  unfold State.endChime
  extract_lets s1
  have left : RwKept s s1 := (State.settle_rwKept _).after rfl
  split
  · exact left.trans s1.beepStopped_rwKept
  · exact left

/-! ### Reverse and signals -/

theorem State.startPattern_rwKept (s : State) : RwKept s s.startPattern := by
  unfold State.startPattern
  split
  · exact (State.chooseBand_rwKept _).after rfl
  · exact .refl s

theorem State.toReverse_rwKept (s : State) (r : ReverseState) : RwKept s (s.toReverse r) := (State.post_rwKept _ _).after rfl

theorem State.cameraOff_rwKept (s : State) : RwKept s s.cameraOff := (State.toReverse_rwKept _ _).after rfl

theorem State.forcedPush_rwKept (s : State) : RwKept s s.forcedPush := by
  unfold State.forcedPush
  extract_lets v s1
  have raised : RwKept s s1 := (State.raise_rwKept _ _ _).after rfl
  split
  · exact raised.then rfl
  · exact .of_eq rfl

theorem State.reverseAsserted_rwKept (s : State) : RwKept s s.reverseAsserted := by
  unfold State.reverseAsserted
  split
  · refine RwKept.trans ?_ (State.startPattern_rwKept _)
    refine RwKept.trans ?_ (State.offerTone_rwKept _)
    exact s.forcedPush_rwKept.trans (State.toReverse_rwKept _ _)
  · refine RwKept.trans ?_ (State.post_rwKept _ _)
    exact (State.startPattern_rwKept _).after rfl
  · refine RwKept.trans ?_ (State.startPattern_rwKept _)
    refine RwKept.trans ?_ (State.offerTone_rwKept _)
    exact (State.toReverse_rwKept _ _).after rfl
  · exact .refl s

theorem State.reverseReleased_rwKept (s : State) : RwKept s s.reverseReleased := by
  unfold State.reverseReleased
  split
  · extract_lets stopped reverse s1
    have held : RwKept s s1 := (State.toReverse_rwKept _ _).after rfl
    split
    · exact held.trans s1.cameraOff_rwKept
    · exact held
  all_goals exact .refl s

theorem State.evaluateReverse_rwKept (s : State) : RwKept s s.evaluateReverse := by
  unfold State.evaluateReverse
  split
  · split
    · exact s.reverseAsserted_rwKept
    · split
      · exact s.reverseReleased_rwKept
      · exact .refl s
  · exact .refl s

theorem State.speedExit_rwKept (s : State) (v : Int) : RwKept s (s.speedExit v) := by
  unfold State.speedExit
  split
  · exact s.cameraOff_rwKept
  · exact .refl s

theorem State.refresh_rwKept (s : State) (e : AcceptEntry) (v : Int) : RwKept s (s.refresh e v) := by
  unfold State.refresh
  extract_lets deadline
  split
  · exact (State.evaluateReverse_rwKept _).after rfl
  · exact .of_eq rfl
  · exact (State.speedExit_rwKept _ _).after rfl
  · split
    · exact (State.chooseBand_rwKept _).after rfl
    · exact .of_eq rfl

theorem State.offerFrame_rwKept (ident : Nat) (data : List Byte) (s : State) (e : AcceptEntry) :
    RwKept s (State.offerFrame ident data s e) := by
  unfold State.offerFrame
  split
  · split
    · exact .refl s
    · exact s.refresh_rwKept e _
  · exact .refl s

theorem State.expire_rwKept (s : State) (g : Signal) (t : Time) : RwKept s (s.expire g t) := by
  unfold State.expire
  extract_lets r stale vehicle s1
  have told : RwKept s s1 := (State.raise_rwKept _ _ _).after rfl
  split
  · exact told
  · exact told
  · exact told
  · split
    · exact told.trans s1.chooseBand_rwKept
    · exact told

/-! ### Layers and displays -/

theorem State.release_rwKept (s : State) (d : Display) (l : ScanLayer) (e : QueueEntry) (shown : Nat) :
    RwKept s (s.release d l e shown) := by
  unfold State.release
  exact (State.post_rwKept _ _).after rfl

theorem State.releaseAll_rwKept (s : State) (d : Display) (l : ScanLayer) (es : List QueueEntry) :
    RwKept s (s.releaseAll d l es) := RwKept.foldl (fun t e => t.release_rwKept d l e 0) es s

theorem State.releaseCurrent_rwKept (s : State) (d : Display) (l : ScanLayer) (c : Option (QueueEntry × Nat)) :
    RwKept s (s.releaseCurrent d l c) := by
  unfold State.releaseCurrent
  split
  · exact .refl s
  · exact s.release_rwKept d l _ _

theorem State.dropHead_rwKept (s : State) (d : Display) (l : ScanLayer) : RwKept s (s.dropHead d l) := by
  unfold State.dropHead
  extract_lets v
  split
  · exact .refl s
  · exact (State.release_rwKept _ _ _ _ _).after rfl

theorem State.publish_rwKept (s : State) (d : Display) (l : ScanLayer) (e : QueueEntry) : RwKept s (s.publish d l e).1 := by
  unfold State.publish
  split
  · exact .of_eq rfl
  · extract_lets s1
    have raised : RwKept s s1 := s.raise_rwKept _ _
    split
    · exact (raised.trans (s1.dropHead_rwKept d l)).then rfl
    · exact raised

theorem State.applyRecord_rwKept (s : State) (d : Display) (l : ScanLayer) (new : LayerSetting) :
    RwKept s (s.applyRecord d l new) := by
  unfold State.applyRecord
  extract_lets v v1 v2
  split
  · rename_i s1 _
    have emptied : RwKept s s1 := .of_eq rfl
    exact (emptied.trans (s1.releaseCurrent_rwKept d l _)).trans (State.releaseAll_rwKept _ d l _)
  · exact .of_eq rfl

theorem State.applyStaged_rwKept (s : State) (d : Display) (l : ScanLayer) : RwKept s (s.applyStaged d l) := by
  unfold State.applyStaged
  split
  · exact .refl s
  · split
    · exact .refl s
    · exact s.applyRecord_rwKept d l _

theorem State.keepFrame_rwKept (s : State) (d : Display) (l : ScanLayer) : RwKept s (s.keepFrame d l) := by
  unfold State.keepFrame
  extract_lets v v1
  split
  · exact (State.raise_rwKept _ _ _).after rfl
  · exact .of_eq rfl

theorem State.selectFrame_rwKept (s : State) (d : Display) (l : ScanLayer) : RwKept s (s.selectFrame d l) := by
  unfold State.selectFrame
  extract_lets v run
  split
  · exact s.keepFrame_rwKept d l
  · extract_lets s1
    have chosen : RwKept s s1 := .of_eq rfl
    exact (chosen.trans (s1.releaseCurrent_rwKept d l _)).trans (State.releaseAll_rwKept _ d l _)

theorem State.boundaryLayers_rwKept (s : State) (d : Display) : RwKept s (s.boundaryLayers d) :=
  (((s.applyStaged_rwKept d _).trans (State.applyStaged_rwKept _ d _)).trans (State.selectFrame_rwKept _ d _)).trans
    (State.selectFrame_rwKept _ d _)

theorem State.frontWork_rwKept (s : State) (view : Option View) : RwKept s (s.frontWork view) := by
  unfold State.frontWork
  extract_lets compositor s1 s2
  have shown : RwKept s s1 := .of_eq rfl
  have watched : RwKept s1 s2 := by
    unfold s2 State.fallbackWatch
    split
    · split
      · exact .refl s1
      · exact (State.raise_rwKept _ _ _).after rfl
    · exact .of_eq rfl
    · exact .of_eq rfl
  exact (shown.trans watched).then rfl

theorem State.boundaryBuild_rw (s : State) (view : Option View) : (s.boundaryBuild view).rw = s.rw := by
  unfold State.boundaryBuild
  split <;> rfl

theorem State.boundary_rwKept (s : State) (d : Display) (u : Bool) : RwKept s (s.boundary d u) := by
  unfold State.boundary
  extract_lets s0 badVideo badMenu s1 view
  have layers : RwKept s s1 :=
    (RwKept.of_within (s.finishRow_within d) (by decide)).trans ((State.boundaryLayers_rwKept _ d).after rfl)
  split
  · rename_i s2 s3
    have rewritten : RwKept s1 (s2.fullRewrite u) := (s1.frontWork_rwKept view).trans (s2.fullRewrite_rwKept u)
    exact (layers.trans (rewritten.then (State.boundaryBuild_rw _ view))).then rfl
  · exact layers.then rfl
  · exact layers.then rfl

/-! ### The camera -/

theorem State.toAlign_rwKept (s : State) (a : Alignment) : RwKept s (s.toAlign a) := (State.post_rwKept _ _).after rfl

theorem State.closeErrored_rwKept (s : State) (n : Byte) : RwKept s (s.closeErrored n) := (State.raise_rwKept _ _ _).after rfl

theorem State.countErrored_rwKept (s : State) : RwKept s s.countErrored := by
  unfold State.countErrored
  split
  · split
    · exact (State.toAlign_rwKept _ _).after rfl
    · exact .of_eq rfl
  · exact .of_eq rfl
  · exact .refl s
  · exact .refl s

theorem State.takeFrameStart_rwKept (s : State) (n : Byte) : RwKept s (s.takeFrameStart n) := by
  unfold State.takeFrameStart
  extract_lets s1 camera s2
  have ended : RwKept s s1 := by
    unfold s1 State.endOpenFrame
    split
    · exact .refl s
    · exact (s.closeErrored_rwKept _).trans (State.countErrored_rwKept _)
  have verifying : RwKept s1 s2 := by
    unfold s2
    split
    · exact (State.toAlign_rwKept _ _).after rfl
    · exact .refl s1
  exact (ended.trans verifying).then rfl

theorem State.closeUsable_rwKept (s : State) (f : OpenFrame) (good : Bool) : RwKept s (s.closeUsable f good) := by
  unfold State.closeUsable
  split
  · exact .of_eq rfl
  · extract_lets camera s1
    split
    · exact .of_eq rfl
    · split
      · exact .of_eq rfl
      · exact (State.toAlign_rwKept _ _).after rfl
  · exact .refl s
  · exact .refl s

theorem State.takeFrameEnd_rwKept (s : State) (f : OpenFrame) (n : Byte) (count : Nat) :
    RwKept s (s.takeFrameEnd f n count) := by
  unfold State.takeFrameEnd
  extract_lets s1
  have concealed : RwKept s s1 := .of_eq rfl
  split
  · exact concealed
  · split
    · exact concealed.trans (s1.closeUsable_rwKept _ _)
    · exact (concealed.trans (s1.closeErrored_rwKept _)).trans (State.countErrored_rwKept _)

theorem State.takeAligned_rwKept (s : State) (p : CameraPacket) : RwKept s (s.takeAligned p) := by
  unfold State.takeAligned
  split
  · exact s.takeFrameStart_rwKept _
  · split
    · exact .refl s
    · exact .of_eq rfl
  · split
    · exact .refl s
    · exact s.takeFrameEnd_rwKept _ _ _
  · exact .refl s

theorem State.hearPacket_rwKept (s : State) : RwKept s s.hearPacket := by
  unfold State.hearPacket
  split
  · refine RwKept.then (t := { s with camera.candidate := none }.toAlign .search) ?_ rfl
    exact (State.toAlign_rwKept _ _).after rfl
  · exact .of_eq rfl

theorem State.takePacket_rwKept (s : State) (p : CameraPacket) : RwKept s (s.takePacket p) := by
  unfold State.takePacket
  split
  · exact s.hearPacket_rwKept.trans (State.takeAligned_rwKept _ _)
  · exact s.takeAligned_rwKept p

theorem State.takeDeferred_rwKept (ps : List CameraPacket) (s : State) : RwKept s (State.takeDeferred ps s) := by
  induction ps generalizing s with
  | nil => exact .refl s
  | cons p rest ih =>
    unfold State.takeDeferred
    split
    · exact .of_eq rfl
    · exact (s.takePacket_rwKept p).trans (ih _)

theorem State.packetArrives_rwKept (s : State) (p : CameraPacket) : RwKept s (s.packetArrives p) := by
  unfold State.packetArrives
  split
  · exact .refl s
  · extract_lets s1
    have heard : RwKept s s1 := s.hearPacket_rwKept
    split
    · exact heard.then rfl
    · exact heard.trans (s1.takeAligned_rwKept p)

theorem execSignalTimerExpiry_rwKept {s t : State} (h : execSignalTimerExpiry s = .next t) : RwKept s t := by
  unfold execSignalTimerExpiry at h
  split at h <;> obtain rfl := Host.Outcome.next.inj h
  · refine RwKept.trans ?_ ((State.toAlign_rwKept _ _).after rfl)
    split
    · exact .refl s
    · exact s.closeErrored_rwKept _
  · exact .refl s

/-! ### Streams and samples -/

theorem State.applyProducer_rwKept (s : State) (d : Display) (v : BitVec 32) : RwKept s (s.applyProducer d v) := by
  unfold State.applyProducer
  extract_lets st
  split
  · split
    · exact s.raise_rwKept _ _
    · exact .of_eq rfl
  · exact .refl s

theorem State.startStream_rwKept (s : State) (d : Display) (reg : Region) (gain : Nat) :
    RwKept s (s.startStream d reg gain) := by
  unfold State.startStream
  extract_lets s1 size held s2 s3 s4 s5
  have started : RwKept s s4 := (RwKept.of_within (s.stopStream_within d) (by decide)).then rfl
  have told : RwKept s4 s5 := by
    unfold s5
    split
    · exact .refl s4
    · exact s4.raise_rwKept _ _
  exact (started.trans told).then rfl

theorem State.sampleTime_rwKept (s : State) : RwKept s s.sampleTime := by
  have sampled : ∀ (t : State) d, RwKept t (t.sampleStream d) := fun t d => by
    unfold State.sampleStream
    extract_lets r s1 s2
    have taken : RwKept t s1 := .of_eq rfl
    refine RwKept.then (t := s2) ?_ rfl
    unfold s2
    split
    · exact taken.trans (s1.raise_rwKept _ _)
    · exact taken
  have told : ∀ (t : State) d clipped, RwKept t (t.raiseClip d clipped) := fun t d clipped => by
    unfold State.raiseClip
    split
    · exact t.raise_rwKept _ _
    · exact .refl t
  unfold State.sampleTime
  extract_lets x mix s1 s2 s3
  have mixed : RwKept s s1 := RwKept.foldl sampled _ s
  have advanced : RwKept s1 s2 := RwKept.foldl (fun t d => .of_within (within_audio t _) (by decide)) _ s1
  have warned : RwKept s2 s3 := RwKept.foldl (fun t d => told t d _) _ s2
  exact ((mixed.trans advanced).trans warned).then rfl

/-! ### The link and requests -/

theorem State.handWord_rwKept (s : State) (offset : Nat) (v : BitVec 32) : RwKept s (s.handWord offset v) := by
  unfold State.handWord
  split
  · unfold State.takeRequestProducer
    split
    · exact s.raise_rwKept _ _
    · exact (RwKept.of_within (State.startFetch_within _) (by decide)).after rfl
  · split
    · exact s.takeReportConsumer_rwKept v
    · split
      · exact .refl s
      · exact .of_eq rfl

theorem State.captureWord_rwKept (page addr : Nat) (lanes : List (Option Byte)) (s : State) (offset : Nat) :
    RwKept s (State.captureWord page addr lanes s offset) := by
  unfold State.captureWord
  split
  · exact .refl s
  · exact s.raise_rwKept _ _
  · exact s.handWord_rwKept _ _

theorem State.takeTransaction_rwKept (s : State) (t : Transaction) : RwKept s (s.takeTransaction t) := by
  cases t with
  | read addr len =>
    change RwKept s (s.takeRead addr len)
    unfold State.takeRead
    split
    · exact RwKept.then (s.raise_rwKept .badAddress (addr.toNat / 64)) rfl
    · exact .of_eq rfl
  | write addr lanes =>
    change RwKept s (s.takeWrite addr lanes)
    unfold State.takeWrite
    split
    · exact s.raise_rwKept _ _
    · split
      · exact s.raise_rwKept _ _
      · unfold State.passWrite
        split
        · exact .of_eq rfl
        · exact (RwKept.foldl (State.captureWord_rwKept _ _ _) _ _).after rfl

theorem State.drainHeld_rwKept (ts : List Transaction) (s : State) : RwKept s (State.drainHeld ts s) := by
  induction ts generalizing s with
  | nil => exact .of_eq rfl
  | cons t rest ih =>
    unfold State.drainHeld
    split
    · exact (s.takeTransaction_rwKept t).trans (ih _)
    · exact .of_eq rfl

theorem State.receive_rwKept (s : State) (t : Transaction) : RwKept s (s.receive t) := by
  unfold State.receive
  split; · exact .refl s
  split; · exact .of_eq rfl
  exact s.takeTransaction_rwKept t

theorem State.writeWord_rwKept (s : State) (offset : Nat) (v : BitVec 32) : RwKept s (s.writeWord offset v) := by
  unfold State.writeWord
  split
  · exact .refl s
  · exact s.receive_rwKept _

theorem State.ended_rwKept (s : State) (rec : List Byte) (e : Ending) : RwKept s (s.ended rec e) := by
  have reported : RwKept s (s.endRequest rec e) := by
    unfold State.endRequest
    split
    · exact s.post_rwKept _
    · split
      · exact s.post_rwKept _
      · exact .refl s
    · exact s.post_rwKept _
    · exact .refl s
  refine reported.trans ?_
  change RwKept _ (s.endRequest rec e).advanceTaker
  unfold State.advanceTaker
  extract_lets next
  refine RwKept.then ?_ ((State.startFetch_within _).rw_eq (by decide))
  exact (State.statusNow_rwKept _ _ _).after rfl

/-- A record is taken by its owner, ended, and the taker moves on. -/
theorem State.takeKind_rwKept (s : State) (kind : Nat) {owner : OwnerAct} (h : ∀ rec, RwKept s (owner rec s).1) :
    RwKept s (s.takeKind kind owner) := by
  unfold State.takeKind
  split
  · exact .refl s
  · unfold State.takeRecord
    split
    · exact s.ended_rwKept _ _
    · exact (h _).trans (State.ended_rwKept _ _ _)

theorem execUnknownRequestKind_rwKept {s t : State} (h : execUnknownRequestKind s = .next t) : RwKept s t := by
  unfold execUnknownRequestKind at h
  split at h
  · split at h <;> obtain rfl := Host.Outcome.next.inj h
    · unfold State.takeRecord
      split <;> exact s.ended_rwKept _ _
    · exact .refl s
  all_goals obtain rfl := Host.Outcome.next.inj h; exact .refl s

theorem ownPublish_rwKept (rec : List Byte) (s : State) : RwKept s (ownPublish rec s).1 := by
  unfold ownPublish
  split
  · exact .refl s
  · rename_i d l e _
    have placed := s.publish_rwKept d l e
    split <;> rename_i published <;> rw [published] at placed <;> exact placed

theorem State.pushView_rwKept (s : State) (d : Display) (v : View) : RwKept s (s.pushView d v).1 := by
  unfold State.pushView
  split
  · extract_lets s1
    have raised : RwKept s s1 := s.raise_rwKept _ _
    split
    · exact raised.then rfl
    · exact raised
  · exact .of_eq rfl

theorem ownPushView_rwKept (rec : List Byte) (s : State) : RwKept s (ownPushView rec s).1 := by
  unfold ownPushView
  split
  · exact .refl s
  · rename_i d v _
    have pushed := s.pushView_rwKept d v
    split <;> rename_i landed <;> rw [landed] at pushed <;> exact pushed

theorem State.popView_rwKept (s : State) (d : Display) : RwKept s (s.popView d).1 := by
  unfold State.popView
  split
  · extract_lets s1
    have raised : RwKept s s1 := s.raise_rwKept _ _
    split <;> exact raised
  · split
    · exact .of_eq rfl
    · exact .refl s
    · exact s.cameraOff_rwKept

theorem ownPopView_rwKept (rec : List Byte) (s : State) : RwKept s (ownPopView rec s).1 := by
  unfold ownPopView
  split
  · exact .refl s
  · exact s.popView_rwKept _

theorem ownShowCamera_rwKept (rec : List Byte) (s : State) : RwKept s (ownShowCamera rec s).1 := by
  unfold ownShowCamera
  split
  · exact .refl s
  · split
    · have pushed := s.pushView_rwKept .front (cameraViewOf (BitVec.ofNat 8 (byteAt rec 8)) false)
      split <;> rename_i landed <;> rw [landed] at pushed
      · exact pushed.trans (State.toReverse_rwKept _ _)
      · exact pushed
    all_goals exact .refl s

theorem ownCloseCamera_rwKept (rec : List Byte) (s : State) : RwKept s (ownCloseCamera rec s).1 := by
  unfold ownCloseCamera
  split
  · exact .refl s
  · split
    · exact s.cameraOff_rwKept
    all_goals exact .refl s

theorem ownAudioStart_rwKept (rec : List Byte) (s : State) : RwKept s (ownAudioStart rec s).1 := by
  unfold ownAudioStart
  split
  · exact .refl s
  · exact s.startStream_rwKept _ _ _

theorem ownPlayChime_rwKept (rec : List Byte) (s : State) : RwKept s (ownPlayChime rec s).1 := by
  unfold ownPlayChime
  split
  · rename_i d _ _ _
    have offered := s.offerAndTell_rwKept d (byteAt rec 7) (min (byteAt rec 8) 3) .system
    split <;> rename_i told <;> rw [told] at offered <;> exact offered
  · exact .refl s

theorem ownStopChimes_rwKept (rec : List Byte) (s : State) : RwKept s (ownStopChimes rec s).1 := by
  unfold ownStopChimes
  split
  · exact .refl s
  · exact (RwKept.of_within (s.dropSystemChimes_within _) (by decide)).trans (State.settle_rwKept _)

theorem State.placeOrRefuse_rwKept (s : State) (rec : List Byte) (refusal : Option Code) (work : StoreWork) :
    RwKept s (s.placeOrRefuse rec refusal work).1 := by
  unfold State.placeOrRefuse
  split
  · exact .refl s
  · exact s.placeStore_rwKept _

theorem ownSetFaultMask_rwKept (rec : List Byte) (s : State) : RwKept s (ownSetFaultMask rec s).1 := by
  unfold ownSetFaultMask
  split
  · exact .refl s
  · exact s.setFaultMask_rwKept _

theorem ownClearFaults_rwKept (rec : List Byte) (s : State) : RwKept s (ownClearFaults rec s).1 := by
  unfold ownClearFaults
  split
  · exact .refl s
  · exact s.clearFaults_rwKept _

/-! ### Restart, load and grants -/

theorem State.systemRestart_rwKept (s : State) : RwKept s s.systemRestart := by
  unfold State.systemRestart
  extract_lets s1 s2
  have rings : RwKept s s.restartRings := by
    unfold State.restartRings
    refine RwKept.trans ?_ (State.statusNow_rwKept _ _ _)
    refine RwKept.trans ?_ (State.statusNow_rwKept _ _ _)
    exact fun h => h.restart
  have stopped : RwKept s s1 := rings.trans (.of_within s.restartRings.restartStreams_within (by decide))
  clear_value s1
  have dropped : ∀ t : State, RwKept t (allDisplays.foldl State.dropSystemChimes t) :=
    RwKept.foldl (fun t d => .of_within (t.dropSystemChimes_within d) (by decide)) _
  refine RwKept.trans ?_ (State.settle_rwKept _)
  refine RwKept.trans ?_ (dropped _)
  exact stopped.then rfl

theorem State.tellReverse_rwKept (s : State) (r : ReverseState) : RwKept s (s.tellReverse r) := by
  unfold State.tellReverse
  split
  · exact s.post_rwKept _
  · exact .refl s

theorem State.takeSystemRestart_rwKept (s : State) (rec : List Byte) : RwKept s (s.takeSystemRestart rec) := by
  unfold State.takeSystemRestart
  split; · exact s.ended_rwKept _ _
  split; · exact s.ended_rwKept _ _
  refine RwKept.trans ?_ (State.tellReverse_rwKept _ _)
  refine s.systemRestart_rwKept.trans ?_
  unfold State.endRequest
  dsimp only
  split
  · exact State.post_rwKept _ _
  · exact .refl _

theorem execLossOfLink_rwKept {s t : State} (h : execLossOfLink s = .next t) : RwKept s t := by
  unfold execLossOfLink at h
  split at h <;> obtain rfl := Host.Outcome.next.inj h
  · refine RwKept.trans ?_ (State.tellReverse_rwKept _ _)
    exact (State.systemRestart_rwKept _).after rfl
  · exact .refl s

theorem State.startDisplays_rwKept (s : State) : RwKept s s.startDisplays := by
  unfold State.startDisplays
  extract_lets s1
  refine RwKept.trans ?_ (State.boundary_rwKept _ _ _)
  refine RwKept.trans ?_ (State.boundary_rwKept _ _ _)
  refine RwKept.trans ?_ (State.boundary_rwKept _ _ _)
  exact (State.writeIdentity_rwKept _).after rfl

theorem State.closeLoad_rwKept (s : State) (st : StartupState) : RwKept s (s.closeLoad st) := by
  unfold State.closeLoad
  extract_lets entered engine s1 s2
  have started : RwKept s s1 := by
    have running : RwKept s (s.enterRunning st) := .of_within (s.enterRunning_within st) (by decide)
    unfold s1 State.startReverse
    split
    · exact running.then rfl
    · exact running.trans ((State.evaluateReverse_rwKept _).after rfl)
  have shown : RwKept s1 s2 := (State.startDisplays_rwKept _).after rfl
  clear_value s1 s2
  exact (started.trans shown).then rfl

theorem execLoadStepComplete_rwKept {s t : State} (h : execLoadStepComplete s = .next t) : RwKept s t := by
  unfold execLoadStepComplete at h
  split at h; · obtain rfl := Host.Outcome.next.inj h; exact .refl s
  split at h
  · obtain rfl := Host.Outcome.next.inj h
    unfold State.loadProtection
    extract_lets store startup s1
    refine RwKept.trans (t := s1) (.of_eq rfl) (RwKept.foldl (fun t b => ?_) _ s1)
    split
    · exact t.raise_rwKept _ _
    · exact .refl t
  split at h
  · obtain rfl := Host.Outcome.next.inj h
    unfold State.loadLayout
    split
    · exact s.closeLoad_rwKept _
    · exact .of_eq rfl
  split at h
  · obtain rfl := Host.Outcome.next.inj h
    unfold State.loadCalibration
    split <;> exact .of_eq rfl
  split at h <;> obtain rfl := Host.Outcome.next.inj h
  · exact .of_eq rfl
  · exact (State.closeLoad_rwKept _ _).after (s.loadFallback_within .rw (by decide))

theorem State.grantTo_rwKept (s : State) (c : Client) : RwKept s (s.grantTo c) := by
  cases c with
  | frontScan => exact .of_within (s.grantScan_within _) (by decide)
  | camera => exact .of_within s.grantCamera_within (by decide)
  | rearLeftScan => exact .of_within (s.grantScan_within _) (by decide)
  | rearRightScan => exact .of_within (s.grantScan_within _) (by decide)
  | audio => exact .of_within s.grantAudio_within (by decide)
  | report =>
    change RwKept s s.grantReport
    unfold State.grantReport
    split
    · exact .refl s
    · exact fun h => h.queue _
  | link =>
    change RwKept s s.grantLink
    unfold State.grantLink
    split
    · exact .refl s
    · extract_lets link s1 answered
      split <;> exact .of_eq rfl
    · exact (RwKept.foldl (fun (t : State) (m : Display × BitVec 32) => t.applyProducer_rwKept m.1 m.2) _ _).after rfl
    · split <;> exact .of_eq rfl
  | store => exact .of_within s.grantStore_within (by decide)

theorem execDramGrant_rwKept {s t : State} (h : execDramGrant s = .next t) : RwKept s t := by
  unfold execDramGrant at h
  split at h <;> obtain rfl := Host.Outcome.next.inj h
  · exact .refl s
  · refine RwKept.trans ?_ (State.drainHeld_rwKept _ _)
    exact (State.grantTo_rwKept _ _).after rfl

/-! ### The commands that post or raise at an event of their own -/

theorem execStoreProgramComplete_rwKept {s t : State} (h : execStoreProgramComplete s = .next t) : RwKept s t := by
  unfold execStoreProgramComplete at h
  repeat' split at h
  all_goals obtain rfl := Host.Outcome.next.inj h
  case isTrue => exact s.endProgram_rwKept _ _
  all_goals exact .refl s

theorem execStoreEraseComplete_rwKept {s t : State} (h : execStoreEraseComplete s = .next t) : RwKept s t := by
  unfold execStoreEraseComplete at h
  repeat' split at h
  all_goals obtain rfl := Host.Outcome.next.inj h
  case isTrue => exact (State.finishStore_rwKept _ _ _).after rfl
  all_goals exact .refl s

theorem execStoreReadComplete_rwKept {s t : State} (h : execStoreReadComplete s = .next t) : RwKept s t := by
  unfold execStoreReadComplete at h
  repeat' split at h
  all_goals obtain rfl := Host.Outcome.next.inj h
  case isTrue => exact s.endRead_rwKept _ _ _
  all_goals exact .refl s

theorem execLockWriteComplete_rwKept {s t : State} (h : execLockWriteComplete s = .next t) : RwKept s t := by
  unfold execLockWriteComplete at h
  repeat' split at h
  all_goals obtain rfl := Host.Outcome.next.inj h
  case isTrue => exact (State.finishStore_rwKept _ _ _).after rfl
  all_goals exact .refl s

theorem execStagingComplete_rwKept {s t : State} (h : execStagingComplete s = .next t) : RwKept s t := by
  unfold execStagingComplete at h
  repeat' split at h
  all_goals obtain rfl := Host.Outcome.next.inj h
  case isTrue =>
    refine RwKept.trans ?_ (State.settle_rwKept _)
    exact (RwKept.of_within (s.stagedAnswer_within _) (by decide)).trans (State.afterStaging_rwKept _)
  all_goals exact .refl s

theorem execCaptureComplete_rwKept {s t : State} (h : execCaptureComplete s = .next t) : RwKept s t := by
  unfold execCaptureComplete at h
  repeat' split at h
  all_goals obtain rfl := Host.Outcome.next.inj h
  case isTrue => exact (State.takeDeferred_rwKept _ _).after rfl
  all_goals exact .refl s

theorem execCanFrame_rwKept {ident : BitVec 11} {dlc : BitVec 4} {data : List Byte} {s t : State}
    (h : execCanFrame ident dlc data s = .next t) : RwKept s t := by
  unfold execCanFrame at h
  split at h
  · split at h <;> obtain rfl := Host.Outcome.next.inj h
    · exact RwKept.foldl (State.offerFrame_rwKept _ _) _ s
    · exact .refl s
  · exact nomatch h

theorem execFreshnessExpiry_rwKept {g : Signal} {s t : State} (h : execFreshnessExpiry g s = .next t) : RwKept s t := by
  unfold execFreshnessExpiry at h
  repeat' split at h
  all_goals obtain rfl := Host.Outcome.next.inj h
  case isTrue => exact s.expire_rwKept g _
  all_goals exact .refl s

theorem execStalePeriodEnd_rwKept {s t : State} (h : execStalePeriodEnd s = .next t) : RwKept s t := by
  unfold execStalePeriodEnd at h
  repeat' split at h
  all_goals obtain rfl := Host.Outcome.next.inj h
  case isTrue => exact (State.evaluateReverse_rwKept _).after rfl
  all_goals exact .refl s

theorem execPinDebounceExpiry_rwKept {s t : State} (h : execPinDebounceExpiry s = .next t) : RwKept s t := by
  unfold execPinDebounceExpiry at h
  split at h <;> obtain rfl := Host.Outcome.next.inj h
  · exact (State.evaluateReverse_rwKept _).after rfl
  · exact .refl s

theorem execHoldOffExpiry_rwKept {s t : State} (h : execHoldOffExpiry s = .next t) : RwKept s t := by
  unfold execHoldOffExpiry at h
  split at h <;> obtain rfl := Host.Outcome.next.inj h
  · exact s.cameraOff_rwKept
  · exact .refl s

theorem execParkOfferTime_rwKept {s t : State} (h : execParkOfferTime s = .next t) : RwKept s t := by
  unfold execParkOfferTime at h
  repeat' split at h
  all_goals obtain rfl := Host.Outcome.next.inj h
  case isTrue => exact (State.offerBeep_rwKept _).after rfl
  all_goals exact .refl s

theorem execDisplayFrameBoundary_rwKept {d : Display} {s t : State} (h : execDisplayFrameBoundary d s = .next t) :
    RwKept s t := by
  unfold execDisplayFrameBoundary at h
  split at h <;> obtain rfl := Host.Outcome.next.inj h
  · exact s.boundary_rwKept d false
  · exact .refl s

theorem execGuideBuildComplete_rwKept {s t : State} (h : execGuideBuildComplete s = .next t) : RwKept s t := by
  unfold execGuideBuildComplete at h
  split at h
  · extract_lets r s1 at h
    split at h <;> obtain rfl := Host.Outcome.next.inj h
    · exact (s1.raise_rwKept _ _).after rfl
    · exact .of_eq rfl
  · obtain rfl := Host.Outcome.next.inj h
    exact .refl s

theorem execLatePixel_rwKept {d : Display} {l : ScanLayer} {col : Nat} {s t : State}
    (h : execLatePixel d l col s = .next t) : RwKept s t := by
  unfold execLatePixel at h
  split at h
  · extract_lets sc at h
    repeat' split at h
    all_goals obtain rfl := Host.Outcome.next.inj h
    case isTrue => exact (State.raise_rwKept _ _ _).after rfl
    all_goals exact .refl s
  · exact nomatch h

theorem execSampleTime_rwKept {s t : State} (h : execSampleTime s = .next t) : RwKept s t := by
  unfold execSampleTime at h
  split at h <;> obtain rfl := Host.Outcome.next.inj h
  · exact s.sampleTime_rwKept
  · exact .refl s

theorem execChimeEnd_rwKept {d : Display} {s t : State} (h : execChimeEnd d s = .next t) : RwKept s t := by
  unfold execChimeEnd at h
  repeat' split at h
  all_goals obtain rfl := Host.Outcome.next.inj h
  case isTrue => exact s.endChime_rwKept d _
  all_goals exact .refl s

theorem execOtherCameraPacket_rwKept {bytes : List Byte} {s t : State} (h : execOtherCameraPacket bytes s = .next t) :
    RwKept s t := by
  unfold execOtherCameraPacket at h
  split at h
  · obtain rfl := Host.Outcome.next.inj h
    exact s.packetArrives_rwKept _
  · exact nomatch h

theorem execLinkRead_rwKept {a : BitVec 32} {n : Nat} {s t : State} (h : execLinkRead a n s = .next t) : RwKept s t := by
  unfold execLinkRead at h
  split at h
  · obtain rfl := Host.Outcome.next.inj h
    exact s.receive_rwKept _
  · exact nomatch h

theorem execLinkWrite_rwKept {a : BitVec 32} {ls : List (Option Byte)} {s t : State} (h : execLinkWrite a ls s = .next t) :
    RwKept s t := by
  unfold execLinkWrite at h
  split at h
  · obtain rfl := Host.Outcome.next.inj h
    exact s.receive_rwKept _
  · exact nomatch h

theorem exec_rwKept {c : Instr} {s t : State} (h : exec c s = .next t) : RwKept s t := by
  have same : .rw ∉ footprint c → RwKept s t := fun hp => .of_eq (exec_within c s t h .rw hp)
  have reset : RwKept s s.afterReset := fun _ =>
    have bounds := State.bounded_reset
    ⟨bounds.reportRing, bounds.lost, bounds.counters⟩
  have owned : ∀ {ps : List Part} {owner : OwnerAct} (kind : Nat), .rw ∉ ps → (∀ rec, Within ps s (owner rec s).1) →
      RwKept s (s.takeKind kind owner) := fun kind hp within =>
    s.takeKind_rwKept kind fun rec => .of_within (within rec) hp
  cases c with
  | powerOnReset => cases h; exact reset
  | pinReset => cases h; exact reset
  | loadStepComplete => exact execLoadStepComplete_rwKept h
  | linkTraining => exact same (by decide)
  | lossOfLink => exact execLossOfLink_rwKept h
  | linkRead addr len => exact execLinkRead_rwKept h
  | linkWrite addr lanes => exact execLinkWrite_rwKept h
  | requestProducerIndex v => cases h; exact s.writeWord_rwKept _ v
  | reportConsumerIndex v => cases h; exact s.writeWord_rwKept _ v
  | mediaProducerIndex d v => cases h; exact s.writeWord_rwKept _ v
  | dramGrant => exact execDramGrant_rwKept h
  | unknownRequestKind => exact execUnknownRequestKind_rwKept h
  | publish => cases h; exact s.takeKind_rwKept 1 fun rec => ownPublish_rwKept rec s
  | setLayer => cases h; exact owned 2 (by decide) fun rec => ownSetLayer_within rec s
  | holdChanges => cases h; exact owned 3 (by decide) fun rec => ownHold_within true rec s
  | releaseChanges => cases h; exact owned 4 (by decide) fun rec => ownHold_within false rec s
  | pushView => cases h; exact s.takeKind_rwKept 5 fun rec => ownPushView_rwKept rec s
  | popView => cases h; exact s.takeKind_rwKept 6 fun rec => ownPopView_rwKept rec s
  | showCamera => cases h; exact s.takeKind_rwKept 7 fun rec => ownShowCamera_rwKept rec s
  | closeCamera => cases h; exact s.takeKind_rwKept 8 fun rec => ownCloseCamera_rwKept rec s
  | defineRegion => cases h; exact owned 9 (by decide) fun rec => ownDefineRegion_within rec s
  | deleteRegion => cases h; exact owned 10 (by decide) fun rec => ownDeleteRegion_within rec s
  | audioStart => cases h; exact s.takeKind_rwKept 11 fun rec => ownAudioStart_rwKept rec s
  | audioStop => cases h; exact owned 12 (by decide) fun rec => ownAudioStop_within rec s
  | audioGain => cases h; exact owned 13 (by decide) fun rec => ownAudioGain_within rec s
  | playChime => cases h; exact s.takeKind_rwKept 14 fun rec => ownPlayChime_rwKept rec s
  | stopChimes => cases h; exact s.takeKind_rwKept 15 fun rec => ownStopChimes_rwKept rec s
  | storeRead => cases h; exact s.takeKind_rwKept 16 fun rec => s.placeOrRefuse_rwKept rec _ _
  | storeProgram => cases h; exact s.takeKind_rwKept 17 fun rec => s.placeOrRefuse_rwKept rec _ _
  | storeErase => cases h; exact s.takeKind_rwKept 18 fun rec => s.placeOrRefuse_rwKept rec _ _
  | storeLockCalibration => cases h; exact s.takeKind_rwKept 19 fun rec => s.placeOrRefuse_rwKept rec _ _
  | setFaultMask => cases h; exact s.takeKind_rwKept 20 fun rec => ownSetFaultMask_rwKept rec s
  | clearFaults => cases h; exact s.takeKind_rwKept 21 fun rec => ownClearFaults_rwKept rec s
  | systemRestart =>
    simp only [exec, execSystemRestart] at h
    split at h <;> obtain rfl := Host.Outcome.next.inj h
    · exact .refl s
    · exact s.takeSystemRestart_rwKept _
  | storeProgramComplete => exact execStoreProgramComplete_rwKept h
  | storeEraseComplete => exact execStoreEraseComplete_rwKept h
  | storeReadComplete => exact execStoreReadComplete_rwKept h
  | lockWriteComplete => exact execLockWriteComplete_rwKept h
  | suspensionAsk => exact same (by decide)
  | suspensionTakesEffect => exact same (by decide)
  | stagingComplete => exact execStagingComplete_rwKept h
  | frameStart n => cases h; exact s.packetArrives_rwKept _
  | line n rest => cases h; exact s.packetArrives_rwKept _
  | frameEnd n k => cases h; exact s.packetArrives_rwKept _
  | otherCameraPacket bytes => exact execOtherCameraPacket_rwKept h
  | signalTimerExpiry => exact execSignalTimerExpiry_rwKept h
  | captureComplete => exact execCaptureComplete_rwKept h
  | canFrame ident dlc data => exact execCanFrame_rwKept h
  | freshnessExpiry g => exact execFreshnessExpiry_rwKept h
  | stalePeriodEnd => exact execStalePeriodEnd_rwKept h
  | reversePinChange high => exact same (by simp [footprint])
  | pinDebounceExpiry => exact execPinDebounceExpiry_rwKept h
  | holdOffExpiry => exact execHoldOffExpiry_rwKept h
  | parkOfferTime => exact execParkOfferTime_rwKept h
  | displayFrameBoundary d => exact execDisplayFrameBoundary_rwKept h
  | guideBuildComplete => exact execGuideBuildComplete_rwKept h
  | latePixel d l col => exact execLatePixel_rwKept h
  | sampleTime => exact execSampleTime_rwKept h
  | startDelayExpiry d => exact same (by simp [footprint])
  | millisecondTick => exact same (by decide)
  | chimeEnd d => exact execChimeEnd_rwKept h
  | activeRowFetch d => exact same (by simp [footprint])

end Sys2Proof.Machine

end

/-! ## Proofs: canonical memories, view stacks, capture buffers and bounds

The invariants of the whole device, each said of the part of the state that it speaks of, and kept by every command. -/

section

namespace Sys2Proof.Machine

/-! ### Canonical memories -/

theorem SameContent.of_stages {s t : State} (h : StagesOnly s t) : SameContent s.store t.store := by
  have rest := h.rest
  exact ⟨by rw [← rest], by rw [← rest], by rw [← rest]⟩

theorem SameContent.of_eq {st st' : Store} (h : st' = st) : SameContent st st' := by
  rw [h]
  exact .refl st

theorem State.startQueued_content (q : List StoreRequest) (s : State) :
    SameContent s.store (State.startQueued q s).store := by
  induction q generalizing s with
  | nil => exact ⟨rfl, rfl, rfl⟩
  | cons r rest ih =>
    obtain ⟨t, -, -, -, content, ⟨eq, -⟩ | ⟨eq, -⟩⟩ := State.startStore_cases { s with store.queue := rest } r <;>
      have same : SameContent s.store t.store := ⟨content.lockMark, content.cells, content.background⟩ <;>
      rw [State.startQueued, eq]
    · exact same
    · exact same.trans (ih t)

theorem State.continueStore_content (s : State) : SameContent s.store s.continueStore.store := by
  unfold State.continueStore
  split
  · exact ⟨rfl, rfl, rfl⟩
  · exact State.startQueued_content _ s

theorem State.finishStore_content (s : State) (r : StoreRequest) (code : Code) :
    SameContent s.store (s.finishStore r code).store := by
  have completed : SameContent s.store (s.completeStore r code).store := by
    rw [State.completeStore_store]
    exact ⟨rfl, rfl, rfl⟩
  exact completed.trans (State.continueStore_content _)

theorem State.placeStore_content (s : State) (r : StoreRequest) : SameContent s.store (s.placeStore r).store := by
  unfold State.placeStore
  split
  · exact State.startQueued_content _ s
  · exact ⟨rfl, rfl, rfl⟩

theorem State.afterStaging_content (s : State) : SameContent s.store s.afterStaging.store := by
  unfold State.afterStaging
  split
  · exact ⟨rfl, rfl, rfl⟩
  · exact ⟨rfl, rfl, rfl⟩
  · obtain ⟨mark, cells, background⟩ := State.startQueued_content s.store.queue { s with store.staging := none }
    exact ⟨mark, cells, background⟩

theorem SameContent.canonical {st st' : Store} (same : SameContent st st') (h : st.canonical = true) :
    st'.canonical = true := by
  unfold Store.canonical at *
  rw [same.cells, same.background]
  exact h

/-- Both memories stay canonical. -/
def CanonKept (s t : State) : Prop := s.Canonical → t.Canonical

theorem CanonKept.trans {s t u : State} (h : CanonKept s t) (g : CanonKept t u) : CanonKept s u := g ∘ h

theorem CanonKept.of_content {s t : State} (dram : t.dram = s.dram) (store : SameContent s.store t.store) : CanonKept s t :=
  fun ⟨hd, hs⟩ => ⟨by rw [dram]; exact hd, store.canonical hs⟩

theorem CanonKept.refl (s : State) : CanonKept s s := id

theorem State.endProgram_canonKept (s : State) (op : StoreOp) (offset : Nat) : CanonKept s (s.endProgram op offset) := by
  rintro ⟨hd, hs⟩
  refine ⟨((s.endProgram_within op offset) .dram (by decide)) ▸ hd, ?_⟩
  unfold State.endProgram
  extract_lets result block s1
  have programmed : s1.store.canonical = true := Store.canonical_setBytes hs offset result.1
  split
  · exact (s1.finishStore_content _ _).canonical programmed
  · refine (State.finishStore_content _ _ _).canonical ?_
    rw [State.raise_store]
    exact programmed

theorem State.endErase_canonKept (s : State) (op : StoreOp) (block : Nat) : CanonKept s (s.endErase op block) := by
  rintro ⟨hd, hs⟩
  refine ⟨((s.endErase_within op block) .dram (by decide)) ▸ hd, ?_⟩
  exact (State.finishStore_content _ _ _).canonical (Store.canonical_wipeBlock hs block none)

theorem State.endRead_content (s : State) (op : StoreOp) (offset length : Nat) :
    SameContent s.store (s.endRead op offset length).store := by
  unfold State.endRead
  split
  · exact s.finishStore_content _ _
  · refine SameContent.trans (.of_eq ?_) (State.finishStore_content _ _ _)
    exact State.raise_store _ _ _

theorem State.afterReset_canonKept (s : State) : CanonKept s s.afterReset := by
  rintro ⟨hd, hs⟩
  refine ⟨hd, ?_⟩
  change Store.canonical s.store.afterReset = true
  unfold Store.afterReset
  extract_lets kept
  change kept.canonical = true
  unfold kept
  split
  · exact hs
  · exact Store.canonical_wipeBlock hs _ _

theorem State.closeLoad_content (s : State) (st : StartupState) : SameContent s.store (s.closeLoad st).store := by
  unfold State.closeLoad
  extract_lets entered engine s1 s2
  have started : SameContent s.store s1.store := by
    refine SameContent.of_stages ((State.startReverse_stages _).after ?_)
    exact (s.enterRunning_within st).store_eq (by decide)
  have shown : s2.store = s1.store.heldByLoad := (State.startDisplays_within _).store_eq (by decide)
  have held : SameContent s1.store s2.store := by
    rw [shown]
    unfold Store.heldByLoad
    split <;> exact ⟨rfl, rfl, rfl⟩
  clear_value s1 s2
  have idle : SameContent s2.store (s2.store.entersIdle s2.time) := by
    unfold Store.entersIdle
    split <;> exact ⟨rfl, rfl, rfl⟩
  exact (started.trans held).trans idle

theorem execLoadStepComplete_content {s t : State} (h : execLoadStepComplete s = .next t) :
    SameContent s.store t.store := by
  unfold execLoadStepComplete at h
  split at h; · obtain rfl := Host.Outcome.next.inj h; exact .refl _
  split at h
  · obtain rfl := Host.Outcome.next.inj h
    unfold State.loadProtection
    extract_lets store startup s1
    refine SameContent.trans (b := s1.store) ⟨rfl, rfl, rfl⟩ ?_
    refine SameContent.of_stages (StagesOnly.foldl (fun t b => ?_) _ s1)
    split
    · exact .of_eq (by simp)
    · exact .refl t
  split at h
  · obtain rfl := Host.Outcome.next.inj h
    unfold State.loadLayout
    split
    · exact s.closeLoad_content _
    · exact ⟨rfl, rfl, rfl⟩
  split at h
  · obtain rfl := Host.Outcome.next.inj h
    exact .of_eq s.loadCalibration_store
  split at h <;> obtain rfl := Host.Outcome.next.inj h
  · exact ⟨rfl, rfl, rfl⟩
  · exact SameContent.trans (.of_eq (s.loadFallback_within.store_eq (by decide))) (State.closeLoad_content _ _)

theorem State.grantTo_canonKept (s : State) (c : Client) : CanonKept s (s.grantTo c) := by
  have scan : ∀ d, CanonKept s (s.grantScan d) := fun d =>
    .of_content (s.grantScan_within d .dram (by decide)) (.of_eq (s.grantScan_within d .store (by decide)))
  have written : ∀ (t : State) w, t.dram = s.dram → t.store = s.store → CanonKept s (t.deviceWrite w) :=
    fun t w dram store ⟨hd, hs⟩ => ⟨Mem.wf_writeBytes (by rwa [dram]) _ _, by rw [State.deviceWrite_store, store]; exact hs⟩
  cases c with
  | frontScan => exact scan _
  | rearLeftScan => exact scan _
  | rearRightScan => exact scan _
  | audio => exact .of_content (s.grantAudio_within .dram (by decide)) (.of_eq (s.grantAudio_within .store (by decide)))
  | camera =>
    change CanonKept s s.grantCamera
    unfold State.grantCamera
    split
    · exact .refl s
    · exact written _ _ rfl rfl
  | report =>
    change CanonKept s s.grantReport
    unfold State.grantReport
    split
    · exact .refl s
    · exact written _ _ rfl rfl
  | link =>
    refine fun ⟨hd, hs⟩ => ⟨?_, (SameContent.of_eq (s.grantLink_within .store (by decide))).canonical hs⟩
    change s.grantLink.dram.wf = true
    unfold State.grantLink
    split
    · exact hd
    · extract_lets link s1 answered
      split <;> exact hd
    · have kept : ∀ (ms : List (Display × BitVec 32)) (t : State),
          Within [.audio, .rw] t (ms.foldl (fun acc m => acc.applyProducer m.1 m.2) t) :=
        Within.foldl fun t m => t.applyProducer_within m.1 m.2
      rw [(kept _ _).dram_eq (by decide)]
      exact Mem.wf_writeLanes hd _ _
    · split <;> exact hd
  | store =>
    change CanonKept s s.grantStore
    unfold State.grantStore
    split
    · exact .refl s
    · exact fun ⟨hd, hs⟩ => ⟨Mem.wf_writeBytes hd _ _, hs⟩
    · extract_lets store s1
      obtain ⟨op, eq, -⟩ := s1.store.takeSource_eq (s.dram.readBytes _ _) s.time
      refine .of_content rfl ?_
      change SameContent s.store (s1.store.takeSource _ _)
      rw [eq]
      exact ⟨rfl, rfl, rfl⟩

theorem State.takeKind_content (s : State) (kind : Nat) {owner : OwnerAct}
    (h : ∀ rec, SameContent s.store (owner rec s).1.store) : SameContent s.store (s.takeKind kind owner).store := by
  have ended : ∀ (t : State) rec e, SameContent t.store (t.ended rec e).store := fun t rec e =>
    .of_eq ((t.ended_within rec e).store_eq (by decide))
  unfold State.takeKind
  split
  · exact .refl _
  · unfold State.takeRecord
    split
    · exact ended s _ _
    · exact (h _).trans (ended _ _ _)

theorem State.placeOrRefuse_content (s : State) (rec : List Byte) (refusal : Option Code) (work : StoreWork) :
    SameContent s.store (s.placeOrRefuse rec refusal work).1.store := by
  unfold State.placeOrRefuse
  split
  · exact .refl _
  · exact s.placeStore_content _

theorem exec_canonKept {c : Instr} {s t : State} (h : exec c s = .next t) : CanonKept s t := by
  have changed := exec_within c s t h
  have content : .dram ∉ footprint c → SameContent s.store t.store → CanonKept s t := fun hp same =>
    .of_content (changed .dram hp) same
  have stages : .dram ∉ footprint c → StagesOnly s t → CanonKept s t := fun hp staged => content hp (.of_stages staged)
  have neither : .dram ∉ footprint c → .store ∉ footprint c → CanonKept s t := fun hp hq =>
    content hp (.of_eq (changed .store hq))
  cases c with
  | powerOnReset => cases h; exact s.afterReset_canonKept
  | pinReset => cases h; exact s.afterReset_canonKept
  | loadStepComplete => exact content (by decide) (execLoadStepComplete_content h)
  | lossOfLink =>
    refine stages (by decide) ?_
    simp only [exec, execLossOfLink] at h
    split at h <;> obtain rfl := Host.Outcome.next.inj h
    · refine StagesOnly.then ?_ ((State.tellReverse_within _ _).store_eq (by decide))
      exact (State.systemRestart_stages _).after rfl
    · exact .refl s
  | dramGrant =>
    simp only [exec, execDramGrant] at h
    split at h <;> obtain rfl := Host.Outcome.next.inj h
    · exact .refl s
    · refine fun canonical => CanonKept.of_content ((State.drain_within _).dram_eq (by decide))
        (.of_eq ((State.drain_within _).store_eq (by decide))) ?_
      exact State.grantTo_canonKept _ _ canonical
  | playChime => cases h; exact content (by decide) (s.takeKind_content 14 fun rec => .of_stages (ownPlayChime_stages rec s))
  | stopChimes => cases h; exact content (by decide) (s.takeKind_content 15 fun rec => .of_stages (ownStopChimes_stages rec s))
  | storeRead => cases h; exact content (by decide) (s.takeKind_content 16 fun rec => s.placeOrRefuse_content rec _ _)
  | storeProgram => cases h; exact content (by decide) (s.takeKind_content 17 fun rec => s.placeOrRefuse_content rec _ _)
  | storeErase => cases h; exact content (by decide) (s.takeKind_content 18 fun rec => s.placeOrRefuse_content rec _ _)
  | storeLockCalibration =>
    cases h
    exact content (by decide) (s.takeKind_content 19 fun rec => s.placeOrRefuse_content rec _ _)
  | systemRestart =>
    refine stages (by decide) ?_
    simp only [exec, execSystemRestart] at h
    split at h <;> obtain rfl := Host.Outcome.next.inj h
    · exact .refl s
    · exact s.takeSystemRestart_stages _
  | storeProgramComplete =>
    simp only [exec, execStoreProgramComplete] at h
    repeat' split at h
    all_goals obtain rfl := Host.Outcome.next.inj h
    case isTrue => exact s.endProgram_canonKept _ _
    all_goals exact .refl s
  | storeEraseComplete =>
    simp only [exec, execStoreEraseComplete] at h
    repeat' split at h
    all_goals obtain rfl := Host.Outcome.next.inj h
    case isTrue => exact s.endErase_canonKept _ _
    all_goals exact .refl s
  | storeReadComplete =>
    refine content (by decide) ?_
    simp only [exec, execStoreReadComplete] at h
    repeat' split at h
    all_goals obtain rfl := Host.Outcome.next.inj h
    case isTrue => exact s.endRead_content _ _ _
    all_goals exact .refl _
  | lockWriteComplete =>
    simp only [exec, execLockWriteComplete] at h
    repeat' split at h
    all_goals obtain rfl := Host.Outcome.next.inj h
    case isTrue =>
      refine fun ⟨hd, hs⟩ => ⟨(s.endLock_within _ .dram (by decide)) ▸ hd, ?_⟩
      exact (State.finishStore_content _ _ _).canonical hs
    all_goals exact .refl s
  | suspensionAsk =>
    refine content (by decide) ?_
    simp only [exec, execSuspensionAsk] at h
    repeat' split at h
    all_goals obtain rfl := Host.Outcome.next.inj h
    all_goals exact ⟨rfl, rfl, rfl⟩
  | suspensionTakesEffect =>
    refine content (by decide) ?_
    simp only [exec, execSuspensionTakesEffect] at h
    repeat' split at h
    all_goals obtain rfl := Host.Outcome.next.inj h
    all_goals exact ⟨rfl, rfl, rfl⟩
  | stagingComplete =>
    refine content (by decide) ?_
    simp only [exec, execStagingComplete] at h
    repeat' split at h
    all_goals obtain rfl := Host.Outcome.next.inj h
    case isTrue =>
      refine SameContent.trans ?_ (.of_stages (State.settle_stages _))
      refine SameContent.trans ?_ (State.afterStaging_content _)
      exact .of_eq ((s.stagedAnswer_within _).store_eq (by decide))
    all_goals exact .refl _
  | canFrame ident dlc data => exact stages (by simp [footprint]) (execCanFrame_stages h)
  | freshnessExpiry g => exact stages (by simp [footprint]) (execFreshnessExpiry_stages h)
  | stalePeriodEnd => exact stages (by decide) (execStalePeriodEnd_stages h)
  | pinDebounceExpiry => exact stages (by decide) (execPinDebounceExpiry_stages h)
  | parkOfferTime => exact stages (by decide) (execParkOfferTime_stages h)
  | chimeEnd d =>
    refine stages (by simp [footprint]) ?_
    simp only [exec, execChimeEnd] at h
    repeat' split at h
    all_goals obtain rfl := Host.Outcome.next.inj h
    case isTrue => exact s.endChime_stages d _
    all_goals exact .refl s
  | displayFrameBoundary d => cases d <;> exact neither (by decide) (by decide)
  | _ => exact neither (by simp [footprint, requestParts]) (by simp [footprint, requestParts])

end Sys2Proof.Machine

end

/-! ## Proofs: the view stacks agree with the reverse state

R130 for each way a stack changes: a push, a pop, the forced push, the promotion, the removal of the CAMERA view, and a
system restart. -/

section

namespace Sys2Proof.Machine

/-! ### What the three forms of a FRONT stack are (R130) -/

/-- Every view is a SYSTEM view. -/
def AllSystem (st : List View) : Prop := ∀ v ∈ st, v.owner = .system

theorem all_system_iff (st : List View) : (st.all fun v => v.owner == .system) = true ↔ AllSystem st := by
  simp [AllSystem, List.all_eq_true]

theorem owner_ne_camera_iff (v : View) : v.owner ≠ .camera ↔ v.owner = .system := by
  cases v.owner <;> simp

theorem frontStackLegal_off (st : List View) : frontStackLegal .off st = true ↔ AllSystem st := all_system_iff st

/-- In MANUAL one unpinned CAMERA view stands among SYSTEM views. -/
theorem frontStackLegal_manual (st : List View) : frontStackLegal .manual st = true ↔
    ∃ lower c upper, st = lower ++ c :: upper ∧ c.owner = .camera ∧ c.pinned = false ∧ AllSystem lower ∧ AllSystem upper := by
  constructor
  · intro h
    have one : (st.filter fun v => v.owner == .camera).map View.pinned = [false] := by simpa [frontStackLegal] using h
    obtain ⟨c, rest, only, unpinned, none⟩ := List.map_eq_cons_iff.1 one
    obtain rfl := List.map_eq_nil_iff.1 none
    obtain ⟨lower, upper, eq, below, camera, above⟩ := List.filter_eq_cons_iff.1 only
    refine ⟨lower, c, upper, eq, by simpa using camera, unpinned, fun v hv => ?_, fun v hv => ?_⟩
    · exact (owner_ne_camera_iff v).1 (by simpa using below v hv)
    · exact (owner_ne_camera_iff v).1 (by simpa using List.filter_eq_nil_iff.1 above v hv)
  · rintro ⟨lower, c, upper, rfl, camera, unpinned, below, above⟩
    have noneBelow : (lower.filter fun v => v.owner == .camera) = [] :=
      List.filter_eq_nil_iff.2 fun v hv => by simp [below v hv]
    have noneAbove : (upper.filter fun v => v.owner == .camera) = [] :=
      List.filter_eq_nil_iff.2 fun v hv => by simp [above v hv]
    simp [frontStackLegal, noneBelow, noneAbove, camera, unpinned]

/-- A pinned CAMERA view stands on top of SYSTEM views. -/
def PinnedOnTop (st : List View) : Prop :=
  ∃ lower top, st = lower ++ [top] ∧ top.owner = .camera ∧ top.pinned = true ∧ AllSystem lower

theorem topPinned_append_singleton (lower : List View) (top : View) :
    topPinned (lower ++ [top]) = (top.owner == .camera && top.pinned) := by
  simp [topPinned, topView]

theorem pinnedOnTop_iff (st : List View) :
    (topPinned st && st.dropLast.all fun v => v.owner == .system) = true ↔ PinnedOnTop st := by
  rcases List.eq_nil_or_concat st with rfl | ⟨lower, top, rfl⟩
  · simp [PinnedOnTop, topPinned, topView]
  · rw [List.concat_eq_append, topPinned_append_singleton, List.dropLast_concat, Bool.and_eq_true, all_system_iff]
    constructor
    · rintro ⟨camera, below⟩
      simp only [Bool.and_eq_true, beq_iff_eq] at camera
      exact ⟨lower, top, rfl, camera.1, camera.2, below⟩
    · rintro ⟨lower', top', eq, camera, pinned, below⟩
      obtain ⟨rfl, rfl⟩ := List.append_singleton_inj.1 eq
      exact ⟨by simp [camera, pinned], below⟩

theorem frontStackLegal_engaged (st : List View) : frontStackLegal .engaged st = true ↔ PinnedOnTop st := pinnedOnTop_iff st
theorem frontStackLegal_holdOff (st : List View) : frontStackLegal .holdOff st = true ↔ PinnedOnTop st := pinnedOnTop_iff st

/-! ### Pushing a SYSTEM view (R131, R132) -/

theorem AllSystem.topPinned {st : List View} (h : AllSystem st) : topPinned st = false := by
  rcases List.eq_nil_or_concat st with rfl | ⟨lower, top, rfl⟩
  · rfl
  · rw [List.concat_eq_append, topPinned_append_singleton, h top (by simp)]
    rfl

theorem AllSystem.placeSystem {st : List View} (h : AllSystem st) (v : View) : placeSystem st v = st ++ [v] := by
  simp [Machine.placeSystem, h.topPinned, pushTop]

theorem AllSystem.append_singleton {st : List View} (h : AllSystem st) {v : View} (system : v.owner = .system) :
    AllSystem (st ++ [v]) := by
  intro x hx
  rcases List.mem_append.1 hx with hx | hx
  · exact h x hx
  · rwa [List.mem_singleton.1 hx]

theorem AllSystem.dropBottomSystem {st : List View} (h : AllSystem st) : AllSystem (dropBottomSystem st) := fun v hv =>
  h v (List.mem_of_mem_eraseP hv)

theorem length_placeSystem (st : List View) (v : View) : (placeSystem st v).length = st.length + 1 := by
  unfold placeSystem
  split
  · unfold insertBeneath
    rcases List.eq_nil_or_concat st with rfl | ⟨lower, top, rfl⟩ <;> simp
  · simp [pushTop]

/-- In a stack with more than one view at most one is a CAMERA view, so a SYSTEM view can be removed. -/
theorem exists_system_of_legal {r : ReverseState} {st : List View} (legal : frontStackLegal r st = true)
    (two : 2 ≤ st.length) : ∃ v ∈ st, v.owner = .system := by
  have pinned : PinnedOnTop st → ∃ v ∈ st, v.owner = .system := by
    rintro ⟨lower, top, rfl, -, -, below⟩
    obtain ⟨v, hv⟩ := List.exists_mem_of_length_pos (l := lower) (by simp at two; omega)
    exact ⟨v, by simp [hv], below v hv⟩
  cases r with
  | off =>
    obtain ⟨v, hv⟩ := List.exists_mem_of_length_pos (l := st) (by omega)
    exact ⟨v, hv, (frontStackLegal_off st).1 legal v hv⟩
  | manual =>
    obtain ⟨lower, c, upper, rfl, -, -, below, above⟩ := (frontStackLegal_manual st).1 legal
    obtain ⟨v, hv⟩ := List.exists_mem_of_length_pos (l := lower ++ upper) (by simp at two ⊢; omega)
    refine ⟨v, ?_, ?_⟩
    · simp only [List.mem_append, List.mem_cons] at hv ⊢
      tauto
    · exact (List.mem_append.1 hv).elim (below v) (above v)
  | engaged => exact pinned ((frontStackLegal_engaged st).1 legal)
  | holdOff => exact pinned ((frontStackLegal_holdOff st).1 legal)

theorem length_dropBottomSystem {st : List View} (h : ∃ v ∈ st, v.owner = .system) :
    (dropBottomSystem st).length = st.length - 1 := by
  obtain ⟨v, hv, system⟩ := h
  exact List.length_eraseP_of_mem hv (by simp [system])

theorem PinnedOnTop.dropBottomSystem {st : List View} (h : PinnedOnTop st) : PinnedOnTop (dropBottomSystem st) := by
  obtain ⟨lower, top, rfl, camera, pinned, below⟩ := h
  refine ⟨Machine.dropBottomSystem lower, top, ?_, camera, pinned, AllSystem.dropBottomSystem below⟩
  unfold Machine.dropBottomSystem
  rcases List.eq_nil_or_concat lower with rfl | ⟨l, x, rfl⟩
  · simp [camera]
  · exact List.eraseP_append_left (a := x) (by simp [below x (by simp)]) _ (by simp)

theorem filter_camera_dropBottomSystem (st : List View) :
    (dropBottomSystem st).filter (fun v => v.owner == .camera) = st.filter fun v => v.owner == .camera := by
  induction st with
  | nil => rfl
  | cons v rest ih =>
    unfold dropBottomSystem at *
    cases owner : v.owner with
    | system => simp [owner]
    | camera => simp [owner, ih]

theorem frontStackLegal_dropBottomSystem {r : ReverseState} {st : List View} (legal : frontStackLegal r st = true) :
    frontStackLegal r (dropBottomSystem st) = true := by
  cases r with
  | off => exact (frontStackLegal_off _).2 ((frontStackLegal_off st).1 legal).dropBottomSystem
  | manual =>
    simpa [frontStackLegal, filter_camera_dropBottomSystem] using legal
  | engaged => exact (frontStackLegal_engaged _).2 ((frontStackLegal_engaged st).1 legal).dropBottomSystem
  | holdOff => exact (frontStackLegal_holdOff _).2 ((frontStackLegal_holdOff st).1 legal).dropBottomSystem

theorem PinnedOnTop.placeSystem {st : List View} (h : PinnedOnTop st) {v : View} (system : v.owner = .system) :
    PinnedOnTop (placeSystem st v) := by
  obtain ⟨lower, top, rfl, camera, pinned, below⟩ := h
  rw [placeSystem_beneath camera pinned]
  exact ⟨lower ++ [v], top, by simp, camera, pinned, AllSystem.append_singleton below system⟩

theorem frontStackLegal_placeSystem {r : ReverseState} {st : List View} (legal : frontStackLegal r st = true) {v : View}
    (system : v.owner = .system) : frontStackLegal r (placeSystem st v) = true := by
  cases r with
  | off =>
    have below := (frontStackLegal_off st).1 legal
    rw [frontStackLegal_off, below.placeSystem]
    exact below.append_singleton system
  | manual =>
    obtain ⟨lower, c, upper, rfl, camera, unpinned, below, above⟩ := (frontStackLegal_manual st).1 legal
    have top : topPinned (lower ++ c :: upper) = false := by
      rcases List.eq_nil_or_concat upper with rfl | ⟨l, x, rfl⟩
      · rw [topPinned_append_singleton, unpinned, Bool.and_false]
      · rw [List.concat_eq_append, ← List.cons_append, ← List.append_assoc, topPinned_append_singleton, above x (by simp)]
        rfl
    refine (frontStackLegal_manual _).2 ⟨lower, c, upper ++ [v], ?_, camera, unpinned, below, above.append_singleton system⟩
    simp [placeSystem, top, pushTop]
  | engaged => exact (frontStackLegal_engaged _).2 (((frontStackLegal_engaged st).1 legal).placeSystem system)
  | holdOff => exact (frontStackLegal_holdOff _).2 (((frontStackLegal_holdOff st).1 legal).placeSystem system)

/-! ### The removal and the promotion of the CAMERA view (R100, R104) -/

theorem allSystem_dropCamera (st : List View) : AllSystem (dropCamera st) := fun v hv => by
  simpa using (List.mem_filter.1 hv).2

theorem length_dropCamera_le (st : List View) : (dropCamera st).length ≤ st.length := List.length_filter_le _ _

theorem promoteCamera_of_manual {st : List View} (legal : frontStackLegal .manual st = true) :
    PinnedOnTop (promoteCamera st) ∧ (promoteCamera st).length = st.length := by
  obtain ⟨lower, c, upper, rfl, camera, unpinned, below, above⟩ := (frontStackLegal_manual st).1 legal
  have found : cameraView (lower ++ c :: upper) = some c := by
    unfold cameraView
    rw [List.find?_append, List.find?_eq_none.2 fun v hv => by simp [below v hv]]
    simp [camera]
  have dropped : dropCamera (lower ++ c :: upper) = lower ++ upper := by
    have keepLower : lower.filter (fun v => v.owner == .system) = lower := List.filter_eq_self.2 fun v hv => by simp [below v hv]
    have keepUpper : upper.filter (fun v => v.owner == .system) = upper := List.filter_eq_self.2 fun v hv => by simp [above v hv]
    simp [dropCamera, keepLower, keepUpper, camera]
  rw [promoteCamera, found]
  refine ⟨⟨lower ++ upper, { c with pinned := true }, by rw [dropped], camera, rfl, ?_⟩, ?_⟩
  · exact fun v hv => (List.mem_append.1 hv).elim (below v) (above v)
  · rw [dropped]
    simp

/-! ### The restart (R105, R146) -/

theorem restartStack_of_allSystem {st : List View} (h : AllSystem st) : restartStack st = [] :=
  List.filter_eq_nil_iff.2 fun v hv => by simp [h v hv]

theorem frontStackLegal_restart {r : Reverse} {st : List View} (legal : frontStackLegal r.state st = true) :
    frontStackLegal r.restart.state (restartStack st) = true := by
  have pinned : PinnedOnTop st → PinnedOnTop (restartStack st) := by
    rintro ⟨lower, top, rfl, camera, pinned, below⟩
    refine ⟨[], top, ?_, camera, pinned, fun _ h => nomatch h⟩
    rw [restartStack, List.filter_append]
    change restartStack lower ++ _ = _
    rw [restartStack_of_allSystem below]
    simp [camera, pinned]
  unfold Reverse.restart
  cases state : r.state <;> rw [state] at legal <;> dsimp only
  · rw [state, frontStackLegal_off, restartStack_of_allSystem ((frontStackLegal_off st).1 legal)]
    exact fun _ h => nomatch h
  · rw [state, frontStackLegal_engaged]
    exact pinned ((frontStackLegal_engaged st).1 legal)
  · rw [state, frontStackLegal_holdOff]
    exact pinned ((frontStackLegal_holdOff st).1 legal)
  · obtain ⟨lower, c, upper, rfl, camera, unpinned, below, above⟩ := (frontStackLegal_manual st).1 legal
    rw [frontStackLegal_off, restartStack, List.filter_append, List.filter_cons]
    change AllSystem (restartStack lower ++ if _ then c :: restartStack upper else restartStack upper)
    rw [restartStack_of_allSystem below, restartStack_of_allSystem above]
    simp [unpinned, AllSystem]

/-! ### Operations that leave the stacks, and operations that leave the layers, as they are -/

/-- Every view stack is the same. -/
def SameStacks (s t : State) : Prop := ∀ d, t.stack d = s.stack d

theorem SameStacks.refl (s : State) : SameStacks s s := fun _ => rfl

theorem SameStacks.trans {s t u : State} (h : SameStacks s t) (g : SameStacks t u) : SameStacks s u := fun d =>
  (g d).trans (h d)

theorem SameStacks.of_displays {s t : State} (h : t.displays = s.displays) : SameStacks s t := fun d => by
  rw [State.stack, h]
  rfl

theorem SameStacks.foldl {α : Type} {f : State → α → State} (h : ∀ s x, SameStacks s (f s x)) (xs : List α) (s : State) :
    SameStacks s (xs.foldl f s) := by
  induction xs generalizing s with
  | nil => exact .refl s
  | cons x xs ih => exact (h s x).trans (ih (f s x))

theorem Within.displays_eq {ps : List Part} {s t : State} (h : Within ps s t) (hp : .displays ∉ ps) :
    t.displays = s.displays := h .displays hp

theorem SameStacks.updateDisplay (s : State) (d : Display) (f : DisplayState → DisplayState) (same : ∀ x, (f x).stack = x.stack) :
    SameStacks s (s.updateDisplay d f) := fun e => by
  unfold State.stack
  rw [State.updateDisplay_get]
  split
  · rename_i eq
    rw [eq, same]
  · rfl

theorem State.setLayer_stacks (s : State) (d : Display) (l : ScanLayer) (v : LayerState) : SameStacks s (s.setLayer d l v) :=
  SameStacks.updateDisplay s d _ fun x => by cases l <;> rfl

theorem State.updateScan_stacks (s : State) (d : Display) (f : Scan → Scan) : SameStacks s (s.updateScan d f) :=
  SameStacks.updateDisplay s d _ fun _ => rfl

theorem State.release_stacks (s : State) (d : Display) (l : ScanLayer) (e : QueueEntry) (shown : Nat) :
    SameStacks s (s.release d l e shown) := by
  unfold State.release
  extract_lets v counted
  refine SameStacks.trans ?_ (.of_displays (State.post_displays _ _))
  exact State.setLayer_stacks _ d l counted

theorem State.releaseAll_stacks (s : State) (d : Display) (l : ScanLayer) (es : List QueueEntry) :
    SameStacks s (s.releaseAll d l es) := SameStacks.foldl (fun t e => t.release_stacks d l e 0) es s

theorem State.releaseCurrent_stacks (s : State) (d : Display) (l : ScanLayer) (c : Option (QueueEntry × Nat)) :
    SameStacks s (s.releaseCurrent d l c) := by
  unfold State.releaseCurrent
  split
  · exact .refl s
  · exact s.release_stacks d l _ _

theorem State.applyStaged_stacks (s : State) (d : Display) (l : ScanLayer) : SameStacks s (s.applyStaged d l) := by
  unfold State.applyStaged
  split
  · exact .refl s
  · split
    · exact .refl s
    · unfold State.applyRecord
      extract_lets v v1 v2
      split
      · rename_i s1 _
        have emptied : SameStacks s s1 := s.setLayer_stacks d l _
        exact (emptied.trans (s1.releaseCurrent_stacks d l _)).trans (State.releaseAll_stacks _ d l _)
      · exact s.setLayer_stacks d l v2

theorem State.selectFrame_stacks (s : State) (d : Display) (l : ScanLayer) : SameStacks s (s.selectFrame d l) := by
  unfold State.selectFrame
  extract_lets v run
  split
  · unfold State.keepFrame
    extract_lets kept
    split
    · exact (s.setLayer_stacks d l _).trans (.of_displays (State.raise_displays _ _ _))
    · exact s.setLayer_stacks d l kept
  · extract_lets s1
    have chosen : SameStacks s s1 := s.setLayer_stacks d l _
    exact (chosen.trans (s1.releaseCurrent_stacks d l _)).trans (State.releaseAll_stacks _ d l _)

theorem State.boundaryLayers_stacks (s : State) (d : Display) : SameStacks s (s.boundaryLayers d) :=
  (((s.applyStaged_stacks d _).trans (State.applyStaged_stacks _ d _)).trans (State.selectFrame_stacks _ d _)).trans
    (State.selectFrame_stacks _ d _)

theorem State.finishRow_stacks (s : State) (d : Display) : SameStacks s (s.finishRow d) := by
  unfold State.finishRow
  split
  · exact .refl s
  · exact s.updateScan_stacks d _

theorem State.frontWork_displays (s : State) (view : Option View) : (s.frontWork view).displays = s.displays := by
  unfold State.frontWork
  extract_lets compositor s1 s2
  change s2.displays = s1.displays
  unfold s2 State.fallbackWatch
  split
  · split
    · rfl
    · rw [State.raise_displays]
  · rfl
  · rfl

theorem State.boundaryBuild_displays (s : State) (view : Option View) : (s.boundaryBuild view).displays = s.displays := by
  unfold State.boundaryBuild
  split <;> rfl

theorem State.boundary_stacks (s : State) (d : Display) (u : Bool) : SameStacks s (s.boundary d u) := by
  unfold State.boundary
  extract_lets s0 badVideo badMenu s1 view
  have layers : SameStacks s s1 := by
    refine (s.finishRow_stacks d).trans (SameStacks.trans ?_ (State.boundaryLayers_stacks _ d))
    exact SameStacks.updateDisplay _ d _ fun _ => rfl
  have begun : ∀ (t : State) e bv bm scene, SameStacks t (t.beginFrame e bv bm scene) := fun t e bv bm scene =>
    t.updateScan_stacks e _
  split
  · rename_i s2 s3
    have worked : SameStacks s1 s3 := by
      refine .of_displays ?_
      unfold s3
      rw [State.boundaryBuild_displays, State.fullRewrite_displays]
      exact s1.frontWork_displays view
    exact (layers.trans worked).trans (begun _ _ _ _ _)
  · exact layers.trans (begun _ _ _ _ _)
  · exact layers.trans (begun _ _ _ _ _)

theorem State.publish_stacks (s : State) (d : Display) (l : ScanLayer) (e : QueueEntry) : SameStacks s (s.publish d l e).1 := by
  have enqueued : ∀ t : State, SameStacks t (t.enqueue d l e) := fun t => State.setLayer_stacks _ d l _
  unfold State.publish
  split
  · exact enqueued s
  · extract_lets s1
    have raised : SameStacks s s1 := .of_displays (State.raise_displays _ _ _)
    split
    · refine (raised.trans ?_).trans (enqueued _)
      unfold State.dropHead
      extract_lets v
      split
      · exact .refl s1
      · exact (s1.setLayer_stacks d l _).trans (State.release_stacks _ d l _ 0)
    · exact raised

/-! ### The stacks stay legal -/

/-- The stacks stay legal from `s` to `t`. -/
def StacksKept (s t : State) : Prop := s.StacksLegal → t.StacksLegal

theorem StacksKept.refl (s : State) : StacksKept s s := id

theorem StacksKept.trans {s t u : State} (h : StacksKept s t) (g : StacksKept t u) : StacksKept s u := g ∘ h

theorem StacksKept.of_same {s t : State} (views : SameStacks s t) (reverse : t.reverse.state = s.reverse.state) :
    StacksKept s t := by
  rintro ⟨depth, front, rear⟩
  refine ⟨fun d => ?_, ?_, fun d hd => ?_⟩
  · rw [views d]
    exact depth d
  · rw [views, reverse]
    exact front
  · rw [views d]
    exact rear d hd

theorem Within.reverse_eq {ps : List Part} {s t : State} (h : Within ps s t) (hp : .reverse ∉ ps) : t.reverse = s.reverse :=
  h .reverse hp

/-- An operation that changes neither the displays nor the reverse controller. -/
theorem StacksKept.of_within {ps : List Part} {s t : State} (h : Within ps s t) (hd : .displays ∉ ps) (hr : .reverse ∉ ps) :
    StacksKept s t := .of_same (.of_displays (h.displays_eq hd)) (congrArg Reverse.state (h.reverse_eq hr))

theorem StacksKept.after {s t u : State} (h : StacksKept t u) (displays : t.displays = s.displays)
    (reverse : t.reverse.state = s.reverse.state) : StacksKept s u :=
  (StacksKept.of_same (.of_displays displays) reverse).trans h

theorem StacksKept.foldl {α : Type} {f : State → α → State} (h : ∀ s x, StacksKept s (f s x)) (xs : List α) (s : State) :
    StacksKept s (xs.foldl f s) := by
  induction xs generalizing s with
  | nil => exact .refl s
  | cons x xs ih => exact (h s x).trans (ih (f s x))

/-- The FRONT stack and the reverse state change together. -/
theorem State.StacksLegal.front {s t : State} (h : s.StacksLegal) {st : List View}
    (views : ∀ d, t.stack d = if d = .front then st else s.stack d) (depth : st.length ≤ 4)
    (legal : frontStackLegal t.reverse.state st = true) : t.StacksLegal := by
  obtain ⟨depths, -, rear⟩ := h
  refine ⟨fun d => ?_, ?_, fun d hd => ?_⟩
  · rw [views]
    split
    · exact depth
    · exact depths d
  · rw [views]
    exact legal
  · rw [views, if_neg hd]
    exact rear d hd

/-- The stack that a SYSTEM push leaves where it lands, after it has given up a view if it is full. -/
theorem placed_legal {r : ReverseState} {st : List View} (legal : frontStackLegal r st = true) (depth : st.length ≤ 4)
    {v : View} (system : v.owner = .system) :
    frontStackLegal r (placeSystem (if stackFull st then dropBottomSystem st else st) v) = true ∧
      (placeSystem (if stackFull st then dropBottomSystem st else st) v).length ≤ 4 := by
  rw [length_placeSystem]
  split
  · rename_i full
    have four : 4 ≤ st.length := of_decide_eq_true full
    refine ⟨frontStackLegal_placeSystem (frontStackLegal_dropBottomSystem legal) system, ?_⟩
    rw [length_dropBottomSystem (exists_system_of_legal legal (by omega))]
    omega
  · rename_i notFull
    have room : ¬ 4 ≤ st.length := fun four => notFull (decide_eq_true four)
    exact ⟨frontStackLegal_placeSystem legal system, by omega⟩

/-- What a push under the rules of a SYSTEM push does to the stacks: it lands, or the stacks stay. -/
theorem State.pushView_cases (s : State) (d : Display) (v : View) :
    (∃ t, s.pushView d v = (t, true) ∧ t.reverse = s.reverse ∧ ∀ e, t.stack e =
      if e = d then placeSystem (if stackFull (s.stack d) then dropBottomSystem (s.stack d) else s.stack d) v else s.stack e) ∨
    (∃ t, s.pushView d v = (t, false) ∧ t.reverse = s.reverse ∧ SameStacks s t) := by
  unfold State.pushView
  split
  · extract_lets s1
    have raised : SameStacks s s1 := .of_displays (State.raise_displays _ _ _)
    have reverse : s1.reverse = s.reverse := State.raise_reverse _ _ _
    split
    · refine .inl ⟨_, rfl, reverse, fun e => ?_⟩
      rw [State.stack_setStack, raised, raised]
    · exact .inr ⟨s1, rfl, reverse, raised⟩
  · exact .inl ⟨_, rfl, rfl, fun e => State.stack_setStack s d e _⟩

/-- A stack of a rear display holds SYSTEM views, as the FRONT stack does in OFF. -/
theorem State.StacksLegal.rear_legal {s : State} (h : s.StacksLegal) {d : Display} (rear : d ≠ .front) :
    frontStackLegal .off (s.stack d) = true := h.2.2 d rear

theorem ownPushView_stacksKept (rec : List Byte) (s : State) : StacksKept s (ownPushView rec s).1 := by
  unfold ownPushView
  split
  · exact .refl s
  · rename_i d v checked
    have system : v.owner = .system := by
      unfold checkPushView at checked
      split at checked
      · exact nomatch checked
      · split at checked
        · exact nomatch checked
        · obtain ⟨-, rfl⟩ := Prod.mk.inj (Option.some.inj checked)
          rfl
    rcases s.pushView_cases d v with ⟨t, eq, reverse, views⟩ | ⟨t, eq, reverse, views⟩ <;> rw [eq]
    · intro legal
      obtain ⟨depth, front, rear⟩ := legal
      by_cases onFront : d = .front
      · subst onFront
        have placed := placed_legal front (depth .front) system
        exact State.StacksLegal.front ⟨depth, front, rear⟩ views placed.2 (by rw [reverse]; exact placed.1)
      · have placed := placed_legal (r := .off) (rear d onFront) (depth d) system
        refine ⟨fun e => ?_, ?_, fun e he => ?_⟩
        · rw [views]
          split
          · exact placed.2
          · exact depth e
        · rw [views, if_neg (Ne.symm onFront), reverse]
          exact front
        · rw [views]
          split
          · exact placed.1
          · exact rear e he
    · exact .of_same views (congrArg Reverse.state reverse)

theorem State.toReverse_stack (s : State) (r : ReverseState) (d : Display) : (s.toReverse r).stack d = s.stack d :=
  SameStacks.of_displays (State.post_displays _ _) d

theorem State.toReverse_state (s : State) (r : ReverseState) : (s.toReverse r).reverse.state = r := by
  simp [State.toReverse]

/-- The CAMERA view leaves the FRONT stack and the controller goes to OFF, whatever the state was. -/
theorem State.cameraOff_stacksKept (s : State) : StacksKept s s.cameraOff := by
  intro legal
  have depth := legal.1 .front
  refine legal.front (t := s.cameraOff) (fun d => ?_) ((length_dropCamera_le _).trans depth) ?_
  · unfold State.cameraOff
    rw [State.toReverse_stack]
    exact State.stack_setStack s .front d _
  · unfold State.cameraOff
    rw [State.toReverse_state, frontStackLegal_off]
    exact allSystem_dropCamera _

theorem ownPopView_stacksKept (rec : List Byte) (s : State) : StacksKept s (ownPopView rec s).1 := by
  unfold ownPopView
  split
  · exact .refl s
  · rename_i d _
    unfold State.popView
    split
    · extract_lets s1
      have raised : StacksKept s s1 := .of_within (s.raise_within _ _) (by decide) (by decide)
      split <;> exact raised
    · rename_i top topEq
      split
      · rename_i system
        intro legal
        obtain ⟨lower, eq⟩ : ∃ lower, s.stack d = lower ++ [top] := by
          rcases List.eq_nil_or_concat (s.stack d) with nil | ⟨lower, x, eq⟩
          · simp [nil, topView] at topEq
          · refine ⟨lower, ?_⟩
            rw [eq, List.concat_eq_append, topView_append_singleton] at topEq
            rw [eq, List.concat_eq_append, Option.some.inj topEq]
        have shorter : (s.stack d).dropLast = lower := by rw [eq, List.dropLast_concat]
        obtain ⟨depth, front, rear⟩ := legal
        have room : lower.length ≤ 4 := by
          have := depth d
          rw [eq, List.length_append] at this
          omega
        by_cases onFront : d = .front
        · subst onFront
          refine State.StacksLegal.front ⟨depth, front, rear⟩ (fun e => State.stack_setStack s .front e _)
            (by rw [shorter]; exact room) ?_
          rw [shorter]
          change frontStackLegal s.reverse.state lower = true
          rw [eq] at front
          have onTop : PinnedOnTop (lower ++ [top]) → False := by
            rintro ⟨lower', top', same, camera, -, -⟩
            obtain ⟨-, rfl⟩ := List.append_singleton_inj.1 same
            rw [system] at camera
            exact nomatch camera
          cases state : s.reverse.state <;> rw [state] at front
          · rw [frontStackLegal_off] at front ⊢
            exact fun v hv => front v (by simp [hv])
          · exact (onTop ((frontStackLegal_engaged _).1 front)).elim
          · exact (onTop ((frontStackLegal_holdOff _).1 front)).elim
          · simpa [frontStackLegal, system] using front
        · refine ⟨fun e => ?_, ?_, fun e he => ?_⟩
          · rw [State.stack_setStack]
            split
            · rw [shorter]
              exact room
            · exact depth e
          · rw [State.stack_setStack, if_neg (Ne.symm onFront)]
            exact front
          · rw [State.stack_setStack]
            split
            · rename_i same
              rw [shorter, all_system_iff]
              have all := (all_system_iff _).1 (rear d onFront)
              rw [eq] at all
              exact fun v hv => all v (by simp [hv])
            · exact rear e he
      · exact .refl s
      · exact s.cameraOff_stacksKept

theorem ownShowCamera_stacksKept (rec : List Byte) (s : State) : StacksKept s (ownShowCamera rec s).1 := by
  unfold ownShowCamera
  split
  · exact .refl s
  · split
    · rename_i off
      rcases s.pushView_cases .front (cameraViewOf (BitVec.ofNat 8 (byteAt rec 8)) false) with
        ⟨t, eq, reverse, views⟩ | ⟨t, eq, reverse, views⟩ <;> rw [eq]
      · intro legal
        obtain ⟨depth, front, rear⟩ := legal
        rw [off] at front
        have base : ∃ st, (if stackFull (s.stack .front) then dropBottomSystem (s.stack .front) else s.stack .front) = st ∧
            AllSystem st ∧ st.length < 4 := by
          refine ⟨_, rfl, ?_⟩
          have all := (frontStackLegal_off _).1 front
          have bound := depth .front
          split
          · rename_i full
            have four : 4 ≤ (s.stack .front).length := of_decide_eq_true full
            refine ⟨all.dropBottomSystem, ?_⟩
            rw [length_dropBottomSystem (exists_system_of_legal front (by omega))]
            omega
          · rename_i notFull
            exact ⟨all, Nat.lt_of_not_le fun four => notFull (decide_eq_true four)⟩
        obtain ⟨st, given, all, room⟩ := base
        rw [given, all.placeSystem] at views
        refine State.StacksLegal.front (t := t.toReverse .manual) ⟨depth, by rw [off]; exact front, rear⟩
          (fun d => (t.toReverse_stack .manual d).trans (views d)) (by simp; omega) ?_
        rw [State.toReverse_state]
        exact (frontStackLegal_manual _).2 ⟨st, _, [], rfl, rfl, rfl, all, fun _ h => nomatch h⟩
      · exact .of_same views (congrArg Reverse.state reverse)
    all_goals exact .refl s

theorem ownCloseCamera_stacksKept (rec : List Byte) (s : State) : StacksKept s (ownCloseCamera rec s).1 := by
  unfold ownCloseCamera
  split
  · exact .refl s
  · split
    · exact s.cameraOff_stacksKept
    all_goals exact .refl s

/-! ### Reverse (R97 to R101) -/

/-- The forced push leaves a pinned CAMERA view on top of SYSTEM views. -/
theorem State.forcedPush_stacks {s : State} (legal : frontStackLegal .off (s.stack .front) = true)
    (depth : (s.stack .front).length ≤ 4) : ∃ st, AllSystem st ∧ st.length < 4 ∧
      ∀ d, s.forcedPush.stack d = if d = .front then st ++ [cameraViewOf 0 true] else s.stack d := by
  have all := (frontStackLegal_off _).1 legal
  unfold State.forcedPush
  extract_lets v s1
  split
  · rename_i full
    have four : 4 ≤ (s.stack .front).length := of_decide_eq_true full
    refine ⟨dropBottomSystem (s.stack .front), all.dropBottomSystem, ?_, fun d => ?_⟩
    · rw [length_dropBottomSystem (exists_system_of_legal legal (by omega))]
      omega
    · have given : ∀ e, s1.stack e = if e = .front then dropBottomSystem (s.stack .front) else s.stack e := fun e => by
        unfold s1
        rw [State.raise_stack, State.stack_setStack]
      rw [State.stack_setStack, given, given]
      split <;> rfl
  · rename_i notFull
    exact ⟨s.stack .front, all, Nat.lt_of_not_le fun four => notFull (decide_eq_true four),
      fun d => State.stack_setStack s .front d _⟩

theorem State.startPattern_stacksKept (s : State) : StacksKept s s.startPattern :=
  .of_within s.startPattern_within (by decide) (by decide)

theorem State.offerTone_stacksKept (s : State) : StacksKept s s.offerTone :=
  .of_within s.offerTone_within (by decide) (by decide)

theorem State.reverseAsserted_stacksKept (s : State) : StacksKept s s.reverseAsserted := by
  unfold State.reverseAsserted
  split
  case h_1 off =>
    refine StacksKept.trans ?_ (State.startPattern_stacksKept _)
    refine StacksKept.trans ?_ (State.offerTone_stacksKept _)
    intro legal
    have front := legal.2.1
    rw [off] at front
    obtain ⟨st, all, room, views⟩ := State.forcedPush_stacks front (legal.1 .front)
    refine legal.front (fun d => (State.toReverse_stack _ _ d).trans (views d)) (by simp; omega) ?_
    rw [State.toReverse_state, frontStackLegal_engaged]
    exact ⟨st, _, rfl, rfl, rfl, all⟩
  case h_2 holdOff =>
    refine StacksKept.trans ?_ (.of_within (State.post_within _ _) (by decide) (by decide))
    refine StacksKept.trans ?_ (State.startPattern_stacksKept _)
    intro legal
    have front := legal.2.1
    rw [holdOff] at front
    exact ⟨legal.1, front, legal.2.2⟩
  case h_3 manual =>
    refine StacksKept.trans ?_ (State.startPattern_stacksKept _)
    refine StacksKept.trans ?_ (State.offerTone_stacksKept _)
    intro legal
    have front := legal.2.1
    rw [manual] at front
    obtain ⟨pinned, depth⟩ := promoteCamera_of_manual front
    refine legal.front (fun d => (State.toReverse_stack _ _ d).trans (State.stack_setStack s .front d _))
      (by rw [depth]; exact legal.1 .front) ?_
    rw [State.toReverse_state, frontStackLegal_engaged]
    exact pinned
  case h_4 => exact .refl s

theorem State.reverseReleased_stacksKept (s : State) : StacksKept s s.reverseReleased := by
  unfold State.reverseReleased
  split
  case h_1 engaged =>
    extract_lets stopped reverse s1
    have held : StacksKept s s1 := by
      intro legal
      have front := legal.2.1
      rw [engaged] at front
      refine ⟨fun d => ?_, ?_, fun d hd => ?_⟩ <;> unfold s1 <;> rw [State.toReverse_stack]
      · exact legal.1 d
      · rw [State.toReverse_state]
        exact front
      · exact legal.2.2 d hd
    split
    · exact held.trans s1.cameraOff_stacksKept
    · exact held
  all_goals exact .refl s

theorem State.evaluateReverse_stacksKept (s : State) : StacksKept s s.evaluateReverse := by
  unfold State.evaluateReverse
  split
  · split
    · exact s.reverseAsserted_stacksKept
    · split
      · exact s.reverseReleased_stacksKept
      · exact .refl s
  · exact .refl s

theorem State.speedExit_stacksKept (s : State) (v : Int) : StacksKept s (s.speedExit v) := by
  unfold State.speedExit
  split
  · exact s.cameraOff_stacksKept
  · exact .refl s

theorem State.refresh_stacksKept (s : State) (e : AcceptEntry) (v : Int) : StacksKept s (s.refresh e v) := by
  unfold State.refresh
  extract_lets deadline
  split
  · exact (State.evaluateReverse_stacksKept _).after rfl rfl
  · exact .of_same (.of_displays rfl) rfl
  · exact (State.speedExit_stacksKept _ _).after rfl rfl
  · split
    · exact (StacksKept.of_within (State.chooseBand_within _) (by decide) (by decide)).after rfl rfl
    · exact .of_same (.of_displays rfl) rfl

theorem State.offerFrame_stacksKept (ident : Nat) (data : List Byte) (s : State) (e : AcceptEntry) :
    StacksKept s (State.offerFrame ident data s e) := by
  unfold State.offerFrame
  split
  · split
    · exact .refl s
    · exact s.refresh_stacksKept e _
  · exact .refl s

/-! ### Restart and load -/

/-- The displays, the reverse controller and the region table after a system restart (R19, R105, R146, R147). -/
theorem State.systemRestart_displays (s : State) : s.systemRestart.displays =
    { front := s.displays.front.restart s.time, rearLeft := s.displays.rearLeft.restart s.time
      rearRight := s.displays.rearRight.restart s.time } := by
  unfold State.systemRestart
  extract_lets s1 s2
  have rings : Within [.rw, .taker, .link] s s.restartRings := by
    unfold State.restartRings
    refine Within.trans (fun p hp => ?_)
      (((State.statusNow_within _ _ _).trans (State.statusNow_within _ _ _)).mono (by decide))
    cases p <;> first | rfl | simp at hp
  have streams := s.restartRings.restartStreams_within
  have dropped : ∀ t : State, Within [.audio] t (allDisplays.foldl State.dropSystemChimes t) :=
    Within.foldl (fun t d => t.dropSystemChimes_within d) _
  rw [(State.settle_within _).displays_eq (by decide), (dropped _).displays_eq (by decide)]
  change s1.restartDisplays.displays = _
  unfold State.restartDisplays
  have time : s1.time = s.time := (streams.time_eq (by decide)).trans (rings.time_eq (by decide))
  have displays : s1.displays = s.displays := (streams.displays_eq (by decide)).trans (rings.displays_eq (by decide))
  rw [time, displays]

theorem State.systemRestart_reverse (s : State) : s.systemRestart.reverse = s.reverse.restart := by
  unfold State.systemRestart
  extract_lets s1 s2
  have dropped : ∀ t : State, Within [.audio] t (allDisplays.foldl State.dropSystemChimes t) :=
    Within.foldl (fun t d => t.dropSystemChimes_within d) _
  rw [(State.settle_within _).reverse_eq (by decide), (dropped _).reverse_eq (by decide)]
  have rings : Within [.rw, .taker, .link] s s.restartRings := by
    unfold State.restartRings
    refine Within.trans (fun p hp => ?_)
      (((State.statusNow_within _ _ _).trans (State.statusNow_within _ _ _)).mono (by decide))
    cases p <;> first | rfl | simp at hp
  have same : s2.reverse = s.reverse :=
    (s.restartRings.restartStreams_within.reverse_eq (by decide)).trans (rings.reverse_eq (by decide))
  exact congrArg Reverse.restart same

theorem State.systemRestart_stack (s : State) (d : Display) : s.systemRestart.stack d = restartStack (s.stack d) := by
  rw [State.stack, State.systemRestart_displays]
  cases d <;> rfl

theorem State.systemRestart_stacksKept (s : State) : StacksKept s s.systemRestart := by
  rintro ⟨depth, front, rear⟩
  refine ⟨fun d => ?_, ?_, fun d hd => ?_⟩ <;> rw [State.systemRestart_stack]
  · exact (List.length_filter_le _ _).trans (depth d)
  · rw [State.systemRestart_reverse]
    exact frontStackLegal_restart front
  · rw [restartStack_of_allSystem ((frontStackLegal_off _).1 (rear d hd))]
    rfl

theorem State.tellReverse_stacksKept (s : State) (r : ReverseState) : StacksKept s (s.tellReverse r) :=
  .of_within (State.tellReverse_within _ _) (by decide) (by decide)

theorem State.ended_stacksKept (s : State) (rec : List Byte) (e : Ending) : StacksKept s (s.ended rec e) :=
  .of_within (s.ended_within rec e) (by decide) (by decide)

theorem State.takeSystemRestart_stacksKept (s : State) (rec : List Byte) : StacksKept s (s.takeSystemRestart rec) := by
  unfold State.takeSystemRestart
  split; · exact s.ended_stacksKept _ _
  split; · exact s.ended_stacksKept _ _
  refine StacksKept.trans ?_ (State.tellReverse_stacksKept _ _)
  exact s.systemRestart_stacksKept.trans (.of_within (State.endRequest_within _ _ _) (by decide) (by decide))

theorem State.boundary_stacksKept (s : State) (d : Display) (u : Bool) : StacksKept s (s.boundary d u) :=
  .of_same (s.boundary_stacks d u) (congrArg Reverse.state ((s.boundary_within_footprint d u).reverse_eq (by cases d <;> decide)))

theorem State.closeLoad_stacksKept (s : State) (st : StartupState) : StacksKept s (s.closeLoad st) := by
  unfold State.closeLoad
  extract_lets entered engine s1 s2
  have started : StacksKept s s1 := by
    have running : StacksKept s (s.enterRunning st) := .of_within (s.enterRunning_within st) (by decide) (by decide)
    unfold s1 State.startReverse
    split
    · exact running.trans (.of_same (.of_displays rfl) rfl)
    · exact running.trans ((State.evaluateReverse_stacksKept _).after rfl rfl)
  have shown : StacksKept s1 s2 := by
    unfold s2 State.startDisplays
    extract_lets s3
    refine StacksKept.trans ?_ (State.boundary_stacksKept _ _ _)
    refine StacksKept.trans ?_ (State.boundary_stacksKept _ _ _)
    refine StacksKept.trans ?_ (State.boundary_stacksKept _ _ _)
    refine StacksKept.trans ?_ (.of_same (.of_displays (State.writeIdentity_displays _)) (congrArg Reverse.state (State.writeIdentity_reverse _)))
    exact .of_same (fun d => by cases d <;> rfl) rfl
  clear_value s1 s2
  exact (started.trans shown).trans (.of_same (.of_displays rfl) rfl)

theorem execLoadStepComplete_stacksKept {s t : State} (h : execLoadStepComplete s = .next t) : StacksKept s t := by
  unfold execLoadStepComplete at h
  split at h; · obtain rfl := Host.Outcome.next.inj h; exact .refl s
  split at h
  · obtain rfl := Host.Outcome.next.inj h
    unfold State.loadProtection
    extract_lets store startup s1
    refine StacksKept.trans (t := s1) (.of_same (.of_displays rfl) rfl) (StacksKept.foldl (fun t b => ?_) _ s1)
    split
    · exact .of_within (t.raise_within _ _) (by decide) (by decide)
    · exact .refl t
  split at h
  · obtain rfl := Host.Outcome.next.inj h
    unfold State.loadLayout
    split
    · exact s.closeLoad_stacksKept _
    · exact .of_same (.of_displays rfl) rfl
  split at h
  · obtain rfl := Host.Outcome.next.inj h
    unfold State.loadCalibration
    split <;> exact .of_same (.of_displays rfl) rfl
  split at h <;> obtain rfl := Host.Outcome.next.inj h
  · exact .of_same (.of_displays rfl) rfl
  · exact StacksKept.trans (.of_within s.loadFallback_within (by decide) (by decide)) (State.closeLoad_stacksKept _ _)

/-! ### The commands -/

theorem State.takeKind_stacksKept (s : State) (kind : Nat) {owner : OwnerAct}
    (h : ∀ rec, StacksKept s (owner rec s).1) : StacksKept s (s.takeKind kind owner) := by
  unfold State.takeKind
  split
  · exact .refl s
  · unfold State.takeRecord
    split
    · exact s.ended_stacksKept _ _
    · exact (h _).trans (State.ended_stacksKept _ _ _)

theorem ownSetLayer_stacksKept (rec : List Byte) (s : State) : StacksKept s (ownSetLayer rec s).1 := by
  unfold ownSetLayer
  split
  · exact .refl s
  · exact .of_same (State.setLayer_stacks _ _ _ _) rfl

theorem ownHold_stacksKept (hold : Bool) (rec : List Byte) (s : State) : StacksKept s (ownHold hold rec s).1 := by
  unfold ownHold
  split
  · exact .refl s
  · exact .of_same (SameStacks.updateDisplay _ _ _ fun _ => rfl) rfl

theorem ownPublish_stacksKept (rec : List Byte) (s : State) : StacksKept s (ownPublish rec s).1 := by
  have placed : ∀ {d l e r}, s.publish d l e = r → StacksKept s r.1 := by
    rintro d l e _ rfl
    exact .of_same (s.publish_stacks d l e) (congrArg Reverse.state ((s.publish_within d l e).reverse_eq (by decide)))
  unfold ownPublish
  split
  · exact .refl s
  · split
    · rename_i eq
      exact placed eq
    · rename_i eq
      exact placed eq

theorem State.grantTo_stacks (s : State) (c : Client) : SameStacks s (s.grantTo c) := by
  have scan : ∀ d, SameStacks s (s.grantScan d) := fun d => by
    unfold State.grantScan
    split
    · exact .refl s
    · exact s.updateScan_stacks d _
  cases c with
  | frontScan => exact scan _
  | rearLeftScan => exact scan _
  | rearRightScan => exact scan _
  | camera => exact .of_displays (s.grantCamera_within.displays_eq (by decide))
  | audio => exact .of_displays (s.grantAudio_within.displays_eq (by decide))
  | report => exact .of_displays (s.grantReport_within.displays_eq (by decide))
  | link => exact .of_displays (s.grantLink_within.displays_eq (by decide))
  | store => exact .of_displays (s.grantStore_within.displays_eq (by decide))

theorem exec_stacksKept {c : Instr} {s t : State} (h : exec c s = .next t) : StacksKept s t := by
  have neither : .displays ∉ footprint c → .reverse ∉ footprint c → StacksKept s t := fun hd hr =>
    .of_within (exec_within c s t h) hd hr
  have noReverse : SameStacks s t → .reverse ∉ footprint c → StacksKept s t := fun views hr =>
    .of_same views (congrArg Reverse.state (Within.reverse_eq (exec_within c s t h) hr))
  cases c with
  | powerOnReset => cases h; exact fun _ => State.stacksLegal_reset
  | pinReset => cases h; exact fun _ => State.stacksLegal_reset
  | loadStepComplete => exact execLoadStepComplete_stacksKept h
  | lossOfLink =>
    simp only [exec, execLossOfLink] at h
    split at h <;> obtain rfl := Host.Outcome.next.inj h
    · refine StacksKept.trans ?_ (State.tellReverse_stacksKept _ _)
      exact (State.systemRestart_stacksKept _).after rfl rfl
    · exact .refl s
  | dramGrant =>
    refine noReverse ?_ (by decide)
    simp only [exec, execDramGrant] at h
    split at h <;> obtain rfl := Host.Outcome.next.inj h
    · exact .refl s
    · rename_i c _
      refine SameStacks.trans ?_ (.of_displays ((State.drain_within _).displays_eq (by decide)))
      refine SameStacks.trans (t := { s with arb := s.arb.granted c }) (.of_displays rfl) (State.grantTo_stacks _ c)
  | publish => cases h; exact s.takeKind_stacksKept 1 fun rec => ownPublish_stacksKept rec s
  | setLayer => cases h; exact s.takeKind_stacksKept 2 fun rec => ownSetLayer_stacksKept rec s
  | holdChanges => cases h; exact s.takeKind_stacksKept 3 fun rec => ownHold_stacksKept true rec s
  | releaseChanges => cases h; exact s.takeKind_stacksKept 4 fun rec => ownHold_stacksKept false rec s
  | pushView => cases h; exact s.takeKind_stacksKept 5 fun rec => ownPushView_stacksKept rec s
  | popView => cases h; exact s.takeKind_stacksKept 6 fun rec => ownPopView_stacksKept rec s
  | showCamera => cases h; exact s.takeKind_stacksKept 7 fun rec => ownShowCamera_stacksKept rec s
  | closeCamera => cases h; exact s.takeKind_stacksKept 8 fun rec => ownCloseCamera_stacksKept rec s
  | systemRestart =>
    simp only [exec, execSystemRestart] at h
    split at h <;> obtain rfl := Host.Outcome.next.inj h
    · exact .refl s
    · exact s.takeSystemRestart_stacksKept _
  | canFrame ident dlc data =>
    simp only [exec, execCanFrame] at h
    split at h
    · split at h <;> obtain rfl := Host.Outcome.next.inj h
      · exact StacksKept.foldl (State.offerFrame_stacksKept _ _) _ s
      · exact .refl s
    · exact nomatch h
  | stalePeriodEnd =>
    simp only [exec, execStalePeriodEnd] at h
    repeat' split at h
    all_goals obtain rfl := Host.Outcome.next.inj h
    case isTrue => exact (State.evaluateReverse_stacksKept _).after rfl rfl
    all_goals exact .refl s
  | pinDebounceExpiry =>
    simp only [exec, execPinDebounceExpiry] at h
    split at h <;> obtain rfl := Host.Outcome.next.inj h
    · exact (State.evaluateReverse_stacksKept _).after rfl rfl
    · exact .refl s
  | holdOffExpiry =>
    simp only [exec, execHoldOffExpiry] at h
    split at h <;> obtain rfl := Host.Outcome.next.inj h
    · exact s.cameraOff_stacksKept
    · exact .refl s
  | displayFrameBoundary d =>
    simp only [exec, execDisplayFrameBoundary] at h
    split at h <;> obtain rfl := Host.Outcome.next.inj h
    · exact s.boundary_stacksKept d false
    · exact .refl s
  | latePixel d l col =>
    refine noReverse ?_ (by simp [footprint])
    simp only [exec, execLatePixel] at h
    split at h
    · repeat' split at h
      all_goals obtain rfl := Host.Outcome.next.inj h
      case isTrue => exact (s.updateScan_stacks d _).trans (.of_displays (State.raise_displays _ _ _))
      all_goals exact .refl s
    · exact nomatch h
  | activeRowFetch d =>
    refine noReverse ?_ (by simp [footprint])
    simp only [exec, execActiveRowFetch] at h
    split at h <;> obtain rfl := Host.Outcome.next.inj h
    · exact (s.finishRow_stacks d).trans (State.updateScan_stacks _ d _)
    · exact .refl s
  | _ => exact neither (by simp [footprint, requestParts]) (by simp [footprint, requestParts])

end Sys2Proof.Machine

end

/-! ## Proofs: the capture buffers and the gain -/
section

namespace Sys2Proof.Machine

/-! ### The camera receiver's own part of the invariant -/

/-- The buffer being written is neither newest nor displaying (R78), and the gain lies in its bounds (R85). -/
def Camera.Safe (c : Camera) : Prop :=
  (∀ k, c.writing = some k → c.newest.map Prod.fst ≠ some k ∧ c.displaying ≠ some k) ∧ 16 ≤ c.gain ∧ c.gain ≤ 63

/-- Buffer roles and gain are the same. -/
def Camera.SameRoles (c d : Camera) : Prop :=
  d.writing = c.writing ∧ d.newest = c.newest ∧ d.displaying = c.displaying ∧ d.gain = c.gain

theorem Camera.SameRoles.refl (c : Camera) : c.SameRoles c := ⟨rfl, rfl, rfl, rfl⟩

theorem Camera.SameRoles.trans {a b c : Camera} (h : a.SameRoles b) (g : b.SameRoles c) : a.SameRoles c := by
  obtain ⟨writing, newest, displaying, gain⟩ := h
  obtain ⟨writing', newest', displaying', gain'⟩ := g
  exact ⟨writing'.trans writing, newest'.trans newest, displaying'.trans displaying, gain'.trans gain⟩

theorem Camera.Safe.same {c d : Camera} (h : c.Safe) (same : c.SameRoles d) : d.Safe := by
  obtain ⟨writing, newest, displaying, gain⟩ := same
  unfold Camera.Safe
  rw [writing, newest, displaying, gain]
  exact h

/-- A buffer given up leaves nothing that could be newest or displaying. -/
theorem Camera.Safe.freed {c d : Camera} (h : c.Safe) (writing : d.writing = none) (gain : d.gain = c.gain) : d.Safe := by
  refine ⟨fun k hk => ?_, by rw [gain]; exact h.2⟩
  rw [writing] at hk
  exact nomatch hk

theorem Camera.putLine_roles (c : Camera) (area : Option Nat) (f : OpenFrame) (raw : Nat) (bytes : Option (List Byte)) :
    c.SameRoles (c.putLine area f raw bytes) := by
  unfold Camera.putLine
  split <;> exact ⟨rfl, rfl, rfl, rfl⟩

theorem Camera.concealLines_roles (n : Nat) (area : Option Nat) (e : Nat) (c : Camera) :
    c.SameRoles (Camera.concealLines n area e c) := by
  induction n generalizing e c with
  | zero => exact .refl c
  | succ n ih =>
    rw [Camera.concealLines]
    split
    · exact .refl c
    · exact (c.putLine_roles _ _ _ _).trans (ih _ _)

theorem Camera.takeLine_roles (c : Camera) (area : Option Nat) (f : OpenFrame) (n : Nat) (rest : List Byte) :
    c.SameRoles (c.takeLine area f n rest) := by
  unfold Camera.takeLine
  split
  · exact ⟨rfl, rfl, rfl, rfl⟩
  · extract_lets c1
    have concealed : c.SameRoles c1 := Camera.concealLines_roles _ _ _ c
    split
    · exact concealed.trans (c1.putLine_roles _ _ _ _)
    · exact concealed.trans (Camera.concealLines_roles _ _ _ _)
    · exact concealed

/-- Of three buffers one is neither newest nor displaying (R78). -/
theorem Camera.freeBuffer_free (c : Camera) : c.newest.map Prod.fst ≠ some c.freeBuffer ∧ c.displaying ≠ some c.freeBuffer := by
  unfold Camera.freeBuffer
  generalize c.newest.map Prod.fst = newest
  generalize c.displaying = displaying
  revert newest displaying
  decide

theorem Camera.openFrame_safe {c : Camera} (h : c.Safe) (number : Byte) : (c.openFrame number).Safe := by
  refine ⟨fun k hk => ?_, h.2⟩
  obtain rfl : c.freeBuffer = k := Option.some.inj hk
  exact c.freeBuffer_free

theorem clampNat_bounds {lo hi : Nat} (h : lo ≤ hi) (x : Nat) : lo ≤ clampNat lo hi x ∧ clampNat lo hi x ≤ hi := by
  unfold clampNat
  split_ifs <;> omega

theorem fastGain_bounds (cfg : CameraConfig) (mean : Nat) : 16 ≤ fastGain cfg mean ∧ fastGain cfg mean ≤ 63 := by
  unfold fastGain
  split
  · decide
  · exact clampNat_bounds (by decide) _

theorem deltaLevel_bounds {gain : Nat} (h : 16 ≤ gain ∧ gain ≤ 63) (candidate : Option Direction) (dir : Direction) :
    16 ≤ (deltaLevel gain candidate dir).1 ∧ (deltaLevel gain candidate dir).1 ≤ 63 := by
  unfold deltaLevel
  split
  · cases dir <;> exact clampNat_bounds (by decide) _
  · exact h

/-- Level control keeps the gain in its bounds (R84, R85). -/
theorem levelAfter_bounds (cfg : CameraConfig) (fresh : Bool) {gain : Nat} (h : 16 ≤ gain ∧ gain ≤ 63)
    (candidate : Option Direction) (mean : Nat) :
    16 ≤ (levelAfter cfg fresh gain candidate mean).1 ∧ (levelAfter cfg fresh gain candidate mean).1 ≤ 63 := by
  unfold levelAfter
  extract_lets p
  split
  · exact fastGain_bounds cfg mean
  split
  · exact deltaLevel_bounds h _ _
  split
  · exact deltaLevel_bounds h _ _
  · exact h

theorem Camera.complete_safe {c : Camera} (h : c.Safe) (now : Time) (lumaSum : Nat) : (c.complete now lumaSum).Safe :=
  ⟨fun _ hk => (nomatch (hk : none = some _)), levelAfter_bounds _ _ h.2 _ _⟩

/-- What is displayed is the newest buffer, which is not the one being written (R78, R80). -/
theorem Camera.show_safe {c : Camera} (h : c.Safe) (view : Option View) : (c.show view).Safe := by
  refine ⟨fun k hk => ⟨(h.1 k hk).1, ?_⟩, h.2⟩
  change (match view.map View.owner with | some .camera => c.newest.map Prod.fst | _ => none) ≠ some k
  split
  · exact (h.1 k hk).1
  · exact fun same => nomatch same

/-! ### The state's camera stays safe -/

/-- The camera receiver stays safe and the applied gain is the same. -/
def CameraKept (s t : State) : Prop := 
  (s.camera.Safe → t.camera.Safe) ∧ t.compositor.appliedGain = s.compositor.appliedGain

theorem CameraKept.refl (s : State) : CameraKept s s := ⟨id, rfl⟩

theorem CameraKept.trans {s t u : State} (h : CameraKept s t) (g : CameraKept t u) : CameraKept s u :=
  ⟨g.1 ∘ h.1, g.2.trans h.2⟩

theorem CameraKept.of_roles {s t : State} (roles : s.camera.SameRoles t.camera)
    (same : t.compositor.appliedGain = s.compositor.appliedGain) :
    CameraKept s t := ⟨fun h => h.same roles, same⟩

theorem CameraKept.of_eq {s t : State} (h : t.camera = s.camera)
    (same : t.compositor.appliedGain = s.compositor.appliedGain) : CameraKept s t :=
  ⟨fun safe => h ▸ safe, same⟩

theorem CameraKept.of_within {ps : List Part} {s t : State} (h : Within ps s t) (hc : .camera ∉ ps)
    (hp : .compositor ∉ ps) : CameraKept s t := .of_eq (h .camera hc) (congrArg Compositor.appliedGain (h .compositor hp))

theorem CameraKept.picture {s t : State} (h : CameraKept s t) (safe : s.PictureSafe) : t.PictureSafe := by
  obtain ⟨roles, low, high, applied⟩ := safe
  obtain ⟨roles', low', high'⟩ := h.1 ⟨roles, low, high⟩
  exact ⟨roles', low', high', by rw [h.2]; exact applied⟩

theorem State.post_cameraKept (s : State) (r : Report) : CameraKept s (s.post r) :=
  .of_within (s.post_within r) (by decide) (by decide)

theorem State.raise_cameraKept (s : State) (k : FaultKind) (n : Nat) : CameraKept s (s.raise k n) :=
  .of_within (s.raise_within k n) (by decide) (by decide)

theorem State.toAlign_cameraKept (s : State) (a : Alignment) : CameraKept s (s.toAlign a) :=
  CameraKept.trans (t := { s with camera.align := a }) (.of_roles ⟨rfl, rfl, rfl, rfl⟩ rfl) (State.post_cameraKept _ _)

theorem State.closeErrored_cameraKept (s : State) (number : Byte) : CameraKept s (s.closeErrored number) :=
  CameraKept.trans (t := { s with camera.frame := none, camera.writing := none }) ⟨fun h => h.freed rfl rfl, rfl⟩
    (State.raise_cameraKept _ _ _)

theorem State.countErrored_cameraKept (s : State) : CameraKept s s.countErrored := by
  unfold State.countErrored
  split
  · split
    · refine CameraKept.trans ?_ (State.toAlign_cameraKept _ _)
      exact .of_roles ⟨rfl, rfl, rfl, rfl⟩ rfl
    · exact .of_roles ⟨rfl, rfl, rfl, rfl⟩ rfl
  · exact .of_roles ⟨rfl, rfl, rfl, rfl⟩ rfl
  all_goals exact .refl s

theorem State.takeFrameStart_cameraKept (s : State) (number : Byte) : CameraKept s (s.takeFrameStart number) := by
  unfold State.takeFrameStart
  extract_lets s1 camera s2
  have ended : CameraKept s s1 := by
    unfold s1 State.endOpenFrame
    split
    · exact .refl s
    · exact (s.closeErrored_cameraKept _).trans (State.countErrored_cameraKept _)
  have verified : CameraKept s1 s2 := by
    unfold s2
    split
    · refine CameraKept.trans ?_ (State.toAlign_cameraKept _ _)
      exact .of_roles ⟨rfl, rfl, rfl, rfl⟩ rfl
    · exact .refl s1
  exact (ended.trans verified).trans ⟨fun h => Camera.openFrame_safe h number, rfl⟩

theorem State.closeUsable_cameraKept (s : State) (f : OpenFrame) (good : Bool) : CameraKept s (s.closeUsable f good) := by
  unfold State.closeUsable
  split
  · exact .of_roles ⟨rfl, rfl, rfl, rfl⟩ rfl
  · extract_lets camera s1
    have freed : CameraKept s s1 := ⟨fun h => h.freed rfl rfl, rfl⟩
    split
    · exact freed.trans (.of_roles ⟨rfl, rfl, rfl, rfl⟩ rfl)
    split
    · exact freed.trans (.of_roles ⟨rfl, rfl, rfl, rfl⟩ rfl)
    · refine (freed.trans ?_).trans (State.toAlign_cameraKept _ _)
      exact .of_roles ⟨rfl, rfl, rfl, rfl⟩ rfl
  all_goals exact .refl s

theorem State.takeFrameEnd_cameraKept (s : State) (f0 : OpenFrame) (number : Byte) (count : Nat) :
    CameraKept s (s.takeFrameEnd f0 number count) := by
  unfold State.takeFrameEnd
  extract_lets s1
  have concealed : CameraKept s s1 := .of_roles (Camera.concealLines_roles _ _ _ _) rfl
  split
  · exact concealed
  · split
    · exact concealed.trans (s1.closeUsable_cameraKept _ _)
    · exact (concealed.trans (s1.closeErrored_cameraKept _)).trans (State.countErrored_cameraKept _)

theorem State.takeAligned_cameraKept (s : State) (p : CameraPacket) : CameraKept s (s.takeAligned p) := by
  cases p with
  | frameStart number => exact s.takeFrameStart_cameraKept number
  | line n rest =>
    rw [State.takeAligned]
    split
    · exact .refl s
    · exact .of_roles (Camera.takeLine_roles _ _ _ _ _) rfl
  | frameEnd number count =>
    rw [State.takeAligned]
    split
    · exact .refl s
    · exact s.takeFrameEnd_cameraKept _ _ _
  | other => exact .refl s

theorem State.hearPacket_cameraKept (s : State) : CameraKept s s.hearPacket := by
  unfold State.hearPacket
  refine CameraKept.trans ?_ (.of_roles ⟨rfl, rfl, rfl, rfl⟩ rfl)
  split
  · refine CameraKept.trans ?_ (State.toAlign_cameraKept _ _)
    exact .of_roles ⟨rfl, rfl, rfl, rfl⟩ rfl
  · exact .refl s

theorem State.takeDeferred_cameraKept (ps : List CameraPacket) (s : State) : CameraKept s (State.takeDeferred ps s) := by
  induction ps generalizing s with
  | nil => exact .refl s
  | cons p rest ih =>
    rw [State.takeDeferred]
    split
    · exact .of_roles ⟨rfl, rfl, rfl, rfl⟩ rfl
    · refine CameraKept.trans ?_ (ih _)
      unfold State.takePacket
      split
      · exact s.hearPacket_cameraKept.trans (State.takeAligned_cameraKept _ p)
      · exact s.takeAligned_cameraKept p

theorem State.packetArrives_cameraKept (s : State) (p : CameraPacket) : CameraKept s (s.packetArrives p) := by
  unfold State.packetArrives
  split
  · exact .refl s
  · extract_lets s1
    have heard : CameraKept s s1 := s.hearPacket_cameraKept
    split
    · exact heard.trans (.of_roles ⟨rfl, rfl, rfl, rfl⟩ rfl)
    · exact heard.trans (s1.takeAligned_cameraKept p)

/-! ### Boundaries, load and the commands -/

theorem State.frontWork_picture {s : State} (h : s.PictureSafe) (view : Option View) : (s.frontWork view).PictureSafe := by
  obtain ⟨roles, low, high, applied⟩ := h
  unfold State.frontWork
  extract_lets compositor s1 s2
  have shown : s1.PictureSafe :=
    have safe : (s.camera.show view).Safe := Camera.show_safe ⟨roles, low, high⟩ view
    ⟨safe.1, low, high, low, high⟩
  have watched : s2.camera = s1.camera ∧ s2.compositor.appliedGain = s1.compositor.appliedGain := by
    unfold s2 State.fallbackWatch
    split
    · split
      · exact ⟨rfl, rfl⟩
      · exact ⟨State.raise_camera _ _ _, by rw [State.raise_compositor]⟩
    · exact ⟨rfl, rfl⟩
    · exact ⟨rfl, rfl⟩
  unfold State.PictureSafe
  dsimp only
  rw [watched.1, watched.2]
  exact shown

theorem State.boundary_picture {s : State} (h : s.PictureSafe) (d : Display) (u : Bool) : (s.boundary d u).PictureSafe := by
  by_cases rear : d = .front
  · subst rear
    unfold State.boundary
    extract_lets s0 badVideo badMenu s1 view s2 s3
    have layers : CameraKept s s1 := by
      have changed : Within [.displays, .regions, .rw] s s1 :=
        (((s.finishRow_within .front).mono (by decide)).trans ((within_displays s0 _).mono (by decide))).trans
          ((State.boundaryLayers_within _ .front).mono (by decide))
      exact .of_within changed (by decide) (by decide)
    have worked : s2.PictureSafe := State.frontWork_picture (layers.picture h) view
    have rest : CameraKept s2 (s3.beginFrame .front badVideo badMenu (s3.cameraSceneNow view)) := by
      have rewritten : CameraKept s2 (s2.fullRewrite u) :=
        .of_eq (State.fullRewrite_camera _ _) (by rw [State.fullRewrite_compositor])
      refine rewritten.trans (CameraKept.trans (t := s3) ?_ (.of_eq rfl rfl))
      unfold s3 State.boundaryBuild
      split <;> exact .of_eq rfl rfl
    exact rest.picture worked
  · exact (CameraKept.of_within (s.boundary_rear_within rear u) (by decide) (by decide)).picture h

theorem State.startDisplays_picture {s : State} (h : s.PictureSafe) : s.startDisplays.PictureSafe := by
  unfold State.startDisplays
  extract_lets s1
  refine State.boundary_picture (State.boundary_picture (State.boundary_picture ?_ _ _) _ _) _ _
  refine (CameraKept.of_eq (State.writeIdentity_camera s1) (by rw [State.writeIdentity_compositor])).picture ?_
  exact h

theorem State.closeLoad_picture {s : State} (h : s.PictureSafe) (st : StartupState) : (s.closeLoad st).PictureSafe := by
  unfold State.closeLoad
  extract_lets entered engine s1 s2
  have started : CameraKept s s1 := by
    have entered : CameraKept s (s.enterRunning st) := .of_within (s.enterRunning_within st) (by decide) (by decide)
    refine entered.trans (CameraKept.trans (t := { s.enterRunning st with audio.running := true }) ?_ ?_)
    · exact .of_eq rfl rfl
    · exact .of_within (State.startReverse_within _) (by decide) (by decide)
  clear_value s1
  have safe : s1.PictureSafe := started.picture h
  have shown : s2.PictureSafe := State.startDisplays_picture safe
  clear_value s2
  exact shown

theorem execLoadStepComplete_picture {s t : State} (h : execLoadStepComplete s = .next t) (safe : s.PictureSafe) :
    t.PictureSafe := by
  unfold execLoadStepComplete at h
  split at h; · obtain rfl := Host.Outcome.next.inj h; exact safe
  split at h
  · obtain rfl := Host.Outcome.next.inj h
    refine CameraKept.picture ?_ safe
    unfold State.loadProtection
    extract_lets store startup s1
    refine CameraKept.trans (t := s1) (.of_eq rfl rfl) ?_
    refine .of_within (ps := [.rw]) (Within.foldl (fun t b => ?_) _ s1) (by decide) (by decide)
    split
    · exact t.raise_within _ _
    · exact .refl _ t
  split at h
  · obtain rfl := Host.Outcome.next.inj h
    unfold State.loadLayout
    split
    · exact State.closeLoad_picture safe _
    · exact safe
  split at h
  · obtain rfl := Host.Outcome.next.inj h
    unfold State.loadCalibration
    split <;> exact safe
  split at h <;> obtain rfl := Host.Outcome.next.inj h
  · exact safe
  · refine State.closeLoad_picture ?_ _
    unfold State.loadFallback
    refine CameraKept.picture ?_ safe
    dsimp only
    split <;> exact .of_eq rfl rfl

theorem execSignalTimerExpiry_cameraKept {s t : State} (h : execSignalTimerExpiry s = .next t) : CameraKept s t := by
  unfold execSignalTimerExpiry at h
  split at h
  · extract_lets s1 at h
    obtain rfl := Host.Outcome.next.inj h
    have ended : CameraKept s s1 := by
      unfold s1
      split
      · exact .refl s
      · exact s.closeErrored_cameraKept _
    refine ended.trans (CameraKept.trans ?_ (State.toAlign_cameraKept _ _))
    exact .of_roles ⟨rfl, rfl, rfl, rfl⟩ rfl
  · obtain rfl := Host.Outcome.next.inj h
    exact .refl s

theorem exec_picture {c : Instr} {s t : State} (h : exec c s = .next t) (safe : s.PictureSafe) : t.PictureSafe := by
  have neither : .camera ∉ footprint c → .compositor ∉ footprint c → t.PictureSafe := fun hc hp =>
    (CameraKept.of_within (exec_within c s t h) hc hp).picture safe
  cases c with
  | powerOnReset => cases h; exact State.pictureSafe_reset
  | pinReset => cases h; exact State.pictureSafe_reset
  | loadStepComplete => exact execLoadStepComplete_picture h safe
  | dramGrant =>
    refine CameraKept.picture ?_ safe
    have compositor : t.compositor = s.compositor := exec_within .dramGrant s t h .compositor (by decide)
    simp only [exec, execDramGrant] at h
    split at h <;> obtain rfl := Host.Outcome.next.inj h
    · exact .refl s
    · rename_i c _
      refine .of_roles ?_ (congrArg Compositor.appliedGain compositor)
      rw [State.drain_within _ .camera (by decide)]
      have other : ∀ {u : State}, Within [.displays, .audio, .rw, .store, .link, .taker, .dram] { s with arb := s.arb.granted c } u →
          s.camera.SameRoles u.camera := fun within => by
        rw [within .camera (by decide)]
        exact .refl _
      cases c with
      | frontScan => exact other ((State.grantScan_within _ _).mono (by decide))
      | rearLeftScan => exact other ((State.grantScan_within _ _).mono (by decide))
      | rearRightScan => exact other ((State.grantScan_within _ _).mono (by decide))
      | audio => exact other ((State.grantAudio_within _).mono (by decide))
      | report => exact other ((State.grantReport_within _).mono (by decide))
      | link => exact other ((State.grantLink_within _).mono (by decide))
      | store => exact other ((State.grantStore_within _).mono (by decide))
      | camera =>
        change s.camera.SameRoles (State.grantCamera { s with arb := s.arb.granted .camera }).camera
        unfold State.grantCamera
        split
        · exact .refl _
        · exact ⟨rfl, rfl, rfl, rfl⟩
  | frameStart n => cases h; exact (s.packetArrives_cameraKept _).picture safe
  | line n rest => cases h; exact (s.packetArrives_cameraKept _).picture safe
  | frameEnd n k => cases h; exact (s.packetArrives_cameraKept _).picture safe
  | otherCameraPacket bytes =>
    simp only [exec, execOtherCameraPacket] at h
    split at h
    · obtain rfl := Host.Outcome.next.inj h
      exact (s.packetArrives_cameraKept _).picture safe
    · exact nomatch h
  | signalTimerExpiry => exact (execSignalTimerExpiry_cameraKept h).picture safe
  | captureComplete =>
    simp only [exec, execCaptureComplete] at h
    repeat' split at h
    all_goals obtain rfl := Host.Outcome.next.inj h
    case isTrue =>
      refine CameraKept.picture (CameraKept.trans ?_ (State.takeDeferred_cameraKept _ _)) safe
      exact ⟨fun h => (Camera.complete_safe h _ _).same ⟨rfl, rfl, rfl, rfl⟩, rfl⟩
    all_goals exact safe
  | displayFrameBoundary d =>
    simp only [exec, execDisplayFrameBoundary] at h
    split at h <;> obtain rfl := Host.Outcome.next.inj h
    · exact State.boundary_picture safe d false
    · exact safe
  | _ => exact neither (by simp [footprint, requestParts]) (by simp [footprint, requestParts])

end Sys2Proof.Machine

end

/-! ## Proofs: bounds of the arbiter's records, the store's queue, the taker and the response list -/
section

namespace Sys2Proof.Machine

/-! ### The arbiter's records (R16, R17) -/

/-- The arbiter's records lie in their bounds. -/
def Arbiter.InBounds (a : Arbiter) : Prop := a.window.length ≤ 3 ∧ a.storeGap ≤ 63 ∧ a.posA < 2 ∧ a.posB < 4

theorem positionAfter_lt {clients : List Client} (some : 0 < clients.length) (c : Client) :
    positionAfter clients c < clients.length := Nat.mod_lt _ some

theorem length_slideWindow_le {w : List ArbClass} (h : w.length ≤ 3) (k : ArbClass) : (slideWindow w k).length ≤ 3 := by
  unfold slideWindow
  split <;> simp <;> omega

theorem Arbiter.granted_inBounds {a : Arbiter} (h : a.InBounds) (c : Client) : (a.granted c).InBounds := by
  obtain ⟨window, gap, posA, posB⟩ := h
  refine ⟨length_slideWindow_le window _, ?_, ?_, ?_⟩
  · unfold Arbiter.granted
    dsimp only
    split
    · exact Nat.zero_le 63
    all_goals exact Nat.min_le_right _ _
  · unfold Arbiter.granted
    dsimp only
    split
    · exact positionAfter_lt (clients := clientsA) (by decide) c
    all_goals exact posA
  · unfold Arbiter.granted
    dsimp only
    split
    · exact positionAfter_lt (clients := clientsB) (by decide) c
    all_goals exact posB

theorem exec_arbInBounds {c : Instr} {s t : State} (h : exec c s = .next t) (bounds : s.arb.InBounds) : t.arb.InBounds := by
  have reset : Arbiter.InBounds .reset := by
    obtain ⟨_, _, _, _, _, window, gap, ⟨posA, posB⟩, _, _⟩ := State.bounded_reset
    exact ⟨window, gap, posA, posB⟩
  have same : .arb ∉ footprint c → t.arb.InBounds := fun hp => by
    rw [exec_within c s t h .arb hp]
    exact bounds
  cases c with
  | powerOnReset => cases h; exact reset
  | pinReset => cases h; exact reset
  | dramGrant =>
    simp only [exec, execDramGrant] at h
    split at h <;> obtain rfl := Host.Outcome.next.inj h
    · exact bounds
    · rename_i client _
      rw [State.drain_within _ .arb (by decide)]
      have granted : (State.grantTo { s with arb := s.arb.granted client } client).arb = s.arb.granted client := by
        cases client with
        | frontScan => exact State.grantScan_within _ _ .arb (by decide)
        | rearLeftScan => exact State.grantScan_within _ _ .arb (by decide)
        | rearRightScan => exact State.grantScan_within _ _ .arb (by decide)
        | camera => exact State.grantCamera_within _ .arb (by decide)
        | audio => exact State.grantAudio_within _ .arb (by decide)
        | report => exact State.grantReport_within _ .arb (by decide)
        | link => exact State.grantLink_within _ .arb (by decide)
        | store => exact State.grantStore_within _ .arb (by decide)
      rw [granted]
      exact Arbiter.granted_inBounds bounds client
  | displayFrameBoundary d => cases d <;> exact same (by decide)
  | _ => exact same (by simp [footprint, requestParts])

/-! ### The store's queue (R40) -/

/-- The store's queue keeps its bound. -/
def QueueKept (s t : State) : Prop := s.store.queue.length ≤ 4 → t.store.queue.length ≤ 4

theorem QueueKept.refl (s : State) : QueueKept s s := id

theorem QueueKept.of_eq {s t : State} (h : t.store.queue = s.store.queue) : QueueKept s t := fun b => by rwa [h]

theorem QueueKept.trans {s t u : State} (h : QueueKept s t) (g : QueueKept t u) : QueueKept s u := g ∘ h

theorem Store.StagedFrom.queue_eq {st st' : Store} (h : st.StagedFrom st') : st'.queue = st.queue := by
  have same := congrArg Store.queue h.rest
  exact same

theorem QueueKept.of_stages {s t : State} (h : StagesOnly s t) : QueueKept s t := .of_eq (Store.StagedFrom.queue_eq h)

theorem QueueKept.of_within {ps : List Part} {s t : State} (h : Within ps s t) (hp : .store ∉ ps) : QueueKept s t :=
  .of_eq (by rw [h.store_eq hp])

/-- Starting the oldest of some requests leaves at most the others queued (R39). -/
theorem State.length_startQueued_le (q : List StoreRequest) (s : State) :
    (State.startQueued q s).store.queue.length ≤ q.length - 1 := by
  induction q generalizing s with
  | nil => exact Nat.le_refl 0
  | cons r rest ih =>
    obtain ⟨t, queue, -, -, -, ⟨eq, -⟩ | ⟨eq, -⟩⟩ := State.startStore_cases { s with store.queue := rest } r
      <;> rw [State.startQueued, eq]
    · exact Nat.le_of_eq (congrArg List.length queue)
    · exact (ih t).trans (Nat.sub_le _ _)

theorem State.finishStore_queueKept (s : State) (r : StoreRequest) (code : Code) : QueueKept s (s.finishStore r code) := by
  have completed : (s.completeStore r code).store.queue = s.store.queue := by rw [State.completeStore_store]
  unfold State.finishStore State.continueStore
  split
  · exact .of_eq completed
  · intro bound
    refine (State.length_startQueued_le _ _).trans ((Nat.sub_le _ _).trans ?_)
    rw [completed]
    exact bound

theorem State.endProgram_queueKept (s : State) (op : StoreOp) (offset : Nat) : QueueKept s (s.endProgram op offset) := by
  unfold State.endProgram
  extract_lets result block s1
  have programmed : QueueKept s s1 := by
    refine .of_eq ?_
    change (s.store.setBytes offset result.1).queue = _
    rw [Store.setBytes_eq]
  clear_value s1
  split
  · exact programmed.trans (State.finishStore_queueKept _ _ _)
  · exact (programmed.trans (.of_within (s1.raise_within _ _) (by decide))).trans (State.finishStore_queueKept _ _ _)

theorem State.endErase_queueKept (s : State) (op : StoreOp) (block : Nat) : QueueKept s (s.endErase op block) := by
  unfold State.endErase
  refine QueueKept.trans ?_ (State.finishStore_queueKept _ _ _)
  exact .of_eq rfl

theorem State.endLock_queueKept (s : State) (op : StoreOp) : QueueKept s (s.endLock op) := by
  unfold State.endLock
  refine QueueKept.trans ?_ (State.finishStore_queueKept _ _ _)
  exact .of_eq rfl

theorem State.placeOrRefuse_queueKept (s : State) (rec : List Byte) {refusal : Option Code}
    (room : refusal = none → s.store.full = false) (work : StoreWork) :
    QueueKept s (s.placeOrRefuse rec refusal work).1 := by
  unfold State.placeOrRefuse
  split
  · exact .refl s
  · unfold State.placeStore
    have notFull : s.store.queue.length < 4 := Nat.lt_of_not_le (of_decide_eq_false (room rfl))
    intro _
    split
    · have := State.length_startQueued_le ({ tag := reqTag rec, work := work } :: s.store.queue) s
      exact this.trans (Nat.le_of_lt notFull)
    · change (s.store.queue ++ [_]).length ≤ 4
      rw [List.length_append]
      exact notFull

theorem checkRead_room {s : State} {rec : List Byte} (h : checkRead s rec = none) : s.store.full = false := by
  unfold checkRead at h
  dsimp only at h
  repeat' split at h
  all_goals try contradiction
  exact eq_false_of_ne_true ‹_›

theorem checkProgram_room {s : State} {rec : List Byte} (h : checkProgram s rec = none) : s.store.full = false := by
  unfold checkProgram at h
  dsimp only at h
  repeat' split at h
  all_goals try contradiction
  exact eq_false_of_ne_true ‹_›

theorem checkErase_room {s : State} {rec : List Byte} (h : checkErase s rec = none) : s.store.full = false := by
  unfold checkErase at h
  repeat' split at h
  all_goals try contradiction
  exact eq_false_of_ne_true ‹_›

theorem checkLock_room {s : State} {rec : List Byte} (h : checkLock s rec = none) : s.store.full = false := by
  unfold checkLock at h
  repeat' split at h
  all_goals try contradiction
  exact eq_false_of_ne_true ‹_›

theorem State.takeKind_queueKept (s : State) (kind : Nat) {owner : OwnerAct}
    (h : ∀ rec, QueueKept s (owner rec s).1) : QueueKept s (s.takeKind kind owner) := by
  have ended : ∀ (t : State) rec e, QueueKept t (t.ended rec e) := fun t rec e =>
    .of_within (t.ended_within rec e) (by decide)
  unfold State.takeKind
  split
  · exact .refl s
  · unfold State.takeRecord
    split
    · exact ended s _ _
    · exact (h _).trans (ended _ _ _)

theorem State.afterStaging_queueKept (s : State) : QueueKept s s.afterStaging := by
  unfold State.afterStaging
  split
  · exact .refl s
  · exact .refl s
  · intro bound
    have := State.length_startQueued_le s.store.queue { s with store.staging := none }
    omega

theorem State.closeLoad_queueKept (s : State) (st : StartupState) : QueueKept s (s.closeLoad st) := by
  unfold State.closeLoad
  extract_lets entered engine s1 s2
  have started : QueueKept s s1 := by
    refine .of_stages ((State.startReverse_stages _).after ?_)
    exact (s.enterRunning_within st).store_eq (by decide)
  have shown : s2.store = s1.store.heldByLoad := (State.startDisplays_within _).store_eq (by decide)
  have held : QueueKept s1 s2 := by
    refine .of_eq ?_
    rw [shown]
    unfold Store.heldByLoad
    split <;> rfl
  clear_value s1 s2
  refine (started.trans held).trans (.of_eq ?_)
  change (s2.store.entersIdle s2.time).queue = _
  unfold Store.entersIdle
  split <;> rfl

theorem execLoadStepComplete_queueKept {s t : State} (h : execLoadStepComplete s = .next t) : QueueKept s t := by
  unfold execLoadStepComplete at h
  split at h; · obtain rfl := Host.Outcome.next.inj h; exact .refl _
  split at h
  · obtain rfl := Host.Outcome.next.inj h
    unfold State.loadProtection
    extract_lets store startup s1
    refine QueueKept.trans (t := s1) (.of_eq rfl) ?_
    refine .of_stages (StagesOnly.foldl (fun t b => ?_) _ s1)
    split
    · exact .of_eq (by simp)
    · exact .refl t
  split at h
  · obtain rfl := Host.Outcome.next.inj h
    unfold State.loadLayout
    split
    · exact s.closeLoad_queueKept _
    · exact .of_eq rfl
  split at h
  · obtain rfl := Host.Outcome.next.inj h
    exact .of_eq (by rw [s.loadCalibration_store])
  split at h <;> obtain rfl := Host.Outcome.next.inj h
  · exact .of_eq rfl
  · exact QueueKept.trans (.of_within s.loadFallback_within (by decide)) (State.closeLoad_queueKept _ _)

theorem exec_queueKept {c : Instr} {s t : State} (h : exec c s = .next t) : QueueKept s t := by
  have same : .store ∉ footprint c → QueueKept s t := .of_within (exec_within c s t h)
  cases c with
  | powerOnReset => cases h; exact fun _ => Nat.zero_le 4
  | pinReset => cases h; exact fun _ => Nat.zero_le 4
  | loadStepComplete => exact execLoadStepComplete_queueKept h
  | lossOfLink =>
    simp only [exec, execLossOfLink] at h
    split at h <;> obtain rfl := Host.Outcome.next.inj h
    · refine .of_stages (StagesOnly.then ?_ ((State.tellReverse_within _ _).store_eq (by decide)))
      exact (State.systemRestart_stages _).after rfl
    · exact .refl s
  | dramGrant =>
    simp only [exec, execDramGrant] at h
    split at h <;> obtain rfl := Host.Outcome.next.inj h
    · exact .refl s
    · rename_i client _
      refine QueueKept.trans ?_ (.of_within (State.drain_within _) (by decide))
      have other : ∀ {u : State}, Within [.displays, .audio, .rw, .camera, .link, .taker, .dram]
          { s with arb := s.arb.granted client } u → QueueKept s u := fun within =>
        .of_eq (by rw [within.store_eq (by decide)])
      cases client with
      | frontScan => exact other ((State.grantScan_within _ _).mono (by decide))
      | rearLeftScan => exact other ((State.grantScan_within _ _).mono (by decide))
      | rearRightScan => exact other ((State.grantScan_within _ _).mono (by decide))
      | camera => exact other ((State.grantCamera_within _).mono (by decide))
      | audio => exact other ((State.grantAudio_within _).mono (by decide))
      | report => exact other ((State.grantReport_within _).mono (by decide))
      | link => exact other ((State.grantLink_within _).mono (by decide))
      | store =>
        change QueueKept s (State.grantStore { s with arb := s.arb.granted .store })
        unfold State.grantStore
        split
        · exact .refl s
        · exact .of_eq rfl
        · extract_lets store s1
          obtain ⟨op, eq, -⟩ := s1.store.takeSource_eq (s.dram.readBytes _ _) s.time
          refine .of_eq ?_
          change (s1.store.takeSource _ _).queue = _
          rw [eq]
  | playChime => cases h; exact s.takeKind_queueKept 14 fun rec => .of_stages (ownPlayChime_stages rec s)
  | stopChimes => cases h; exact s.takeKind_queueKept 15 fun rec => .of_stages (ownStopChimes_stages rec s)
  | storeRead => cases h; exact s.takeKind_queueKept 16 fun rec => s.placeOrRefuse_queueKept rec checkRead_room _
  | storeProgram => cases h; exact s.takeKind_queueKept 17 fun rec => s.placeOrRefuse_queueKept rec checkProgram_room _
  | storeErase => cases h; exact s.takeKind_queueKept 18 fun rec => s.placeOrRefuse_queueKept rec checkErase_room _
  | storeLockCalibration => cases h; exact s.takeKind_queueKept 19 fun rec => s.placeOrRefuse_queueKept rec checkLock_room _
  | systemRestart =>
    simp only [exec, execSystemRestart] at h
    split at h <;> obtain rfl := Host.Outcome.next.inj h
    · exact .refl s
    · exact .of_stages (s.takeSystemRestart_stages _)
  | storeProgramComplete =>
    simp only [exec, execStoreProgramComplete] at h
    repeat' split at h
    all_goals obtain rfl := Host.Outcome.next.inj h
    case isTrue => exact s.endProgram_queueKept _ _
    all_goals exact .refl s
  | storeEraseComplete =>
    simp only [exec, execStoreEraseComplete] at h
    repeat' split at h
    all_goals obtain rfl := Host.Outcome.next.inj h
    case isTrue => exact s.endErase_queueKept _ _
    all_goals exact .refl s
  | storeReadComplete =>
    simp only [exec, execStoreReadComplete] at h
    repeat' split at h
    all_goals obtain rfl := Host.Outcome.next.inj h
    case isTrue =>
      unfold State.endRead
      split
      · exact State.finishStore_queueKept _ _ _
      · exact QueueKept.trans (.of_within (s.raise_within _ _) (by decide)) (State.finishStore_queueKept _ _ _)
    all_goals exact .refl s
  | lockWriteComplete =>
    simp only [exec, execLockWriteComplete] at h
    repeat' split at h
    all_goals obtain rfl := Host.Outcome.next.inj h
    case isTrue => exact s.endLock_queueKept _
    all_goals exact .refl s
  | suspensionAsk =>
    simp only [exec, execSuspensionAsk] at h
    repeat' split at h
    all_goals obtain rfl := Host.Outcome.next.inj h
    all_goals exact .of_eq rfl
  | suspensionTakesEffect =>
    simp only [exec, execSuspensionTakesEffect] at h
    repeat' split at h
    all_goals obtain rfl := Host.Outcome.next.inj h
    all_goals exact .of_eq rfl
  | stagingComplete =>
    simp only [exec, execStagingComplete] at h
    repeat' split at h
    all_goals obtain rfl := Host.Outcome.next.inj h
    case isTrue =>
      refine QueueKept.trans ?_ (.of_stages (State.settle_stages _))
      refine QueueKept.trans ?_ (State.afterStaging_queueKept _)
      exact .of_within (s.stagedAnswer_within _) (by decide)
    all_goals exact .refl s
  | canFrame ident dlc data => exact .of_stages (execCanFrame_stages h)
  | freshnessExpiry g => exact .of_stages (execFreshnessExpiry_stages h)
  | stalePeriodEnd => exact .of_stages (execStalePeriodEnd_stages h)
  | pinDebounceExpiry => exact .of_stages (execPinDebounceExpiry_stages h)
  | parkOfferTime => exact .of_stages (execParkOfferTime_stages h)
  | chimeEnd d =>
    simp only [exec, execChimeEnd] at h
    repeat' split at h
    all_goals obtain rfl := Host.Outcome.next.inj h
    case isTrue => exact .of_stages (s.endChime_stages d _)
    all_goals exact .refl s
  | displayFrameBoundary d => cases d <;> exact same (by decide)
  | _ => exact same (by simp [footprint, requestParts])

end Sys2Proof.Machine

end

/-! ## Proofs: bounds of the request taker's indices and of the response list -/
section

namespace Sys2Proof.Machine

/-- Both ring indices of the taker lie in the ring (R20), and the response list holds at most 16 (R3). -/
def State.LinkInBounds (s : State) : Prop :=
  (s.taker.consumer < 256 ∧ s.taker.producer < 256) ∧ s.link.responses.length ≤ 16

/-- The taker's and the response list's bounds are kept. -/
def LinkKept (s t : State) : Prop := s.LinkInBounds → t.LinkInBounds

theorem LinkKept.refl (s : State) : LinkKept s s := id

theorem LinkKept.trans {s t u : State} (h : LinkKept s t) (g : LinkKept t u) : LinkKept s u := g ∘ h

theorem LinkKept.of_same {s t : State} (consumer : t.taker.consumer = s.taker.consumer)
    (producer : t.taker.producer = s.taker.producer) (responses : t.link.responses = s.link.responses) : LinkKept s t := by
  intro h
  unfold State.LinkInBounds
  rw [consumer, producer, responses]
  exact h

theorem LinkKept.of_within {ps : List Part} {s t : State} (h : Within ps s t) (ht : .taker ∉ ps) (hl : .link ∉ ps) :
    LinkKept s t := by
  have taker : t.taker = s.taker := h .taker ht
  have link : t.link = s.link := h .link hl
  exact .of_same (by rw [taker]) (by rw [taker]) (by rw [link])

theorem LinkKept.foldl {α : Type} {f : State → α → State} (h : ∀ s x, LinkKept s (f s x)) (xs : List α) (s : State) :
    LinkKept s (xs.foldl f s) := by
  induction xs generalizing s with
  | nil => exact .refl s
  | cons x xs ih => exact (h s x).trans (ih (f s x))

/-! ### Responses -/

theorem length_answerReady_le (rs : List AwaitedRead) (sent : List Response) :
    (answerReady rs sent).1.length ≤ rs.length := by
  induction rs generalizing sent with
  | nil => exact Nat.le_refl 0
  | cons r rest ih =>
    rw [answerReady]
    split
    · exact Nat.le_refl _
    · exact (ih _).trans (Nat.le_succ _)

theorem LinkPort.length_sendReady_le (p : LinkPort) : p.sendReady.responses.length ≤ p.responses.length :=
  length_answerReady_le _ _

theorem length_answerFirst (data : List Byte) (rs : List AwaitedRead) : (answerFirst data rs).length = rs.length := by
  induction rs with
  | nil => rfl
  | cons r rest ih =>
    rw [answerFirst]
    split
    · rfl
    · exact congrArg (· + 1) ih

/-! ### Transactions -/

theorem State.startFetch_linkKept (s : State) : LinkKept s s.startFetch := by
  unfold State.startFetch
  split
  · exact .refl s
  · split
    · exact .of_same rfl rfl rfl
    · exact .refl s

theorem State.captureWord_linkKept (page addr : Nat) (lanes : List (Option Byte)) (s : State) (offset : Nat) :
    LinkKept s (s.captureWord page addr lanes offset) := by
  have raised : ∀ k n, LinkKept s (s.raise k n) := fun k n => .of_within (s.raise_within k n) (by decide) (by decide)
  unfold State.captureWord
  split
  · exact .refl s
  · exact raised _ _
  · unfold State.handWord
    split
    · unfold State.takeRequestProducer
      split
      · exact raised _ _
      · rename_i v _ _ small
        refine LinkKept.trans ?_ (State.startFetch_linkKept _)
        exact fun ⟨⟨consumer, _⟩, responses⟩ => ⟨⟨consumer, Nat.lt_of_not_le small⟩, responses⟩
    split
    · exact .of_within (.of_rwOnly (s.takeReportConsumer_eq _)) (by decide) (by decide)
    split
    · exact .refl s
    · exact .of_same rfl rfl rfl

theorem State.takeWrite_linkKept (s : State) (addr : BitVec 32) (lanes : List (Option Byte)) :
    LinkKept s (s.takeWrite addr lanes) := by
  have raised : ∀ k n, LinkKept s (s.raise k n) := fun k n => .of_within (s.raise_within k n) (by decide) (by decide)
  unfold State.takeWrite
  split
  · exact raised _ _
  · split
    · exact raised _ _
    · unfold State.passWrite
      split
      · exact .of_same rfl rfl rfl
      · refine LinkKept.trans ?_ (LinkKept.foldl (State.captureWord_linkKept _ _ _) _ _)
        exact .of_same rfl rfl rfl

/-- A read is taken only where the response list has room (R3). -/
theorem State.takeRead_linkKept (s : State) (addr : BitVec 32) (len : Nat) (room : s.link.responses.length < 16) :
    LinkKept s (s.takeRead addr len) := by
  unfold State.takeRead
  split
  · extract_lets s1 joined
    have raised : Within [.rw] s s1 := s.raise_within _ _
    have taker : s1.taker = s.taker := raised .taker (by decide)
    have link : s1.link = s.link := raised .link (by decide)
    refine fun ⟨indices, _⟩ => ⟨by rw [← taker] at indices; exact indices, ?_⟩
    refine (LinkPort.length_sendReady_le _).trans ?_
    change (s1.link.responses ++ [_]).length ≤ 16
    rw [link, List.length_append]
    exact room
  · refine fun ⟨indices, _⟩ => ⟨indices, ?_⟩
    change (s.link.responses ++ [_]).length ≤ 16
    rw [List.length_append]
    exact room

theorem State.mayTake_room {s : State} (h : s.mayTake = true) : s.link.responses.length < 16 := by
  unfold State.mayTake at h
  simp only [Bool.and_eq_true, decide_eq_true_eq] at h
  exact h.1.2

theorem State.takeTransaction_linkKept {s : State} (may : s.mayTake = true) (t : Transaction) :
    LinkKept s (s.takeTransaction t) := by
  cases t with
  | read addr len => exact s.takeRead_linkKept addr len (State.mayTake_room may)
  | write addr lanes => exact s.takeWrite_linkKept addr lanes

theorem State.drainHeld_linkKept (ts : List Transaction) (s : State) : LinkKept s (State.drainHeld ts s) := by
  induction ts generalizing s with
  | nil => exact .of_same rfl rfl rfl
  | cons t rest ih =>
    rw [State.drainHeld]
    split
    · rename_i may
      exact (State.takeTransaction_linkKept may t).trans (ih _)
    · exact .of_same rfl rfl rfl

theorem State.receive_linkKept (s : State) (t : Transaction) : LinkKept s (s.receive t) := by
  unfold State.receive
  split
  · exact .refl s
  split
  · exact .of_same rfl rfl rfl
  · rename_i free
    refine State.takeTransaction_linkKept ?_ t
    exact eq_true_of_ne_false fun may => free (.inr may)

theorem State.writeWord_linkKept (s : State) (offset : Nat) (v : BitVec 32) : LinkKept s (s.writeWord offset v) := by
  unfold State.writeWord
  split
  · exact .refl s
  · exact s.receive_linkKept _

theorem State.grantLink_linkKept (s : State) : LinkKept s s.grantLink := by
  unfold State.grantLink
  split
  · exact .refl s
  · extract_lets link s1 answered
    split
    · refine fun ⟨indices, bound⟩ => ⟨indices, (LinkPort.length_sendReady_le _).trans ?_⟩
      exact (Nat.le_of_eq (length_answerFirst _ _)).trans bound
    · exact .of_same rfl rfl rfl
  · refine LinkKept.trans ?_ (LinkKept.foldl (fun t m => ?_) _ _)
    · exact .of_same rfl rfl rfl
    · exact .of_within (t.applyProducer_within _ _) (by decide) (by decide)
  · split <;> exact .of_same rfl rfl rfl

/-! ### Requests and restart -/

theorem State.ended_linkKept (s : State) (rec : List Byte) (e : Ending) : LinkKept s (s.ended rec e) := by
  obtain ⟨consumer, producer, link⟩ := State.ended_tookRecord (s := s) rec e rfl rfl
  rintro ⟨⟨_, low⟩, responses⟩
  refine ⟨⟨by rw [consumer]; exact Nat.mod_lt _ (by decide), by rwa [producer]⟩, ?_⟩
  rcases link with same | ⟨a, same⟩ <;> rw [same] <;> exact responses

theorem State.takeKind_linkKept {ps : List Part} (s : State) (kind : Nat) {owner : OwnerAct}
    (h : ∀ rec, Within ps s (owner rec s).1) (ht : .taker ∉ ps) (hl : .link ∉ ps) : LinkKept s (s.takeKind kind owner) := by
  unfold State.takeKind
  split
  · exact .refl s
  · unfold State.takeRecord
    split
    · exact s.ended_linkKept _ _
    · exact LinkKept.trans (.of_within (h _) ht hl) (State.ended_linkKept _ _ _)

/-- A system restart empties the taker and leaves the response list (R25, R36). -/
theorem State.systemRestart_linkKept (s : State) : LinkKept s s.systemRestart := by
  have restarted : LinkKept s s.restartRings := by
    unfold State.restartRings
    refine LinkKept.trans ?_ (.of_within ((State.statusNow_within _ _ _).trans (State.statusNow_within _ _ _)) (by decide) (by decide))
    exact fun ⟨_, responses⟩ => ⟨⟨Nat.zero_lt_succ 255, Nat.zero_lt_succ 255⟩, responses⟩
  unfold State.systemRestart
  extract_lets s1 s2
  have streams : LinkKept s.restartRings s1 := .of_within s.restartRings.restartStreams_within (by decide) (by decide)
  have dropped : ∀ t : State, Within [.audio] t (allDisplays.foldl State.dropSystemChimes t) :=
    Within.foldl (fun t d => t.dropSystemChimes_within d) _
  refine ((restarted.trans streams).trans ?_).trans (.of_within (State.settle_within _) (by decide) (by decide))
  refine LinkKept.trans ?_ (.of_within (dropped _) (by decide) (by decide))
  exact .of_same rfl rfl rfl

theorem State.tellReverse_linkKept (s : State) (r : ReverseState) : LinkKept s (s.tellReverse r) :=
  .of_within (State.tellReverse_within _ _) (by decide) (by decide)

theorem State.takeSystemRestart_linkKept (s : State) (rec : List Byte) : LinkKept s (s.takeSystemRestart rec) := by
  unfold State.takeSystemRestart
  split; · exact s.ended_linkKept _ _
  split; · exact s.ended_linkKept _ _
  refine LinkKept.trans ?_ (State.tellReverse_linkKept _ _)
  exact s.systemRestart_linkKept.trans (.of_within (State.endRequest_within _ _ _) (by decide) (by decide))

theorem exec_linkKept {c : Instr} {s t : State} (h : exec c s = .next t) : LinkKept s t := by
  have neither : .taker ∉ footprint c → .link ∉ footprint c → LinkKept s t := .of_within (exec_within c s t h)
  have reset : LinkKept s s.afterReset := fun _ =>
    have bounds := State.bounded_reset
    ⟨bounds.requestRing, bounds.responses⟩
  cases c with
  | powerOnReset => cases h; exact reset
  | pinReset => cases h; exact reset
  | linkTraining =>
    simp only [exec, execLinkTraining] at h
    split at h <;> obtain rfl := Host.Outcome.next.inj h
    · exact .refl s
    · exact .of_same rfl rfl rfl
  | lossOfLink =>
    simp only [exec, execLossOfLink] at h
    split at h <;> obtain rfl := Host.Outcome.next.inj h
    · refine LinkKept.trans ?_ (State.tellReverse_linkKept _ _)
      refine LinkKept.trans ?_ (State.systemRestart_linkKept _)
      exact fun ⟨indices, _⟩ => ⟨indices, Nat.zero_le 16⟩
    · exact .refl s
  | linkRead addr len =>
    simp only [exec, execLinkRead] at h
    split at h
    · obtain rfl := Host.Outcome.next.inj h
      exact s.receive_linkKept _
    · exact nomatch h
  | linkWrite addr lanes =>
    simp only [exec, execLinkWrite] at h
    split at h
    · obtain rfl := Host.Outcome.next.inj h
      exact s.receive_linkKept _
    · exact nomatch h
  | requestProducerIndex v => cases h; exact s.writeWord_linkKept _ v
  | reportConsumerIndex v => cases h; exact s.writeWord_linkKept _ v
  | mediaProducerIndex d v => cases h; exact s.writeWord_linkKept _ v
  | dramGrant =>
    simp only [exec, execDramGrant] at h
    split at h <;> obtain rfl := Host.Outcome.next.inj h
    · exact .refl s
    · rename_i client _
      refine LinkKept.trans ?_ (State.drainHeld_linkKept _ _)
      have other : ∀ {u : State}, Within [.displays, .audio, .rw, .camera, .store, .dram]
          { s with arb := s.arb.granted client } u → LinkKept s u := fun within =>
        LinkKept.trans (t := { s with arb := s.arb.granted client }) (.of_same rfl rfl rfl)
          (.of_within within (by decide) (by decide))
      cases client with
      | frontScan => exact other ((State.grantScan_within _ _).mono (by decide))
      | rearLeftScan => exact other ((State.grantScan_within _ _).mono (by decide))
      | rearRightScan => exact other ((State.grantScan_within _ _).mono (by decide))
      | camera => exact other ((State.grantCamera_within _).mono (by decide))
      | audio => exact other ((State.grantAudio_within _).mono (by decide))
      | report => exact other ((State.grantReport_within _).mono (by decide))
      | store => exact other ((State.grantStore_within _).mono (by decide))
      | link => exact LinkKept.trans (.of_same rfl rfl rfl) (State.grantLink_linkKept { s with arb := s.arb.granted .link })
  | unknownRequestKind =>
    simp only [exec, execUnknownRequestKind] at h
    repeat' split at h
    all_goals obtain rfl := Host.Outcome.next.inj h
    case isTrue =>
      unfold State.takeRecord
      split <;> exact s.ended_linkKept _ _
    all_goals exact .refl s
  | publish => cases h; exact s.takeKind_linkKept 1 (fun rec => ownPublish_within rec s) (by decide) (by decide)
  | setLayer => cases h; exact s.takeKind_linkKept 2 (fun rec => ownSetLayer_within rec s) (by decide) (by decide)
  | holdChanges => cases h; exact s.takeKind_linkKept 3 (fun rec => ownHold_within true rec s) (by decide) (by decide)
  | releaseChanges => cases h; exact s.takeKind_linkKept 4 (fun rec => ownHold_within false rec s) (by decide) (by decide)
  | pushView => cases h; exact s.takeKind_linkKept 5 (fun rec => ownPushView_within rec s) (by decide) (by decide)
  | popView => cases h; exact s.takeKind_linkKept 6 (fun rec => ownPopView_within rec s) (by decide) (by decide)
  | showCamera => cases h; exact s.takeKind_linkKept 7 (fun rec => ownShowCamera_within rec s) (by decide) (by decide)
  | closeCamera => cases h; exact s.takeKind_linkKept 8 (fun rec => ownCloseCamera_within rec s) (by decide) (by decide)
  | defineRegion => cases h; exact s.takeKind_linkKept 9 (fun rec => ownDefineRegion_within rec s) (by decide) (by decide)
  | deleteRegion => cases h; exact s.takeKind_linkKept 10 (fun rec => ownDeleteRegion_within rec s) (by decide) (by decide)
  | audioStart => cases h; exact s.takeKind_linkKept 11 (fun rec => ownAudioStart_within rec s) (by decide) (by decide)
  | audioStop => cases h; exact s.takeKind_linkKept 12 (fun rec => ownAudioStop_within rec s) (by decide) (by decide)
  | audioGain => cases h; exact s.takeKind_linkKept 13 (fun rec => ownAudioGain_within rec s) (by decide) (by decide)
  | playChime => cases h; exact s.takeKind_linkKept 14 (fun rec => ownPlayChime_within rec s) (by decide) (by decide)
  | stopChimes => cases h; exact s.takeKind_linkKept 15 (fun rec => ownStopChimes_within rec s) (by decide) (by decide)
  | storeRead => cases h; exact s.takeKind_linkKept 16 (fun rec => s.placeOrRefuse_within rec _ _) (by decide) (by decide)
  | storeProgram => cases h; exact s.takeKind_linkKept 17 (fun rec => s.placeOrRefuse_within rec _ _) (by decide) (by decide)
  | storeErase => cases h; exact s.takeKind_linkKept 18 (fun rec => s.placeOrRefuse_within rec _ _) (by decide) (by decide)
  | storeLockCalibration =>
    cases h; exact s.takeKind_linkKept 19 (fun rec => s.placeOrRefuse_within rec _ _) (by decide) (by decide)
  | setFaultMask => cases h; exact s.takeKind_linkKept 20 (fun rec => ownSetFaultMask_within rec s) (by decide) (by decide)
  | clearFaults => cases h; exact s.takeKind_linkKept 21 (fun rec => ownClearFaults_within rec s) (by decide) (by decide)
  | systemRestart =>
    simp only [exec, execSystemRestart] at h
    split at h <;> obtain rfl := Host.Outcome.next.inj h
    · exact .refl s
    · exact s.takeSystemRestart_linkKept _
  | displayFrameBoundary d => cases d <;> exact neither (by decide) (by decide)
  | _ => exact neither (by simp [footprint]) (by simp [footprint])

end Sys2Proof.Machine

end

/-! ## Proofs: hold counts and presentation queues -/
section

namespace Sys2Proof.Machine

/-! ### A region table and the frames that name its regions (R11) -/

/-- Each FRAME region's hold count is the number of frames that name it; ids are distinct and each frame names a FRAME
region. -/
structure HoldsAre (regions : List Region) (es : List QueueEntry) : Prop where
  distinct : (regions.map Region.ident).Nodup
  counts : ∀ r ∈ regions, r.kind = .frame → r.hold = es.countP fun e => e.region == r.ident
  present : ∀ e ∈ es, ∃ r ∈ regions, r.ident = e.region ∧ r.kind = .frame

theorem HoldsAre.perm {regions : List Region} {es fs : List QueueEntry} (h : HoldsAre regions es) (same : es.Perm fs) :
    HoldsAre regions fs where
  distinct := h.distinct
  counts r hr frame := (h.counts r hr frame).trans (same.countP_eq _)
  present e he := h.present e (same.mem_iff.2 he)

theorem updateRegion_idents {regions : List Region} (ident : Nat) {f : Region → Region} (same : ∀ r, (f r).ident = r.ident) :
    (updateRegion regions ident f).map Region.ident = regions.map Region.ident := by
  unfold updateRegion
  rw [List.map_map]
  refine List.map_congr_left fun r _ => ?_
  simp only [Function.comp]
  split
  · exact same r
  · rfl

theorem mem_updateRegion {regions : List Region} {ident : Nat} {f : Region → Region} {r : Region} :
    r ∈ updateRegion regions ident f ↔ ∃ x ∈ regions, r = if x.ident = ident then f x else x := by
  unfold updateRegion
  rw [List.mem_map]
  exact ⟨fun ⟨x, hx, eq⟩ => ⟨x, hx, eq.symm⟩, fun ⟨x, hx, eq⟩ => ⟨x, hx, eq.symm⟩⟩

theorem HoldsAre.update {regions : List Region} {es fs : List QueueEntry} (h : HoldsAre regions es) {ident : Nat}
    {f : Region → Region} (names : ∀ r, (f r).ident = r.ident) (kinds : ∀ r, (f r).kind = r.kind)
    (counts : ∀ r ∈ regions, r.kind = .frame →
      (if r.ident = ident then f r else r).hold = fs.countP fun e => e.region == r.ident)
    (present : ∀ e ∈ fs, ∃ r ∈ regions, r.ident = e.region ∧ r.kind = .frame) : HoldsAre (updateRegion regions ident f) fs where
  distinct := by
    rw [updateRegion_idents ident names]
    exact h.distinct
  counts r hr frame := by
    obtain ⟨x, hx, rfl⟩ := mem_updateRegion.1 hr
    have kind : x.kind = .frame := by
      split at frame
      · rwa [kinds] at frame
      · exact frame
    rw [counts x hx kind]
    split
    · rw [names]
    · rfl
  present e he := by
    obtain ⟨r, hr, ident', frame⟩ := present e he
    refine ⟨_, mem_updateRegion.2 ⟨r, hr, rfl⟩, ?_, ?_⟩
    · split
      · rw [names]; exact ident'
      · exact ident'
    · split
      · rw [kinds]; exact frame
      · exact frame

/-- A frame is released (R11). -/
theorem HoldsAre.holdDown {regions : List Region} {e : QueueEntry} {es : List QueueEntry} (h : HoldsAre regions (e :: es)) :
    HoldsAre (holdDown regions e.region) es := by
  refine h.update (fun _ => rfl) (fun _ => rfl) (fun r hr frame => ?_) fun x hx => h.present x (List.mem_cons_of_mem e hx)
  have count := h.counts r hr frame
  rw [List.countP_cons] at count
  by_cases named : r.ident = e.region
  · simp [named] at count ⊢
    omega
  · simpa [named, Ne.symm named] using count

/-- A frame that names a FRAME region joins a queue (R11). -/
theorem HoldsAre.holdUp {regions : List Region} {e : QueueEntry} {es : List QueueEntry} (h : HoldsAre regions es)
    (known : ∃ r ∈ regions, r.ident = e.region ∧ r.kind = .frame) : HoldsAre (holdUp regions e.region) (e :: es) := by
  refine h.update (fun _ => rfl) (fun _ => rfl) (fun r hr frame => ?_) fun x hx => ?_
  · have count := h.counts r hr frame
    rw [List.countP_cons]
    by_cases named : r.ident = e.region
    · simp [named] at count ⊢
      omega
    · simpa [named, Ne.symm named] using count
  · rcases List.mem_cons.1 hx with rfl | old
    · exact known
    · exact h.present x old

/-- A stream is attached to a region, or detached (R12). -/
theorem HoldsAre.stream {regions : List Region} {es : List QueueEntry} (h : HoldsAre regions es) (ident : Nat)
    (stream : Option Display) : HoldsAre (updateRegion regions ident fun r => { r with stream := stream }) es := by
  refine h.update (fun _ => rfl) (fun _ => rfl) (fun r hr frame => ?_) h.present
  rw [← h.counts r hr frame]
  split <;> rfl

theorem lowestFreeId_free {regions : List Region} (room : regions.length < 64) :
    lowestFreeId regions ∉ regions.map Region.ident := by
  unfold lowestFreeId
  cases found : (List.range 64).find? fun i => (findRegion regions i).isNone with
  | some i =>
    have none := List.find?_some found
    rw [findRegion, Option.isNone_iff_eq_none, List.find?_eq_none] at none
    intro held
    obtain ⟨r, hr, rfl⟩ := List.mem_map.1 held
    exact none r hr (by simp)
  | none =>
    refine absurd ?_ (Nat.not_le.2 room)
    have all : List.range 64 ⊆ regions.map Region.ident := fun i hi => by
      have held := List.find?_eq_none.1 found i hi
      rw [Option.isNone_iff_eq_none, ← ne_eq, Option.ne_none_iff_exists'] at held
      obtain ⟨r, eq⟩ := held
      exact List.mem_map.2 ⟨r, List.mem_of_find?_eq_some eq, by simpa using List.find?_some eq⟩
    simpa using (List.nodup_range.subperm all).length_le

/-- A new region, held by no frame, under a free id (R9). -/
theorem HoldsAre.define {regions : List Region} {es : List QueueEntry} (h : HoldsAre regions es) {r : Region}
    (free : r.ident ∉ regions.map Region.ident) (hold : r.hold = 0) : HoldsAre (regions ++ [r]) es where
  distinct := by
    rw [List.map_append]
    refine List.Nodup.append h.distinct (List.nodup_singleton _) ?_
    simpa using free
  counts x hx frame := by
    rcases List.mem_append.1 hx with old | new
    · exact h.counts x old frame
    · rw [List.mem_singleton.1 new, hold]
      refine (List.countP_eq_zero.2 fun e he named => free ?_).symm
      obtain ⟨y, hy, ident, _⟩ := h.present e he
      exact List.mem_map.2 ⟨y, hy, ident.trans (by simpa using named)⟩
  present e he := by
    obtain ⟨y, hy, named⟩ := h.present e he
    exact ⟨y, List.mem_append_left _ hy, named⟩

/-- A region that no frame names leaves the table (R10). -/
theorem HoldsAre.delete {regions : List Region} {es : List QueueEntry} (h : HoldsAre regions es) {ident : Nat}
    (unnamed : ∀ e ∈ es, e.region ≠ ident) : HoldsAre (regions.filter fun x => x.ident != ident) es where
  distinct := h.distinct.sublist (List.filter_sublist.map _)
  counts r hr := h.counts r (List.mem_filter.1 hr).1
  present e he := by
    obtain ⟨r, hr, named, frame⟩ := h.present e he
    exact ⟨r, List.mem_filter.2 ⟨hr, by simpa [named] using unnamed e he⟩, named, frame⟩

/-- With no frame queued every hold count is 0. -/
theorem HoldsAre.none {regions : List Region} (distinct : (regions.map Region.ident).Nodup)
    (holds : ∀ r ∈ regions, r.hold = 0) : HoldsAre regions [] :=
  ⟨distinct, fun r hr _ => by rw [holds r hr]; rfl, fun _ he => (nomatch he)⟩

theorem HoldsAre.restart {regions : List Region} {es : List QueueEntry} (h : HoldsAre regions es) :
    HoldsAre (restartRegions regions) [] := by
  refine .none ?_ fun r hr => ?_
  · unfold restartRegions
    rw [List.map_map]
    exact h.distinct.sublist (List.filter_sublist.map _)
  · obtain ⟨x, -, rfl⟩ := List.mem_map.1 hr
    rfl

/-! ### The layers of the six queues -/

theorem State.layer_setLayer {s : State} {d e : Display} {l m : ScanLayer} (hl : l ≠ .camera) (hm : m ≠ .camera)
    (v : LayerState) : (s.setLayer d l v).layer e m = if e = d ∧ m = l then v else s.layer e m := by
  unfold State.layer State.setLayer
  rw [State.updateDisplay_get]
  by_cases same : e = d
  · subst same
    cases l <;> cases m <;> simp_all [DisplayState.putLayer, DisplayState.layer]
  · simp [same]

theorem State.entries_eq (s : State) : s.entries = (s.layer .front .video).entries ++ (s.layer .front .menu).entries
    ++ (s.layer .rearLeft .video).entries ++ (s.layer .rearLeft .menu).entries ++ (s.layer .rearRight .video).entries
    ++ (s.layer .rearRight .menu).entries := rfl

/-- The frames of all six queues are those of one layer and others, which a change of that layer leaves. -/
theorem State.entries_layer (s : State) (d : Display) {l : ScanLayer} (hl : l ≠ .camera) :
    ∃ others, s.entries.Perm ((s.layer d l).entries ++ others) ∧
      ∀ v, (s.setLayer d l v).entries.Perm (v.entries ++ others) := by
  have emptied : LayerState.entries { s.layer d l with queue := [], current := none } = [] := rfl
  have split : ∀ v, (s.setLayer d l v).entries.Perm
      (v.entries ++ (s.setLayer d l { s.layer d l with queue := [], current := none }).entries) := fun v => by
    simp only [State.entries_eq, List.perm_iff_count, List.count_append]
    intro e
    cases d <;> cases l <;> simp [State.layer_setLayer, emptied] at hl ⊢ <;> omega
  refine ⟨_, ?_, split⟩
  have same : s.setLayer d l (s.layer d l) = s := by
    cases d <;> cases l <;> rfl
  have whole := split (s.layer d l)
  rwa [same] at whole

/-! ### Accounting: the frames of the queues and those still to be released -/

/-- Hold counts agree with the frames of the queues and `gone`, the frames taken out of a queue and still to be released. -/
def State.Accounted (s : State) (gone : List QueueEntry) : Prop := HoldsAre s.regions (s.entries ++ gone)

theorem State.Accounted.perm {s : State} {es fs : List QueueEntry} (h : s.Accounted es) (same : es.Perm fs) :
    s.Accounted fs := HoldsAre.perm h (same.append_left _)

theorem State.Accounted.of_eq {s t : State} {es : List QueueEntry} (h : s.Accounted es) (regions : t.regions = s.regions)
    (entries : t.entries = s.entries) : t.Accounted es := by
  unfold State.Accounted
  rw [regions, entries]
  exact h

/-- Frames leave a layer's queue and are still to be released. -/
theorem State.Accounted.setLayer {s : State} {es : List QueueEntry} (h : s.Accounted es) (d : Display) {l : ScanLayer}
    (hl : l ≠ .camera) {v : LayerState} {gone : List QueueEntry} (left : (s.layer d l).entries.Perm (v.entries ++ gone)) :
    (s.setLayer d l v).Accounted (gone ++ es) := by
  obtain ⟨others, before, after⟩ := s.entries_layer d hl
  refine HoldsAre.perm h ?_
  rw [← List.append_assoc]
  refine List.Perm.append_right es ?_
  calc s.entries
    _ |>.Perm ((s.layer d l).entries ++ others) := before
    _ |>.Perm ((v.entries ++ gone) ++ others) := left.append_right _
    _ |>.Perm ((v.entries ++ others) ++ gone) := by
      rw [List.append_assoc, List.append_assoc]
      exact List.perm_append_comm.append_left _
    _ |>.Perm ((s.setLayer d l v).entries ++ gone) := (after v).symm.append_right _

theorem State.entries_of_displays {s t : State} (h : t.displays = s.displays) : t.entries = s.entries := by
  unfold State.entries
  rw [h]

theorem State.Accounted.release {s : State} {e : QueueEntry} {es : List QueueEntry} (h : s.Accounted (e :: es))
    (d : Display) {l : ScanLayer} (hl : l ≠ .camera) (shown : Nat) : (s.release d l e shown).Accounted es := by
  unfold State.release
  extract_lets v counted
  have lowered : State.Accounted { s with regions := holdDown s.regions e.region } es :=
    HoldsAre.holdDown (HoldsAre.perm h List.perm_middle)
  have same : ((({ s with regions := holdDown s.regions e.region } : State).layer d l)).entries.Perm (counted.entries ++ []) := by
    rw [List.append_nil]
    unfold counted
    split <;> exact .refl _
  exact (lowered.setLayer d hl same).of_eq (State.post_regions _ _) (State.entries_of_displays (State.post_displays _ _))

theorem State.Accounted.releaseCurrent {s : State} {es : List QueueEntry} (d : Display) {l : ScanLayer}
    (hl : l ≠ .camera) {c : Option (QueueEntry × Nat)} (h : s.Accounted ((c.map Prod.fst).toList ++ es)) :
    (s.releaseCurrent d l c).Accounted es := by
  cases c with
  | none => exact h
  | some c => exact State.Accounted.release h d hl c.2

theorem State.Accounted.releaseAll {s : State} {gone es : List QueueEntry} (d : Display) {l : ScanLayer}
    (hl : l ≠ .camera) (h : s.Accounted (gone ++ es)) : (s.releaseAll d l gone).Accounted es := by
  induction gone generalizing s with
  | nil => exact h
  | cons e rest ih => exact ih (State.Accounted.release h d hl 0)

/-! ### What an operation keeps of the queues and the hold counts -/

/-- Hold counts agree with the queues (R11). -/
def State.HoldsOk (s : State) : Prop := HoldsAre s.regions s.entries

theorem State.accounted_nil {s : State} : s.Accounted [] ↔ s.HoldsOk := by
  unfold State.Accounted State.HoldsOk
  rw [List.append_nil]

/-- Every layer queue holds at most 4 entries (9.1). -/
def State.QueuesFit (s : State) : Prop := ∀ d l, (s.layer d l).queue.length ≤ 4

/-- Hold counts stay right, and no queue becomes longer: so no bound is passed, and empty queues stay empty. -/
structure FramesKept (s t : State) : Prop where
  holds : s.HoldsOk → t.HoldsOk
  shorter : ∀ d l, (t.layer d l).queue.length ≤ (s.layer d l).queue.length
  empty : s.entries = [] → t.entries = []

theorem FramesKept.refl (s : State) : FramesKept s s := ⟨id, fun _ _ => Nat.le_refl _, id⟩

theorem FramesKept.trans {s t u : State} (h : FramesKept s t) (g : FramesKept t u) : FramesKept s u :=
  ⟨g.holds ∘ h.holds, fun d l => (g.shorter d l).trans (h.shorter d l), g.empty ∘ h.empty⟩

theorem FramesKept.fit {s t : State} (h : FramesKept s t) (fit : s.QueuesFit) : t.QueuesFit := fun d l =>
  (h.shorter d l).trans (fit d l)

/-- The queues and current frames of all layers and the region table are the same. -/
def SameFrames (s t : State) : Prop := t.regions = s.regions ∧
  ∀ d l, (t.layer d l).queue = (s.layer d l).queue ∧
    (t.layer d l).current.map Prod.fst = (s.layer d l).current.map Prod.fst

theorem SameFrames.entries {s t : State} (h : SameFrames s t) : t.entries = s.entries := by
  have same : ∀ d l, (t.layer d l).entries = (s.layer d l).entries := fun d l => by
    rw [LayerState.entries, (h.2 d l).1, (h.2 d l).2]
    rfl
  simp only [State.entries_eq, same]

theorem SameFrames.kept {s t : State} (h : SameFrames s t) : FramesKept s t where
  holds ok := by
    unfold State.HoldsOk
    rw [h.1, h.entries]
    exact ok
  shorter d l := Nat.le_of_eq (congrArg List.length (h.2 d l).1)
  empty none := h.entries.trans none

theorem SameFrames.refl (s : State) : SameFrames s s := ⟨rfl, fun _ _ => ⟨rfl, rfl⟩⟩

theorem SameFrames.trans {s t u : State} (h : SameFrames s t) (g : SameFrames t u) : SameFrames s u :=
  ⟨g.1.trans h.1, fun d l => ⟨(g.2 d l).1.trans (h.2 d l).1, (g.2 d l).2.trans (h.2 d l).2⟩⟩

theorem SameFrames.of_eq {s t : State} (regions : t.regions = s.regions) (displays : t.displays = s.displays) :
    SameFrames s t := by
  refine ⟨regions, fun d l => ?_⟩
  unfold State.layer
  rw [displays]
  exact ⟨rfl, rfl⟩

theorem SameFrames.of_within {ps : List Part} {s t : State} (h : Within ps s t) (hr : .regions ∉ ps)
    (hd : .displays ∉ ps) : SameFrames s t := .of_eq (h .regions hr) (h.displays_eq hd)

theorem SameFrames.after {s t u : State} (h : SameFrames t u) (regions : t.regions = s.regions)
    (displays : t.displays = s.displays) : SameFrames s u := (SameFrames.of_eq regions displays).trans h

theorem SameFrames.foldl {α : Type} {f : State → α → State} (h : ∀ s x, SameFrames s (f s x)) (xs : List α) (s : State) :
    SameFrames s (xs.foldl f s) := by
  induction xs generalizing s with
  | nil => exact .refl s
  | cons x xs ih => exact (h s x).trans (ih (f s x))

theorem SameFrames.updateDisplay (s : State) (d : Display) {f : DisplayState → DisplayState} (video : ∀ x, (f x).video = x.video)
    (menu : ∀ x, (f x).menu = x.menu) : SameFrames s (s.updateDisplay d f) := by
  refine ⟨rfl, fun e l => ?_⟩
  unfold State.layer
  rw [State.updateDisplay_get]
  split
  · rename_i same
    subst same
    cases l <;> simp [DisplayState.layer, video, menu]
  · exact ⟨rfl, rfl⟩

theorem State.updateScan_frames (s : State) (d : Display) (f : Scan → Scan) : SameFrames s (s.updateScan d f) :=
  SameFrames.updateDisplay s d (fun _ => rfl) fun _ => rfl

theorem State.setStack_frames (s : State) (d : Display) (st : List View) : SameFrames s (s.setStack d st) :=
  SameFrames.updateDisplay s d (fun _ => rfl) fun _ => rfl

/-- A layer is set with the queue and the frame it has. -/
theorem State.setLayer_frames (s : State) (d : Display) {l : ScanLayer} {v : LayerState}
    (queue : v.queue = (s.layer d l).queue) (current : v.current.map Prod.fst = (s.layer d l).current.map Prod.fst) :
    SameFrames s (s.setLayer d l v) := by
  refine ⟨rfl, fun e m => ?_⟩
  unfold State.layer at queue current ⊢
  unfold State.setLayer
  rw [State.updateDisplay_get]
  split
  · rename_i same
    subst same
    cases l <;> cases m <;> simp_all [DisplayState.putLayer, DisplayState.layer]
  · exact ⟨rfl, rfl⟩

/-! ### Releases, selection and publishing -/

/-- A release leaves every queue as it is (R153). -/
theorem State.release_queue (s : State) (d : Display) (l : ScanLayer) (e : QueueEntry) (shown : Nat) (d' : Display)
    (m : ScanLayer) : ((s.release d l e shown).layer d' m).queue = (s.layer d' m).queue ∧
      ((s.release d l e shown).layer d' m).current = (s.layer d' m).current := by
  unfold State.release
  extract_lets v counted
  have posted : ∀ (t : State) r, (t.post r).layer d' m = t.layer d' m := fun t r => by
    unfold State.layer
    rw [State.post_displays]
  rw [posted]
  have same : counted.queue = v.queue ∧ counted.current = v.current := by
    unfold counted
    split <;> exact ⟨rfl, rfl⟩
  unfold State.layer State.setLayer
  rw [State.updateDisplay_get]
  split
  · rename_i here
    subst here
    cases l <;> cases m <;> simp [DisplayState.putLayer, DisplayState.layer, same] <;> exact ⟨rfl, rfl⟩
  · exact ⟨rfl, rfl⟩

theorem State.releaseAll_queue (s : State) (d : Display) (l : ScanLayer) (es : List QueueEntry) (d' : Display)
    (m : ScanLayer) : ((s.releaseAll d l es).layer d' m).queue = (s.layer d' m).queue ∧
      ((s.releaseAll d l es).layer d' m).current = (s.layer d' m).current := by
  induction es generalizing s with
  | nil => exact ⟨rfl, rfl⟩
  | cons e rest ih =>
    have first := s.release_queue d l e 0 d' m
    have others := ih (s.release d l e 0)
    exact ⟨others.1.trans first.1, others.2.trans first.2⟩

theorem State.releaseCurrent_queue (s : State) (d : Display) (l : ScanLayer) (c : Option (QueueEntry × Nat)) (d' : Display)
    (m : ScanLayer) : ((s.releaseCurrent d l c).layer d' m).queue = (s.layer d' m).queue ∧
      ((s.releaseCurrent d l c).layer d' m).current = (s.layer d' m).current := by
  unfold State.releaseCurrent
  split
  · exact ⟨rfl, rfl⟩
  · exact s.release_queue d l _ _ d' m

/-- A layer gives up its former current frame and some entries: they are released, and its queue has become no longer. -/
theorem State.giveUp_frames (s : State) (d : Display) {l : ScanLayer} (hl : l ≠ .camera) {v : LayerState}
    {c : Option (QueueEntry × Nat)} {gone : List QueueEntry}
    (left : (s.layer d l).entries.Perm (v.entries ++ ((c.map Prod.fst).toList ++ gone)))
    (shorter : v.queue.length ≤ (s.layer d l).queue.length) :
    FramesKept s (((s.setLayer d l v).releaseCurrent d l c).releaseAll d l gone) where
  holds ok := by
    refine State.accounted_nil.1 (State.Accounted.releaseAll d hl ?_)
    refine State.Accounted.releaseCurrent d hl ?_
    rw [List.append_nil]
    have taken := (State.accounted_nil.2 ok).setLayer d hl left
    rwa [List.append_nil] at taken
  shorter e m := by
    rw [(State.releaseAll_queue _ d l _ e m).1, (State.releaseCurrent_queue _ d l _ e m).1]
    cases m with
    | camera =>
      change ((s.setLayer d l v).layer e .menu).queue.length ≤ ((s.layer e .menu).queue).length
      rw [State.layer_setLayer hl (by decide)]
      split
      · rename_i here
        obtain ⟨rfl, rfl⟩ := here
        exact shorter
      · exact Nat.le_refl _
    | _ =>
      rw [State.layer_setLayer hl (by decide)]
      split
      · rename_i here
        obtain ⟨rfl, rfl⟩ := here
        exact shorter
      · exact Nat.le_refl _
  empty none := by
    have same : ∀ t : State, (∀ e m, (t.layer e m).queue = ((s.setLayer d l v).layer e m).queue ∧
        (t.layer e m).current = ((s.setLayer d l v).layer e m).current) → t.entries = (s.setLayer d l v).entries := fun t h => by
      simp only [State.entries_eq, LayerState.entries, fun e m => (h e m).1, fun e m => (h e m).2]
    rw [same _ fun e m => ⟨(State.releaseAll_queue _ d l _ e m).1.trans (State.releaseCurrent_queue _ d l _ e m).1,
      (State.releaseAll_queue _ d l _ e m).2.trans (State.releaseCurrent_queue _ d l _ e m).2⟩]
    obtain ⟨others, before, after⟩ := s.entries_layer d hl
    rw [none] at before
    have nothing := List.append_eq_nil_iff.1 (List.nil_perm.1 before)
    rw [nothing.1] at left
    have gone := List.append_eq_nil_iff.1 (List.nil_perm.1 left)
    have all := after v
    rw [gone.1, nothing.2] at all
    exact List.perm_nil.1 all

theorem State.applyRecord_frames (s : State) (d : Display) {l : ScanLayer} (hl : l ≠ .camera) (new : LayerSetting) :
    FramesKept s (s.applyRecord d l new) := by
  unfold State.applyRecord
  extract_lets v v1 v2
  have kept : v2.queue = v.queue ∧ v2.current = v.current := by
    unfold v2
    split <;> exact ⟨rfl, rfl⟩
  split
  · refine s.giveUp_frames d hl ?_ (Nat.zero_le _)
    exact List.perm_append_comm
  · exact (s.setLayer_frames d kept.1 (by rw [kept.2])).kept

theorem State.applyStaged_frames (s : State) (d : Display) {l : ScanLayer} (hl : l ≠ .camera) :
    FramesKept s (s.applyStaged d l) := by
  unfold State.applyStaged
  split
  · exact .refl s
  · split
    · exact .refl s
    · exact s.applyRecord_frames d hl _

theorem State.raise_frames (s : State) (k : FaultKind) (n : Nat) : SameFrames s (s.raise k n) :=
  .of_within (s.raise_within k n) (by decide) (by decide)

theorem State.selectFrame_frames (s : State) (d : Display) {l : ScanLayer} (hl : l ≠ .camera) :
    FramesKept s (s.selectFrame d l) := by
  unfold State.selectFrame
  extract_lets v run
  split
  · unfold State.keepFrame
    extract_lets u1
    have current : u1.current.map Prod.fst = (s.layer d l).current.map Prod.fst := by
      change ((s.layer d l).current.map _).map Prod.fst = _
      rw [Option.map_map]
      rfl
    have kept : SameFrames s (s.setLayer d l u1) := s.setLayer_frames (v := u1) d rfl current
    split
    · exact ((s.setLayer_frames (v := { u1 with armed := false }) d rfl current).trans (State.raise_frames _ _ _)).kept
    · exact kept.kept
  · rename_i chosen last
    have due : run = run.dropLast ++ [chosen] := (List.dropLast_append_getLast? _ last).symm
    have queue : v.queue = run ++ v.queue.drop run.length :=
      (List.prefix_iff_eq_append.1 (List.takeWhile_prefix _)).symm
    refine s.giveUp_frames d hl ?_ ((Nat.le_of_eq List.length_drop).trans (Nat.sub_le _ _))
    change (v.queue ++ (v.current.map Prod.fst).toList).Perm
      ((v.queue.drop run.length ++ [chosen]) ++ ((v.current.map Prod.fst).toList ++ run.dropLast))
    generalize v.queue.drop run.length = others at queue
    rw [queue, due, List.perm_iff_count]
    intro e
    simp only [List.count_append, List.dropLast_concat]
    omega


end Sys2Proof.Machine

end

/-! ## Proofs: what each command does to the presentation queues and hold counts -/
section

namespace Sys2Proof.Machine

/-- Neither the region table nor a display changes. -/
theorem FramesKept.of_same {s t : State} (regions : t.regions = s.regions) (displays : t.displays = s.displays) :
    FramesKept s t := (SameFrames.of_eq regions displays).kept

/-! ### Stacks, reports and reverse leave the queues as they are -/

theorem State.post_frames (s : State) (r : Report) : SameFrames s (s.post r) :=
  .of_within (s.post_within r) (by decide) (by decide)

theorem State.toReverse_frames (s : State) (r : ReverseState) : SameFrames s (s.toReverse r) :=
  (State.post_frames _ _).after rfl rfl

theorem State.cameraOff_frames (s : State) : SameFrames s s.cameraOff := by
  unfold State.cameraOff
  refine SameFrames.trans ?_ (State.toReverse_frames _ _)
  exact s.setStack_frames .front _

theorem State.pushView_frames (s : State) (d : Display) (v : View) : SameFrames s (s.pushView d v).1 := by
  unfold State.pushView
  split
  · extract_lets s1
    have raised : SameFrames s s1 := s.raise_frames _ _
    split
    · exact raised.trans (s1.setStack_frames d _)
    · exact raised
  · exact s.setStack_frames d _

theorem ownPushView_frames (rec : List Byte) (s : State) : SameFrames s (ownPushView rec s).1 := by
  unfold ownPushView
  split
  · exact .refl s
  · rename_i d v _
    have pushed := s.pushView_frames d v
    split <;> rename_i eq <;> rw [eq] at pushed <;> exact pushed

theorem ownPopView_frames (rec : List Byte) (s : State) : SameFrames s (ownPopView rec s).1 := by
  unfold ownPopView
  split
  · exact .refl s
  · unfold State.popView
    split
    · extract_lets s1
      have raised : SameFrames s s1 := s.raise_frames _ _
      split <;> exact raised
    · split
      · exact s.setStack_frames _ _
      · exact .refl s
      · exact s.cameraOff_frames

theorem ownShowCamera_frames (rec : List Byte) (s : State) : SameFrames s (ownShowCamera rec s).1 := by
  unfold ownShowCamera
  split
  · exact .refl s
  · split
    · have pushed := s.pushView_frames .front (cameraViewOf (BitVec.ofNat 8 (byteAt rec 8)) false)
      split <;> rename_i eq <;> rw [eq] at pushed
      · exact pushed.trans (State.toReverse_frames _ _)
      · exact pushed
    all_goals exact .refl s

theorem ownCloseCamera_frames (rec : List Byte) (s : State) : SameFrames s (ownCloseCamera rec s).1 := by
  unfold ownCloseCamera
  split
  · exact .refl s
  · split
    · exact s.cameraOff_frames
    all_goals exact .refl s

theorem State.forcedPush_frames (s : State) : SameFrames s s.forcedPush := by
  unfold State.forcedPush
  extract_lets v s1
  split
  · have dropped : SameFrames s s1 := (s.setStack_frames _ _).trans (State.raise_frames _ _ _)
    exact dropped.trans (s1.setStack_frames _ _)
  · exact s.setStack_frames _ _

theorem State.startPattern_frames (s : State) : SameFrames s s.startPattern :=
  .of_within s.startPattern_within (by decide) (by decide)

theorem State.offerTone_frames (s : State) : SameFrames s s.offerTone :=
  .of_within s.offerTone_within (by decide) (by decide)

theorem State.reverseAsserted_frames (s : State) : SameFrames s s.reverseAsserted := by
  unfold State.reverseAsserted
  split
  · refine SameFrames.trans (SameFrames.trans ?_ (State.offerTone_frames _)) (State.startPattern_frames _)
    exact s.forcedPush_frames.trans (State.toReverse_frames _ _)
  · refine SameFrames.trans (SameFrames.trans ?_ (State.startPattern_frames _)) (State.post_frames _ _)
    exact .of_eq rfl rfl
  · refine SameFrames.trans (SameFrames.trans ?_ (State.offerTone_frames _)) (State.startPattern_frames _)
    exact (s.setStack_frames _ _).trans (State.toReverse_frames _ _)
  · exact .refl s

theorem State.reverseReleased_frames (s : State) : SameFrames s s.reverseReleased := by
  unfold State.reverseReleased
  split
  · extract_lets stopped reverse s1
    have held : SameFrames s s1 := (State.toReverse_frames _ _).after rfl rfl
    split
    · exact held.trans s1.cameraOff_frames
    · exact held
  all_goals exact .refl s

theorem State.evaluateReverse_frames (s : State) : SameFrames s s.evaluateReverse := by
  unfold State.evaluateReverse
  split
  · split
    · exact s.reverseAsserted_frames
    · split
      · exact s.reverseReleased_frames
      · exact .refl s
  · exact .refl s

theorem State.refresh_frames (s : State) (e : AcceptEntry) (v : Int) : SameFrames s (s.refresh e v) := by
  unfold State.refresh
  extract_lets deadline
  split
  · exact (State.evaluateReverse_frames _).after rfl rfl
  · exact .of_eq rfl rfl
  · unfold State.speedExit
    split
    · exact (State.cameraOff_frames _).after rfl rfl
    · exact .of_eq rfl rfl
  · split
    · exact (SameFrames.of_within (State.chooseBand_within _) (by decide) (by decide)).after rfl rfl
    · exact .of_eq rfl rfl

theorem State.offerFrame_frames (ident : Nat) (data : List Byte) (s : State) (e : AcceptEntry) :
    SameFrames s (State.offerFrame ident data s e) := by
  unfold State.offerFrame
  split
  · split
    · exact .refl s
    · exact s.refresh_frames e _
  · exact .refl s

/-! ### Boundaries -/

theorem State.finishRow_frames (s : State) (d : Display) : SameFrames s (s.finishRow d) := by
  unfold State.finishRow
  split
  · exact .refl s
  · exact s.updateScan_frames d _

theorem State.boundaryLayers_frames (s : State) (d : Display) : FramesKept s (s.boundaryLayers d) :=
  (((s.applyStaged_frames d (by decide)).trans (State.applyStaged_frames _ d (by decide))).trans
    (State.selectFrame_frames _ d (by decide))).trans (State.selectFrame_frames _ d (by decide))

theorem State.frontWork_regions (s : State) (view : Option View) : (s.frontWork view).regions = s.regions := by
  unfold State.frontWork
  extract_lets compositor s1 s2
  change s2.regions = s1.regions
  unfold s2 State.fallbackWatch
  split
  · split
    · rfl
    · rw [State.raise_regions]
  · rfl
  · rfl

theorem State.boundary_framesKept (s : State) (d : Display) (u : Bool) : FramesKept s (s.boundary d u) := by
  unfold State.boundary
  extract_lets s0 badVideo badMenu s1 view
  have layers : FramesKept s s1 := by
    refine (s.finishRow_frames d).kept.trans (FramesKept.trans ?_ (State.boundaryLayers_frames _ d))
    refine (SameFrames.updateDisplay _ d ?_ ?_).kept <;> exact fun _ => rfl
  have begun : ∀ (t : State) e bv bm scene, SameFrames t (t.beginFrame e bv bm scene) := fun t e bv bm scene =>
    t.updateScan_frames e _
  split
  · rename_i s2 s3
    have worked : SameFrames s1 s3 := by
      refine .of_eq ?_ ?_
      · have built : ∀ t : State, (t.boundaryBuild view).regions = t.regions := fun t => by
          unfold State.boundaryBuild
          split <;> rfl
        exact (built _).trans ((State.fullRewrite_regions s2 u).trans (s1.frontWork_regions view))
      · exact (State.boundaryBuild_displays _ view).trans ((State.fullRewrite_displays s2 u).trans (s1.frontWork_displays view))
    exact (layers.trans worked.kept).trans (begun _ _ _ _ _).kept
  · exact layers.trans (begun _ _ _ _ _).kept
  · exact layers.trans (begun _ _ _ _ _).kept

/-! ### Regions -/

/-- A change of the region table that is right whenever the table was. -/
theorem FramesKept.of_regions {s t : State} (displays : t.displays = s.displays)
    (holds : ∀ es, HoldsAre s.regions es → HoldsAre t.regions es) : FramesKept s t where
  holds ok := by
    unfold State.HoldsOk
    rw [State.entries_of_displays displays]
    exact holds _ ok
  shorter d l := by
    unfold State.layer
    rw [displays]
  empty none := (State.entries_of_displays displays).trans none

theorem ownDefineRegion_frames (rec : List Byte) (s : State) : FramesKept s (ownDefineRegion rec s).1 := by
  unfold ownDefineRegion
  split
  · exact .refl s
  · rename_i checked
    have room : s.regions.length < 64 := by
      unfold checkDefineRegion at checked
      dsimp only at checked
      repeat' split at checked
      all_goals try contradiction
      omega
    exact .of_regions rfl fun es h => h.define (lowestFreeId_free room) rfl

theorem ownDeleteRegion_frames (rec : List Byte) (s : State) : FramesKept s (ownDeleteRegion rec s).1 := by
  unfold ownDeleteRegion
  split; · exact .refl s
  split; · exact .refl s
  rename_i r found
  split; · exact .refl s
  split; · exact .refl s
  rename_i idle
  refine .of_regions rfl fun es h => h.delete fun e he named => ?_
  have member := List.mem_of_find?_eq_some found
  have ident : r.ident = byteAt rec 6 := by simpa using List.find?_some found
  obtain ⟨x, hx, same, frame⟩ := h.present e he
  obtain rfl : x = r := by
    refine List.inj_on_of_nodup_map h.distinct hx member ?_
    rw [same, named, ident]
  have count := h.counts x hx frame
  have counted : 0 < es.countP fun e => e.region == x.ident :=
    List.countP_pos_iff.2 ⟨e, he, by simp [same]⟩
  refine idle ?_
  simp [Region.busy, frame]
  omega

theorem State.stopStream_frames (s : State) (d : Display) : FramesKept s (s.stopStream d) := by
  refine .of_regions ((s.stopStream_within d).displays_eq (by decide)) fun es h => ?_
  unfold State.stopStream
  extract_lets st
  split
  · rename_i s1 _ _
    change HoldsAre (match st.ring with | none => s | some r => { s with regions := detachRegion s.regions r.region }).regions es
    split
    · exact h
    · exact h.stream _ none
  · exact h

theorem State.startStream_frames (s : State) (d : Display) (reg : Region) (gain : Nat) :
    FramesKept s (s.startStream d reg gain) := by
  unfold State.startStream
  extract_lets s1 size held s2 s3 s4 s5
  have attached : FramesKept s1 s4 := .of_regions rfl fun es h => h.stream _ (some d)
  have told : SameFrames s4 s5 := by
    unfold s5
    split
    · exact .refl s4
    · exact s4.raise_frames _ _
  exact (((s.stopStream_frames d).trans attached).trans told.kept).trans (.of_same rfl rfl)

/-! ### Restart -/

theorem State.restartStreams_frames (s : State) : FramesKept s s.restartStreams := by
  have each : ∀ (ds : List Display) (t : State), FramesKept t (ds.foldl (fun acc d =>
      (acc.stopStream d).updateStream d fun x => { x with consumer := 0, held := 0, producer := 0 }) t) := by
    intro ds
    induction ds with
    | nil => exact fun t => .refl t
    | cons d rest ih =>
      intro t
      refine ((t.stopStream_frames d).trans ?_).trans (ih _)
      exact .of_same rfl rfl
  exact each allDisplays s

theorem State.systemRestart_framesKept (s : State) : FramesKept s s.systemRestart := by
  have empty : ∀ d l, (s.systemRestart.layer d l).queue = [] ∧ (s.systemRestart.layer d l).current = none := fun d l => by
    unfold State.layer
    rw [State.systemRestart_displays]
    cases d <;> cases l <;> exact ⟨rfl, rfl⟩
  have none : s.systemRestart.entries = [] := by
    simp only [State.entries_eq, LayerState.entries, fun d l => (empty d l).1, fun d l => (empty d l).2]
    rfl
  refine ⟨fun ok => ?_, fun d l => by rw [(empty d l).1]; exact Nat.zero_le _, fun _ => none⟩
  have rings : SameFrames s s.restartRings := by
    unfold State.restartRings
    refine SameFrames.after (.of_within ((State.statusNow_within _ _ _).trans (State.statusNow_within _ _ _)) (by decide)
      (by decide)) rfl rfl
  have stopped := (rings.kept.trans s.restartRings.restartStreams_frames).holds ok
  unfold State.HoldsOk
  rw [none]
  have regions : s.systemRestart.regions = restartRegions s.restartRings.restartStreams.regions := by
    unfold State.systemRestart
    extract_lets s1 s2
    have dropped : ∀ t : State, Within [.audio] t (allDisplays.foldl State.dropSystemChimes t) :=
      Within.foldl (fun t d => t.dropSystemChimes_within d) _
    rw [State.settle_within _ .regions (by decide), dropped _ .regions (by decide)]
    rfl
  rw [regions]
  exact HoldsAre.restart stopped

theorem State.tellReverse_frames (s : State) (r : ReverseState) : SameFrames s (s.tellReverse r) :=
  .of_within (State.tellReverse_within _ _) (by decide) (by decide)

theorem State.ended_frames (s : State) (rec : List Byte) (e : Ending) : SameFrames s (s.ended rec e) :=
  .of_within (s.ended_within rec e) (by decide) (by decide)

theorem State.takeSystemRestart_framesKept (s : State) (rec : List Byte) : FramesKept s (s.takeSystemRestart rec) := by
  unfold State.takeSystemRestart
  split; · exact (s.ended_frames _ _).kept
  split; · exact (s.ended_frames _ _).kept
  refine FramesKept.trans ?_ (State.tellReverse_frames _ _).kept
  exact s.systemRestart_framesKept.trans (SameFrames.of_within (State.endRequest_within _ _ _) (by decide) (by decide)).kept

/-! ### The commands -/

theorem State.takeKind_framesKept (s : State) (kind : Nat) {owner : OwnerAct}
    (h : ∀ rec, FramesKept s (owner rec s).1) : FramesKept s (s.takeKind kind owner) := by
  unfold State.takeKind
  split
  · exact .refl s
  · unfold State.takeRecord
    split
    · exact (s.ended_frames _ _).kept
    · exact (h _).trans (State.ended_frames _ _ _).kept

theorem ownSetLayer_frames (rec : List Byte) (s : State) : SameFrames s (ownSetLayer rec s).1 := by
  unfold ownSetLayer
  split
  · exact .refl s
  · exact s.setLayer_frames _ rfl rfl

theorem ownHold_frames (hold : Bool) (rec : List Byte) (s : State) : SameFrames s (ownHold hold rec s).1 := by
  unfold ownHold
  split
  · exact .refl s
  · exact SameFrames.updateDisplay _ _ (fun _ => rfl) fun _ => rfl

theorem ownAudioStart_frames (rec : List Byte) (s : State) : FramesKept s (ownAudioStart rec s).1 := by
  unfold ownAudioStart
  split
  · exact .refl s
  · exact s.startStream_frames _ _ _

theorem ownAudioStop_frames (rec : List Byte) (s : State) : FramesKept s (ownAudioStop rec s).1 := by
  unfold ownAudioStop
  split
  · exact .refl s
  · exact s.stopStream_frames _

theorem State.grantTo_frames (s : State) (c : Client) : SameFrames s (s.grantTo c) := by
  have scan : ∀ d, SameFrames s (s.grantScan d) := fun d => by
    unfold State.grantScan
    split
    · exact .refl s
    · exact s.updateScan_frames d _
  cases c with
  | frontScan => exact scan _
  | rearLeftScan => exact scan _
  | rearRightScan => exact scan _
  | camera => exact .of_within s.grantCamera_within (by decide) (by decide)
  | audio => exact .of_within s.grantAudio_within (by decide) (by decide)
  | report => exact .of_within s.grantReport_within (by decide) (by decide)
  | link => exact .of_within s.grantLink_within (by decide) (by decide)
  | store => exact .of_within s.grantStore_within (by decide) (by decide)

/-- Every command but a PUBLISH, which adds a frame, and a load step, which may fill the region table. -/
theorem exec_framesKept {c : Instr} {s t : State} (h : exec c s = .next t) (noPublish : c ≠ .publish)
    (noLoad : c ≠ .loadStepComplete) : FramesKept s t := by
  have neither : .regions ∉ footprint c → .displays ∉ footprint c → FramesKept s t := fun hr hd =>
    (SameFrames.of_within (exec_within c s t h) hr hd).kept
  have reset : FramesKept s s.afterReset :=
    ⟨fun _ => ⟨State.holdsMatch_reset.distinct, State.holdsMatch_reset.counts, State.holdsMatch_reset.present⟩,
      fun d l => by cases d <;> cases l <;> exact Nat.zero_le _, fun _ => rfl⟩
  cases c with
  | powerOnReset => cases h; exact reset
  | pinReset => cases h; exact reset
  | loadStepComplete => exact absurd rfl noLoad
  | publish => exact absurd rfl noPublish
  | lossOfLink =>
    simp only [exec, execLossOfLink] at h
    split at h <;> obtain rfl := Host.Outcome.next.inj h
    · refine FramesKept.trans ?_ (State.tellReverse_frames _ _).kept
      refine FramesKept.trans ?_ (State.systemRestart_framesKept _)
      exact .of_same rfl rfl
    · exact .refl s
  | dramGrant =>
    simp only [exec, execDramGrant] at h
    split at h <;> obtain rfl := Host.Outcome.next.inj h
    · exact .refl s
    · rename_i c _
      refine SameFrames.kept (SameFrames.trans ?_ (.of_within (State.drain_within _) (by decide) (by decide)))
      exact (State.grantTo_frames _ c).after rfl rfl
  | setLayer => cases h; exact s.takeKind_framesKept 2 fun rec => (ownSetLayer_frames rec s).kept
  | holdChanges => cases h; exact s.takeKind_framesKept 3 fun rec => (ownHold_frames true rec s).kept
  | releaseChanges => cases h; exact s.takeKind_framesKept 4 fun rec => (ownHold_frames false rec s).kept
  | pushView => cases h; exact s.takeKind_framesKept 5 fun rec => (ownPushView_frames rec s).kept
  | popView => cases h; exact s.takeKind_framesKept 6 fun rec => (ownPopView_frames rec s).kept
  | showCamera => cases h; exact s.takeKind_framesKept 7 fun rec => (ownShowCamera_frames rec s).kept
  | closeCamera => cases h; exact s.takeKind_framesKept 8 fun rec => (ownCloseCamera_frames rec s).kept
  | defineRegion => cases h; exact s.takeKind_framesKept 9 fun rec => ownDefineRegion_frames rec s
  | deleteRegion => cases h; exact s.takeKind_framesKept 10 fun rec => ownDeleteRegion_frames rec s
  | audioStart => cases h; exact s.takeKind_framesKept 11 fun rec => ownAudioStart_frames rec s
  | audioStop => cases h; exact s.takeKind_framesKept 12 fun rec => ownAudioStop_frames rec s
  | systemRestart =>
    simp only [exec, execSystemRestart] at h
    split at h <;> obtain rfl := Host.Outcome.next.inj h
    · exact .refl s
    · exact s.takeSystemRestart_framesKept _
  | canFrame ident dlc data =>
    simp only [exec, execCanFrame] at h
    split at h
    · split at h <;> obtain rfl := Host.Outcome.next.inj h
      · exact (SameFrames.foldl (State.offerFrame_frames _ _) _ s).kept
      · exact .refl s
    · exact nomatch h
  | stalePeriodEnd =>
    simp only [exec, execStalePeriodEnd] at h
    repeat' split at h
    all_goals obtain rfl := Host.Outcome.next.inj h
    case isTrue =>
      refine SameFrames.kept ?_
      exact (State.evaluateReverse_frames _).after rfl rfl
    all_goals exact .refl s
  | pinDebounceExpiry =>
    simp only [exec, execPinDebounceExpiry] at h
    split at h <;> obtain rfl := Host.Outcome.next.inj h
    · refine SameFrames.kept ?_
      exact (State.evaluateReverse_frames _).after rfl rfl
    · exact .refl s
  | holdOffExpiry =>
    simp only [exec, execHoldOffExpiry] at h
    split at h <;> obtain rfl := Host.Outcome.next.inj h
    · exact s.cameraOff_frames.kept
    · exact .refl s
  | displayFrameBoundary d =>
    simp only [exec, execDisplayFrameBoundary] at h
    split at h <;> obtain rfl := Host.Outcome.next.inj h
    · exact s.boundary_framesKept d false
    · exact .refl s
  | latePixel d l col =>
    simp only [exec, execLatePixel] at h
    split at h
    · repeat' split at h
      all_goals obtain rfl := Host.Outcome.next.inj h
      case isTrue => exact ((s.updateScan_frames d _).trans (State.raise_frames _ _ _)).kept
      all_goals exact .refl s
    · exact nomatch h
  | activeRowFetch d =>
    simp only [exec, execActiveRowFetch] at h
    split at h <;> obtain rfl := Host.Outcome.next.inj h
    · exact ((s.finishRow_frames d).trans (State.updateScan_frames _ d _)).kept
    · exact .refl s
  | _ => exact neither (by simp [footprint, requestParts]) (by simp [footprint, requestParts])

end Sys2Proof.Machine

end

/-! ## Proofs: publishing, the load, and the invariants of every step -/
section

namespace Sys2Proof.Machine

/-! ### PUBLISH -/

theorem State.enqueue_holds {s : State} (ok : s.HoldsOk) (d : Display) {l : ScanLayer} (hl : l ≠ .camera) {e : QueueEntry}
    (known : ∃ r ∈ s.regions, r.ident = e.region ∧ r.kind = .frame) : (s.enqueue d l e).HoldsOk := by
  unfold State.enqueue
  extract_lets v
  obtain ⟨others, before, after⟩ := State.entries_layer { s with regions := holdUp s.regions e.region } d hl
  refine HoldsAre.perm (HoldsAre.holdUp ok known) ?_
  calc e :: s.entries
    _ |>.Perm (e :: (v.entries ++ others)) := before.cons e
    _ |>.Perm (({ v with queue := v.queue ++ [e] } : LayerState).entries ++ others) := by
      refine List.Perm.append_right others (l₁ := e :: v.entries) ?_
      unfold LayerState.entries
      rw [List.append_assoc]
      exact List.perm_middle.symm
    _ |>.Perm _ := (after _).symm

theorem State.enqueue_layer (s : State) (d : Display) {l : ScanLayer} (hl : l ≠ .camera) (e : QueueEntry) (f : Display)
    {m : ScanLayer} (hm : m ≠ .camera) :
    (s.enqueue d l e).layer f m = if f = d ∧ m = l then { s.layer d l with queue := (s.layer d l).queue ++ [e] } else s.layer f m :=
  State.layer_setLayer (s := { s with regions := holdUp s.regions e.region }) hl hm _

theorem State.QueuesFit.of_system {s : State} (h : ∀ d l, l ≠ .camera → (s.layer d l).queue.length ≤ 4) : s.QueuesFit :=
  fun d l => match l with
    | .video => h d .video (by decide)
    | .menu => h d .menu (by decide)
    | .camera => h d .menu (by decide)

theorem State.enqueue_fit {s : State} (fit : s.QueuesFit) (d : Display) {l : ScanLayer} (hl : l ≠ .camera)
    (room : (s.layer d l).queue.length < 4) (e : QueueEntry) : (s.enqueue d l e).QueuesFit := by
  refine .of_system fun f m hm => ?_
  rw [State.enqueue_layer s d hl e f hm]
  split
  · rw [List.length_append]
    exact room
  · exact fit f m

/-- The head of a queue is taken out and released (R150). -/
theorem State.dropHead_frames (s : State) (d : Display) {l : ScanLayer} (hl : l ≠ .camera) : FramesKept s (s.dropHead d l) := by
  unfold State.dropHead
  extract_lets v
  split
  · exact .refl s
  · rename_i head rest queue
    have released := s.giveUp_frames d hl (v := { v with queue := rest }) (c := none) (gone := [head])
      (by
        change (v.queue ++ _).Perm ((rest ++ _) ++ [head])
        rw [queue]
        exact (List.perm_append_singleton head _).symm)
      (by rw [queue]; exact Nat.le_succ _)
    exact released

theorem State.dropHead_room {s : State} {d : Display} {l : ScanLayer} (hl : l ≠ .camera)
    (fit : (s.layer d l).queue.length ≤ 4) : ((s.dropHead d l).layer d l).queue.length < 4 := by
  unfold State.dropHead
  extract_lets v
  split
  · rename_i queue
    rw [show (s.layer d l).queue = [] from queue]
    exact Nat.zero_lt_succ 3
  · rename_i head rest queue
    rw [(State.release_queue _ d l head 0 d l).1, State.layer_setLayer hl hl, if_pos ⟨rfl, rfl⟩]
    rw [show (s.layer d l).queue = head :: rest from queue] at fit
    exact fit

theorem State.dropHead_regions (s : State) (d : Display) (l : ScanLayer) :
    (s.dropHead d l).regions = s.regions ∨ ∃ ident, (s.dropHead d l).regions = holdDown s.regions ident := by
  unfold State.dropHead
  extract_lets v
  split
  · exact .inl rfl
  · exact .inr ⟨_, State.post_regions _ _⟩

/-- A release leaves the FRAME regions of the table FRAME regions. -/
theorem exists_frame_holdDown {regions : List Region} {ident : Nat}
    (known : ∃ r ∈ regions, r.ident = ident ∧ r.kind = .frame) (released : Nat) :
    ∃ r ∈ holdDown regions released, r.ident = ident ∧ r.kind = .frame := by
  obtain ⟨r, hr, named, frame⟩ := known
  refine ⟨_, mem_updateRegion.2 ⟨r, hr, rfl⟩, ?_⟩
  split <;> exact ⟨named, frame⟩

/-- The region of a publish that passes its checks is a FRAME region of the table (R148). -/
theorem checkPublish_known {s : State} {rec : List Byte} {d : Display} {l : ScanLayer} {e : QueueEntry}
    (h : checkPublish s rec = .ok (d, l, e)) : ∃ r ∈ s.regions, r.ident = e.region ∧ r.kind = .frame := by
  unfold checkPublish at h
  dsimp only at h
  split at h
  · split at h; · exact nomatch h
    split at h; · exact nomatch h
    rename_i r found
    split at h; · exact nomatch h
    rename_i frame
    split at h; · exact nomatch h
    split at h; · exact nomatch h
    cases h
    exact ⟨r, List.mem_of_find?_eq_some found, rfl, not_not.1 frame⟩
  · exact nomatch h

theorem State.publish_holds {s : State} (ok : s.HoldsOk) (d : Display) {l : ScanLayer} (hl : l ≠ .camera) {e : QueueEntry}
    (known : ∃ r ∈ s.regions, r.ident = e.region ∧ r.kind = .frame) : (s.publish d l e).1.HoldsOk := by
  unfold State.publish
  split
  · exact State.enqueue_holds ok d hl known
  · extract_lets s1
    have raised : SameFrames s s1 := s.raise_frames _ _
    split
    · have dropped : FramesKept s (s1.dropHead d l) := raised.kept.trans (s1.dropHead_frames d hl)
      refine State.enqueue_holds (dropped.holds ok) d hl ?_
      rw [← raised.1] at known
      rcases s1.dropHead_regions d l with same | ⟨released, same⟩ <;> rw [same]
      · exact known
      · exact exists_frame_holdDown known released
    · exact raised.kept.holds ok

theorem State.publish_fit {s : State} (fit : s.QueuesFit) (d : Display) {l : ScanLayer} (hl : l ≠ .camera)
    (e : QueueEntry) : (s.publish d l e).1.QueuesFit := by
  unfold State.publish
  split
  · rename_i room
    exact State.enqueue_fit fit d hl room e
  · extract_lets s1
    have raised : FramesKept s s1 := (s.raise_frames _ _).kept
    split
    · exact State.enqueue_fit ((raised.trans (s1.dropHead_frames d hl)).fit fit) d hl
        (State.dropHead_room hl (raised.fit fit d l)) e
    · exact raised.fit fit

theorem ownPublish_holds (rec : List Byte) {s : State} (ok : s.HoldsOk) : (ownPublish rec s).1.HoldsOk := by
  unfold ownPublish
  split
  · exact ok
  · rename_i d l e checked
    have placed := State.publish_holds ok d (checkPublish_ne_camera checked) (checkPublish_known checked)
    split <;> rename_i eq <;> rw [eq] at placed <;> exact placed

theorem ownPublish_fit (rec : List Byte) {s : State} (fit : s.QueuesFit) : (ownPublish rec s).1.QueuesFit := by
  unfold ownPublish
  split
  · exact fit
  · rename_i d l e checked
    have placed := State.publish_fit fit d (checkPublish_ne_camera checked) e
    split <;> rename_i eq <;> rw [eq] at placed <;> exact placed

/-- What a publish may do, its report and the taker's advance keep. -/
theorem State.takePublish_keeps {P : State → Prop} (same : ∀ {s t}, SameFrames s t → P s → P t) {s : State}
    (owned : ∀ rec, P (ownPublish rec s).1) (h : P s) : P (s.takeKind 1 ownPublish) := by
  unfold State.takeKind
  split
  · exact h
  · unfold State.takeRecord
    split
    · exact same (s.ended_frames _ _) h
    · exact same (State.ended_frames _ _ _) (owned _)

/-! ### The load -/

theorem numberRegions_idents (n : Nat) (rs : List Region) :
    (numberRegions n rs).map Region.ident = List.range' n rs.length := by
  induction rs generalizing n with
  | nil => rfl
  | cons r rest ih =>
    rw [numberRegions, List.map_cons, ih]
    rfl

theorem numberRegions_hold {n : Nat} {rs : List Region} (h : ∀ r ∈ rs, r.hold = 0) :
    ∀ r ∈ numberRegions n rs, r.hold = 0 := by
  induction rs generalizing n with
  | nil => exact fun _ hr => nomatch hr
  | cons r rest ih =>
    intro x hx
    rcases List.mem_cons.1 hx with rfl | later
    · exact h r List.mem_cons_self
    · exact ih (fun y hy => h y (List.mem_cons_of_mem r hy)) x later

theorem allEntries_mem {α : Type} {f : List Byte → Option α} {es : List (List Byte)} {xs : List α}
    (h : allEntries f es = some xs) : ∀ x ∈ xs, ∃ e ∈ es, f e = some x := by
  induction es generalizing xs with
  | nil =>
    cases h
    exact fun _ hx => nomatch hx
  | cons e rest ih =>
    unfold allEntries at h
    split at h
    · rename_i y ys first others
      cases h
      intro x hx
      rcases List.mem_cons.1 hx with rfl | later
      · exact ⟨e, List.mem_cons_self, first⟩
      · obtain ⟨e', he', eq⟩ := ih others x later
        exact ⟨e', List.mem_cons_of_mem e he', eq⟩
    · exact nomatch h

/-- A region that the layout lists is held by no frame. -/
theorem readRegion_hold {e : List Byte} {r : Region} (h : readRegion e = some r) : r.hold = 0 := by
  unfold readRegion at h
  dsimp only at h
  repeat' split at h
  all_goals cases h
  rfl

theorem readLayout_regions {rec : List Byte} {y : Layout} (h : readLayout rec = some y) : HoldsAre y.regions [] := by
  unfold readLayout at h
  split at h
  · split at h; · exact nomatch h
    rename_i listed read
    dsimp only at h
    split at h
    · split at h; · exact nomatch h
      rename_i roles _
      have regions : y.regions = numberRegions 0 listed := by
        unfold readLayoutRest at h
        dsimp only at h
        repeat' split at h
        all_goals cases h
        rfl
      rw [regions]
      refine .none ?_ (numberRegions_hold fun r hr => ?_)
      · rw [numberRegions_idents]
        exact List.nodup_range'
      · obtain ⟨e, -, eq⟩ := allEntries_mem read r hr
        exact readRegion_hold eq
    · exact nomatch h
  · exact nomatch h

theorem State.startDisplays_framesKept (s : State) : FramesKept s s.startDisplays := by
  unfold State.startDisplays
  extract_lets s1
  have closed : SameFrames s s1 := ⟨rfl, fun d l => by cases d <;> cases l <;> exact ⟨rfl, rfl⟩⟩
  have told : SameFrames s1 s1.writeIdentity := .of_eq (State.writeIdentity_regions _) (State.writeIdentity_displays _)
  exact (((closed.trans told).kept.trans (State.boundary_framesKept _ _ _)).trans (State.boundary_framesKept _ _ _)).trans
    (State.boundary_framesKept _ _ _)

/-- The close of the load, after the start-up state has taken its value. -/
theorem State.closeLoad_framesKept (s : State) (st : StartupState) : FramesKept (s.enterRunning st) (s.closeLoad st) := by
  unfold State.closeLoad
  extract_lets entered engine s1 s2
  have started : FramesKept (s.enterRunning st) s1 := by
    unfold s1 State.startReverse
    split
    · exact .of_same rfl rfl
    · refine SameFrames.kept ?_
      exact (State.evaluateReverse_frames _).after rfl rfl
  clear_value s1
  have shown : FramesKept s1 s2 := by
    refine FramesKept.trans (t := { s1 with store := s1.store.heldByLoad }) (.of_same rfl rfl) ?_
    exact State.startDisplays_framesKept _
  clear_value s2
  exact (started.trans shown).trans (.of_same rfl rfl)

/-- While LOADING no frame is queued, so the region table that SERVICE takes is right (R60). -/
theorem State.enterRunning_frames {s : State} (none : s.entries = []) (ok : s.HoldsOk) (st : StartupState) :
    (s.enterRunning st).HoldsOk ∧ (s.enterRunning st).entries = [] ∧ (s.enterRunning st).displays = s.displays := by
  have displays : (s.enterRunning st).displays = s.displays := (s.enterRunning_within st).displays_eq (by decide)
  have still : (s.enterRunning st).entries = [] := (State.entries_of_displays displays).trans none
  refine ⟨?_, still, displays⟩
  unfold State.HoldsOk at ok ⊢
  rw [none] at ok
  rw [still]
  unfold State.enterRunning
  extract_lets startup s1
  split
  · change HoldsAre serviceRegions []
    exact .none (by decide) (by decide)
  all_goals exact ok

theorem State.closeLoad_holds {s : State} (none : s.entries = []) (ok : s.HoldsOk) (st : StartupState) :
    (s.closeLoad st).HoldsOk ∧ (s.closeLoad st).entries = [] := by
  obtain ⟨holds, still, -⟩ := State.enterRunning_frames none ok st
  have kept := s.closeLoad_framesKept st
  exact ⟨kept.holds holds, kept.empty still⟩

theorem State.closeLoad_fit {s : State} (fit : s.QueuesFit) (st : StartupState) : (s.closeLoad st).QueuesFit := by
  have displays : (s.enterRunning st).displays = s.displays := (s.enterRunning_within st).displays_eq (by decide)
  refine (s.closeLoad_framesKept st).fit fun d l => ?_
  unfold State.layer
  rw [displays]
  exact fit d l

theorem State.loadProtection_frames (s : State) : SameFrames s s.loadProtection := by
  unfold State.loadProtection
  extract_lets store startup s1
  refine SameFrames.trans (t := s1) (.of_eq rfl rfl) (SameFrames.foldl (fun t b => ?_) _ s1)
  split
  · exact t.raise_frames _ _
  · exact .refl t

theorem execLoadStepComplete_fit {s t : State} (h : execLoadStepComplete s = .next t) (fit : s.QueuesFit) : t.QueuesFit := by
  unfold execLoadStepComplete at h
  split at h; · obtain rfl := Host.Outcome.next.inj h; exact fit
  split at h
  · obtain rfl := Host.Outcome.next.inj h
    exact s.loadProtection_frames.kept.fit fit
  split at h
  · obtain rfl := Host.Outcome.next.inj h
    unfold State.loadLayout
    split
    · exact State.closeLoad_fit fit _
    · exact fit
  split at h
  · obtain rfl := Host.Outcome.next.inj h
    unfold State.loadCalibration
    split <;> exact fit
  split at h <;> obtain rfl := Host.Outcome.next.inj h
  · exact fit
  · refine State.closeLoad_fit ?_ _
    exact (SameFrames.of_within s.loadFallback_within (by decide) (by decide)).kept.fit fit

theorem execLoadStepComplete_holds {s t : State} (h : execLoadStepComplete s = .next t) (ok : s.HoldsOk)
    (loading : s.startup.state = .loading → s.entries = []) :
    t.HoldsOk ∧ (s.startup.state = .loading → t.entries = []) := by
  unfold execLoadStepComplete at h
  split at h
  · obtain rfl := Host.Outcome.next.inj h
    exact ⟨ok, loading⟩
  rename_i now
  have none : s.entries = [] := loading (not_not.1 now)
  split at h
  · obtain rfl := Host.Outcome.next.inj h
    exact ⟨s.loadProtection_frames.kept.holds ok, fun _ => s.loadProtection_frames.kept.empty none⟩
  split at h
  · obtain rfl := Host.Outcome.next.inj h
    unfold State.loadLayout
    split
    · obtain ⟨holds, still⟩ := State.closeLoad_holds none ok .service
      exact ⟨holds, fun _ => still⟩
    · rename_i y read
      obtain ⟨rec, -, read⟩ := Option.bind_eq_some_iff.1 read
      refine ⟨?_, fun _ => none⟩
      change HoldsAre y.regions s.entries
      rw [none]
      exact readLayout_regions read
  split at h
  · obtain rfl := Host.Outcome.next.inj h
    unfold State.loadCalibration
    split <;> exact ⟨ok, fun _ => none⟩
  split at h <;> obtain rfl := Host.Outcome.next.inj h
  · exact ⟨ok, fun _ => none⟩
  · have kept : FramesKept s s.loadFallback := (SameFrames.of_within s.loadFallback_within (by decide) (by decide)).kept
    obtain ⟨holds, still⟩ := State.closeLoad_holds (kept.empty none) (kept.holds ok) (if s.startup.calibrationValid then .normal else .degraded)
    exact ⟨holds, fun _ => still⟩

theorem exec_fit {c : Instr} {s t : State} (h : exec c s = .next t) (fit : s.QueuesFit) : t.QueuesFit := by
  by_cases publish : c = .publish
  · subst publish
    cases h
    exact State.takePublish_keeps (fun same fit => same.kept.fit fit) (fun rec => ownPublish_fit rec fit) fit
  by_cases load : c = .loadStepComplete
  · subst load
    exact execLoadStepComplete_fit h fit
  · exact (exec_framesKept h publish load).fit fit

/-! ### While LOADING (R61) -/

/-- While LOADING no frame is queued, the link is DOWN and idle, and the taker fetches nothing. -/
def State.QuietLoading (s : State) : Prop :=
  s.startup.state = .loading → s.entries = [] ∧ s.link.up = false ∧ s.link.path = [] ∧ s.taker.fetch = .idle

/-- The link is DOWN with nothing waiting, and the taker fetches nothing. -/
def State.LinkQuiet (s : State) : Prop := s.link.up = false ∧ s.link.path = [] ∧ s.taker.fetch = .idle

theorem State.LinkQuiet.of_within {ps : List Part} {s t : State} (quiet : s.LinkQuiet) (h : Within ps s t) (hl : .link ∉ ps)
    (ht : .taker ∉ ps) : t.LinkQuiet := by
  unfold State.LinkQuiet
  have link : t.link = s.link := h .link hl
  have taker : t.taker = s.taker := h .taker ht
  rw [link, taker]
  exact quiet

theorem State.takeKind_idle {s : State} (idle : s.taker.fetch = .idle) (kind : Nat) (owner : OwnerAct) :
    s.takeKind kind owner = s := by
  simp [State.takeKind, State.arrivedOf, idle]

theorem State.receive_down {s : State} (down : s.link.up = false) (t : Transaction) : s.receive t = s := by
  simp [State.receive, down]

theorem State.writeWord_down {s : State} (down : s.link.up = false) (offset : Nat) (v : BitVec 32) : s.writeWord offset v = s := by
  unfold State.writeWord
  split
  · rfl
  · exact State.receive_down down _

theorem State.drainHeld_down {s : State} (down : s.link.up = false) (ts : List Transaction) :
    State.drainHeld ts s = { s with link.held := ts } := by
  cases ts with
  | nil => rfl
  | cons t rest => simp [State.drainHeld, State.mayTake, down]

theorem execDramGrant_linkQuiet {s t : State} (h : execDramGrant s = .next t) (quiet : s.LinkQuiet) : t.LinkQuiet := by
  unfold execDramGrant at h
  split at h <;> obtain rfl := Host.Outcome.next.inj h
  · exact quiet
  · rename_i client _
    have granted : (State.grantTo { s with arb := s.arb.granted client } client).LinkQuiet := by
      have before : State.LinkQuiet { s with arb := s.arb.granted client } := quiet
      have other : ∀ {u : State}, Within [.displays, .audio, .rw, .camera, .store, .dram]
          { s with arb := s.arb.granted client } u → u.LinkQuiet := fun within =>
        before.of_within within (by decide) (by decide)
      cases client with
      | frontScan => exact other ((State.grantScan_within _ _).mono (by decide))
      | rearLeftScan => exact other ((State.grantScan_within _ _).mono (by decide))
      | rearRightScan => exact other ((State.grantScan_within _ _).mono (by decide))
      | camera => exact other ((State.grantCamera_within _).mono (by decide))
      | audio => exact other ((State.grantAudio_within _).mono (by decide))
      | report => exact other ((State.grantReport_within _).mono (by decide))
      | store => exact other ((State.grantStore_within _).mono (by decide))
      | link =>
        change (State.grantLink { s with arb := s.arb.granted .link }).LinkQuiet
        unfold State.grantLink
        simp only [quiet.2.1]
        exact before
    unfold State.drain
    rw [State.drainHeld_down granted.1]
    exact granted

/-- With the link DOWN and nothing fetched, no command of the link side does anything, and training is refused (R1, R61). -/
theorem exec_linkQuiet {c : Instr} {s t : State} (h : exec c s = .next t) (loading : s.startup.state = .loading)
    (quiet : s.LinkQuiet) : t.LinkQuiet ∧ (c = .publish → t = s) := by
  obtain ⟨down, path, idle⟩ := quiet
  have neither : .link ∉ footprint c → .taker ∉ footprint c → t.LinkQuiet := fun hl ht =>
    State.LinkQuiet.of_within ⟨down, path, idle⟩ (exec_within c s t h) hl ht
  have nothing : t = s → t.LinkQuiet ∧ (c = .publish → t = s) := fun same => ⟨same ▸ ⟨down, path, idle⟩, fun _ => same⟩
  have request : ∀ kind owner, t = s.takeKind kind owner → t.LinkQuiet ∧ (c = .publish → t = s) := fun kind owner same =>
    nothing (same.trans (State.takeKind_idle idle kind owner))
  cases c with
  | powerOnReset => cases h; exact ⟨⟨rfl, rfl, rfl⟩, fun other => nomatch other⟩
  | pinReset => cases h; exact ⟨⟨rfl, rfl, rfl⟩, fun other => nomatch other⟩
  | linkTraining =>
    simp only [exec, execLinkTraining, loading, true_or, if_true] at h
    exact nothing (Host.Outcome.next.inj h).symm
  | lossOfLink =>
    simp only [exec, execLossOfLink, down] at h
    exact nothing (Host.Outcome.next.inj h).symm
  | linkRead addr len =>
    simp only [exec, execLinkRead, State.receive_down down] at h
    split at h
    · exact nothing (Host.Outcome.next.inj h).symm
    · exact nomatch h
  | linkWrite addr lanes =>
    simp only [exec, execLinkWrite, State.receive_down down] at h
    split at h
    · exact nothing (Host.Outcome.next.inj h).symm
    · exact nomatch h
  | requestProducerIndex v => cases h; exact nothing (State.writeWord_down down _ v)
  | reportConsumerIndex v => cases h; exact nothing (State.writeWord_down down _ v)
  | mediaProducerIndex d v => cases h; exact nothing (State.writeWord_down down _ v)
  | dramGrant => exact ⟨execDramGrant_linkQuiet h ⟨down, path, idle⟩, fun other => nomatch other⟩
  | unknownRequestKind =>
    simp only [exec, execUnknownRequestKind, idle] at h
    exact nothing (Host.Outcome.next.inj h).symm
  | systemRestart =>
    simp only [exec, execSystemRestart, State.arrivedOf, idle] at h
    exact nothing (Host.Outcome.next.inj h).symm
  | publish | setLayer | holdChanges | releaseChanges | pushView | popView | showCamera | closeCamera | defineRegion
  | deleteRegion | audioStart | audioStop | audioGain | playChime | stopChimes | storeRead | storeProgram | storeErase
  | storeLockCalibration | setFaultMask | clearFaults => exact request _ _ (Host.Outcome.next.inj h).symm
  | displayFrameBoundary d => exact ⟨neither (by cases d <;> decide) (by cases d <;> decide), fun other => nomatch other⟩
  | _ => exact ⟨neither (by simp [footprint]) (by simp [footprint]), fun other => nomatch other⟩

theorem execLoadStepComplete_loading {s t : State} (h : execLoadStepComplete s = .next t) (loading : t.startup.state = .loading) :
    s.startup.state = .loading := by
  unfold execLoadStepComplete at h
  split at h
  · obtain rfl := Host.Outcome.next.inj h
    exact loading
  · rename_i now
    exact not_not.1 now

theorem exec_holdsMatch {c : Instr} {s t : State} (h : exec c s = .next t) (ok : s.HoldsOk) (quiet : s.QuietLoading) :
    t.HoldsOk ∧ t.QuietLoading := by
  by_cases load : c = .loadStepComplete
  · subst load
    obtain ⟨holds, still⟩ := execLoadStepComplete_holds h ok fun loading => (quiet loading).1
    refine ⟨holds, fun loading => ?_⟩
    have was := execLoadStepComplete_loading h loading
    obtain ⟨-, down, path, idle⟩ := quiet was
    exact ⟨still was, (exec_linkQuiet h was ⟨down, path, idle⟩).1⟩
  by_cases publish : c = .publish
  · subst publish
    have same : t.startup = s.startup := exec_within _ s t h .startup (by decide)
    constructor
    · cases h
      exact State.takePublish_keeps (fun same ok => same.kept.holds ok) (fun rec => ownPublish_holds rec ok) ok
    · intro loading
      rw [same] at loading
      obtain ⟨none, down, path, idle⟩ := quiet loading
      obtain ⟨still, unchanged⟩ := exec_linkQuiet h loading ⟨down, path, idle⟩
      exact ⟨by rw [unchanged rfl]; exact none, still⟩
  · have kept := exec_framesKept h publish load
    refine ⟨kept.holds ok, ?_⟩
    by_cases startup : .startup ∈ footprint c
    · cases c with
      | powerOnReset => cases h; exact State.holdsMatch_reset.loading
      | pinReset => cases h; exact State.holdsMatch_reset.loading
      | loadStepComplete => exact absurd rfl load
      | displayFrameBoundary d => cases d <;> exact absurd startup (by decide)
      | _ => exact absurd startup (by simp [footprint, requestParts])
    · intro loading
      rw [exec_within c s t h .startup startup] at loading
      obtain ⟨none, down, path, idle⟩ := quiet loading
      exact ⟨kept.empty none, (exec_linkQuiet h loading ⟨down, path, idle⟩).1⟩

/-! ### Every step -/

/-- What every command keeps, and a passing microsecond too, every step keeps. -/
theorem step_keeps {P : State → Prop} (command : ∀ {c : Instr} {s t : State}, exec c s = .next t → P s → P t)
    (rest : ∀ {s : State} (cs : List Instr), P s → P { s with pending := cs }) (tick : ∀ {s : State}, P s → P s.tick)
    {s t : State} (stepped : step s = .next t) (h : P s) : P t := by
  cases pending : s.pending with
  | nil =>
    rw [stepRunsFrontCommand.2 s pending] at stepped
    cases stepped
    exact tick h
  | cons c cs =>
    rw [stepRunsFrontCommand.1 c cs s pending] at stepped
    exact command stepped (rest cs h)

theorem exec_bounded {c : Instr} {s t : State} (h : exec c s = .next t) (bounded : s.Bounded) : t.Bounded := by
  obtain ⟨requestRing, reportRing, lost, counters, responses, window, storeGap, positions, storeQueue, queues⟩ := bounded
  obtain ⟨requestRing', responses'⟩ := exec_linkKept h ⟨requestRing, responses⟩
  obtain ⟨window', storeGap', posA', posB'⟩ := exec_arbInBounds h ⟨window, storeGap, positions.1, positions.2⟩
  obtain ⟨reportRing', lost', counters'⟩ := exec_rwKept h ⟨reportRing, lost, counters⟩
  exact ⟨requestRing', reportRing', lost', counters', responses', window', storeGap', ⟨posA', posB'⟩,
    exec_queueKept h storeQueue, exec_fit h queues⟩

/-- Settles O57: each command keeps each of the four invariants. -/
theorem stepKeepsDeviceInvariants : Obligations.StepKeepsDeviceInvariants := fun _ _ stepped =>
  ⟨step_keeps (P := State.Canonical) exec_canonKept (fun _ h => h) (fun h => h) stepped,
    step_keeps (P := State.StacksLegal) exec_stacksKept (fun _ h => h) (fun h => h) stepped,
    step_keeps (P := State.PictureSafe) exec_picture (fun _ h => h) (fun h => h) stepped,
    step_keeps (P := State.Bounded) exec_bounded (fun _ ⟨a, b, c, d, e, f, g, h, i, j⟩ => ⟨a, b, c, d, e, f, g, h, i, j⟩)
      (fun ⟨a, b, c, d, e, f, g, h, i, j⟩ => ⟨a, b, c, d, e, f, g, h, i, j⟩) stepped⟩

/-- Settles O58: each command moves a frame and its hold count together. -/
theorem stepKeepsHoldCounts : Obligations.StepKeepsHoldCounts := by
  intro s t ⟨distinct, counts, present, loading⟩ stepped
  have kept := step_keeps (P := fun s => s.HoldsOk ∧ s.QuietLoading) (fun h ⟨ok, quiet⟩ => exec_holdsMatch h ok quiet)
    (fun _ h => h) (fun h => h) stepped ⟨⟨distinct, counts, present⟩, loading⟩
  obtain ⟨⟨distinct', counts', present'⟩, loading'⟩ := kept
  exact ⟨distinct', counts', present', loading'⟩

end Sys2Proof.Machine

end

/-! ## Proofs: resets and the first load steps (chapter 4) -/
section

namespace Sys2Proof.Machine

/-- A reset keeps the stored bytes outside the block whose program or erase was under way (R51). -/
theorem Store.byte_afterReset {st : Store} {a : Nat} (untouched : st.op.bind StoreOp.target ≠ some (blockOf a)) :
    st.afterReset.byte a = st.byte a := by
  unfold Store.afterReset
  cases target : st.op.bind StoreOp.target with
  | none => rfl
  | some b =>
    refine st.byte_wipeBlock_other _ fun same => untouched ?_
    rw [target, same]

/-- Settles O2: every block's value is read off the reset state; the store is the only block that keeps its content. -/
theorem resetRestoresDevice : Obligations.ResetRestoresDevice := by
  rintro c reset s
  refine ⟨s.afterReset, by rcases reset with rfl | rfl <;> rfl, ?_, ?_, ?_, ?_, ?_, ?_, ?_, ?_, ?_, ?_, ?_⟩
  · exact ⟨rfl, rfl, rfl, rfl, rfl⟩
  · exact ⟨rfl, rfl, rfl, rfl, rfl, rfl, rfl, rfl⟩
  · exact ⟨rfl, rfl, rfl, rfl, rfl, rfl, fun k => by cases k <;> rfl⟩
  · exact ⟨rfl, rfl, rfl, rfl, rfl, rfl, fun d => by cases d <;> rfl⟩
  · exact ⟨rfl, rfl, rfl, rfl, rfl, rfl, rfl, rfl, rfl, fun a untouched => Store.byte_afterReset untouched⟩
  · exact ⟨rfl, rfl, rfl, rfl, rfl, rfl, rfl, rfl, rfl, rfl, rfl, rfl, rfl⟩
  · exact ⟨rfl, rfl, rfl, rfl, rfl, rfl, fun g => by cases g <;> rfl⟩
  · exact ⟨rfl, rfl, rfl, rfl, rfl⟩
  · exact ⟨rfl, rfl, rfl, rfl, rfl, rfl, rfl, rfl⟩
  · refine ⟨rfl, fun d => ⟨by cases d <;> rfl, by cases d <;> rfl, fun l => ?_⟩⟩
    cases d <;> cases l <;> exact ⟨rfl, rfl, rfl, rfl, rfl, rfl⟩
  · refine ⟨rfl, rfl, rfl, rfl, rfl, fun d => ?_⟩
    cases d <;> exact ⟨rfl, rfl, rfl, rfl, rfl, rfl, rfl, rfl, rfl, rfl, rfl, rfl, rfl⟩

/-! ### Load step 1 (R55): a fault raised several times over -/

theorem FaultRecord.occur_eq (f : FaultRecord) (detail : Nat) :
    f.occur detail = { flag := true, masked := f.masked, counter := min (f.counter + 1) 65535
                       detail := if f.flag then f.detail else detail } := by
  unfold FaultRecord.occur
  split
  · rename_i flag
    rw [flag]
  · rfl

/-- Several occurrences of one kind: the counter rises by one for each, and the first gives the detail of a clear flag (R30). -/
theorem State.foldl_raise_fault (k : FaultKind) (details : List Nat) {s : State} (bound : (s.rw.fault k).counter ≤ 65535) :
    (details.foldl (fun acc b => acc.raise k b) s).rw.fault k =
      { flag := (s.rw.fault k).flag || !details.isEmpty, masked := (s.rw.fault k).masked
        counter := min ((s.rw.fault k).counter + details.length) 65535
        detail := if (s.rw.fault k).flag then (s.rw.fault k).detail else details.headD (s.rw.fault k).detail } ∧
    (∀ j, j ≠ k → (details.foldl (fun acc b => acc.raise k b) s).rw.fault j = s.rw.fault j) ∧
    Within [.rw] s (details.foldl (fun acc b => acc.raise k b) s) := by
  induction details generalizing s with
  | nil =>
    refine ⟨?_, fun _ _ => rfl, .refl _ s⟩
    simp [bound]
  | cons b rest ih =>
    obtain ⟨own, others⟩ := s.raise_faultRaised k b
    rw [FaultRecord.occur_eq] at own
    obtain ⟨last, apart, within⟩ := ih (s := s.raise k b) (by rw [own]; exact Nat.min_le_right _ _)
    refine ⟨?_, fun j hj => (apart j hj).trans (others j hj), (s.raise_within k b).trans within⟩
    rw [List.foldl_cons, last, own]
    simp only [Bool.true_or, if_true, List.isEmpty_cons, Bool.not_false, Bool.or_true, List.length_cons, List.headD_cons,
      FaultRecord.mk.injEq, true_and, and_true]
    omega

theorem State.loadProtection_eq (s : State) :
    s.loadProtection =
      ((List.range 32).filter fun b => s.store.marks.toList.getD b .erased == .incomplete).foldl
        (fun acc b => acc.raise .storeFail b)
        { s with store.table := s.store.marks, store.lockCopy := s.store.lockMark, startup.step := 2 } := by
  unfold State.loadProtection
  rw [List.foldl_filter]
  simp only [Store.status, beq_iff_eq]
  rfl

/-! ### Load step 4 (R58): the resident cache -/

/-- A clip gets its place in the cache: it asks for one, fits what is left, and lies in no INCOMPLETE block (R58). -/
def Store.caches (st : Store) (used : Nat) (c : Clip) : Bool :=
  c.wanted && decide (used + c.length ≤ 131072) && (blocksOf c.offset c.length).all fun b => st.status b != .incomplete

theorem fillCache_cons (st : Store) (i used : Nat) (c : Clip) (rest : List Clip) :
    fillCache st i used (c :: rest) =
      if st.caches used c then
        ({ c with resident := true } :: (fillCache st (i + 1) (used + c.length) rest).1,
          (i, st.bytes c.offset c.length) :: (fillCache st (i + 1) (used + c.length) rest).2)
      else
        ({ c with resident := false } :: (fillCache st (i + 1) used rest).1, (fillCache st (i + 1) used rest).2) := by
  have same : (c.wanted = true ∧ used + c.length ≤ Config.cacheSize ∧ st.anyIncomplete c.offset c.length = false) ↔
      st.caches used c = true := by
    simp [Store.caches, Store.anyIncomplete, Config.cacheSize, List.any_eq_false, List.all_eq_true, and_assoc]
  rw [fillCache]
  simp only [same]

/-- The bytes that the resident ones of some clips take. -/
def residentBytes (cs : List Clip) : Nat := (cs.map fun k => if k.resident then k.length else 0).sum

theorem residentBytes_cons (c : Clip) (cs : List Clip) :
    residentBytes (c :: cs) = (if c.resident then c.length else 0) + residentBytes cs := rfl

theorem fillCache_length (st : Store) (i used : Nat) (cs : List Clip) : (fillCache st i used cs).1.length = cs.length := by
  induction cs generalizing i used with
  | nil => rfl
  | cons c rest ih =>
    rw [fillCache_cons]
    split <;> simp [ih]

/-- The cache holds no clip of an index below the first. -/
theorem fillCache_index (st : Store) (i used : Nat) (cs : List Clip) : ∀ e ∈ (fillCache st i used cs).2, i ≤ e.1 := by
  induction cs generalizing i used with
  | nil => exact fun _ he => nomatch he
  | cons c rest ih =>
    rw [fillCache_cons]
    split
    · intro e he
      rcases List.mem_cons.1 he with rfl | later
      · exact Nat.le_refl i
      · exact Nat.le_of_succ_le (ih _ _ e later)
    · exact fun e he => Nat.le_of_succ_le (ih _ _ e he)

/-- The cache never takes more than its size (R58). -/
theorem fillCache_fits (st : Store) {i used : Nat} (room : used ≤ 131072) (cs : List Clip) :
    used + ((fillCache st i used cs).2.map fun e => e.2.length).sum ≤ 131072 := by
  induction cs generalizing i used with
  | nil => exact room
  | cons c rest ih =>
    rw [fillCache_cons]
    split
    · rename_i caches
      have fits : used + c.length ≤ 131072 := by
        simp only [Store.caches, Bool.and_eq_true, decide_eq_true_eq] at caches
        exact caches.1.2
      have := ih (i := i + 1) fits
      simp only [List.map_cons, List.sum_cons, Store.bytes, List.length_map, List.length_range]
      omega
    · exact ih room

/-- Each clip is judged by what the resident ones before it have taken. -/
theorem fillCache_getElem (st : Store) (i used j : Nat) {cs : List Clip} {c : Clip} (h : cs[j]? = some c) :
    let r := fillCache st i used cs
    let resident := st.caches (used + residentBytes (r.1.take j)) c
    r.1[j]? = some { c with resident := resident } ∧
      r.2.find? (fun e => e.1 == i + j) = if resident then some (i + j, st.bytes c.offset c.length) else none := by
  induction cs generalizing i used j with
  | nil => simp at h
  | cons x rest ih =>
    have none : ∀ used', (fillCache st (i + 1) used' rest).2.find? (fun e => e.1 == i) = none := fun used' =>
      List.find?_eq_none.2 fun e he same => by
        have := fillCache_index st (i + 1) used' rest e he
        rw [beq_iff_eq] at same
        omega
    cases j with
    | zero =>
      obtain rfl : x = c := by simpa using h
      simp only [fillCache_cons, Nat.add_zero, List.take_zero, residentBytes, List.map_nil, List.sum_nil]
      split
      · rename_i caches
        simp [caches]
      · rename_i full
        simp [full, none]
    | succ j =>
      have found : rest[j]? = some c := by simpa using h
      have index : i + (j + 1) = i + 1 + j := by omega
      have other : (i == i + 1 + j) = false := by simp; omega
      simp only [fillCache_cons]
      split
      · obtain ⟨clip, cached⟩ := ih (i + 1) (used + x.length) j found
        simpa [residentBytes_cons, index, other, Nat.add_assoc] using And.intro clip cached
      · obtain ⟨clip, cached⟩ := ih (i + 1) used j found
        simpa [residentBytes_cons, index, other] using And.intro clip cached

/-- Settles O3: step 1 is a fold of the fault over the INCOMPLETE blocks, step 4 an induction on the clips. -/
theorem loadReadsMarksAndFillsCache : Obligations.LoadReadsMarksAndFillsCache := by
  refine ⟨fun s loading step bound => ?_, fun s loading step => ?_⟩
  · intro bad
    obtain ⟨own, others, within⟩ := State.foldl_raise_fault .storeFail bad
      (s := { s with store.table := s.store.marks, store.lockCopy := s.store.lockMark, startup.step := 2 }) bound
    have run : exec .loadStepComplete s = .next s.loadProtection := by
      simp [exec, execLoadStepComplete, loading, step]
    rw [State.loadProtection_eq] at run
    refine ⟨_, run, within .startup (by decide), within .store (by decide), own, others, ?_⟩
    refine Within.trans (fun p hp => ?_) (within.mono (by decide))
    cases p <;> first | rfl | simp at hp
  · have run : exec .loadStepComplete s = .next s.loadClips := by
      simp [exec, execLoadStepComplete, loading, step]
    refine ⟨_, run, rfl, fillCache_length _ _ _ _, ?_, fun i h c found => ?_, rfl, ?_⟩
    · have fits := fillCache_fits s.store (i := 0) (Nat.zero_le _) s.audio.clips
      rwa [Nat.zero_add] at fits
    · intro used
      obtain ⟨clip, cached⟩ := fillCache_getElem s.store 0 0 i found
      simp only [Nat.zero_add] at clip cached
      obtain ⟨_, eq⟩ := List.getElem?_eq_some_iff.1 clip
      have here : s.loadClips.audio.clips[i] = _ := eq
      have resident := congrArg (fun k : Clip => if k.resident then some (i, s.store.bytes c.offset c.length) else none) here
      exact ⟨here, cached.trans resident.symm⟩
    · intro p hp
      cases p <;> first | rfl | simp at hp

/-! ### Load steps 2 and 3 (R56, R57) -/

/-- Settles O4: each step is run on the record that the store holds. -/
theorem loadTakesStoredRecords : Obligations.LoadTakesStoredRecords := by
  refine ⟨fun s y loading step read => ?_, fun s loading step none => ?_, fun s y loading step read => ?_⟩
  · have run : exec .loadStepComplete s = .next s.loadLayout := by
      simp [exec, execLoadStepComplete, loading, step]
    rw [run, State.loadLayout, read]
  · have run : exec .loadStepComplete s = .next s.loadCalibration := by
      simp [exec, execLoadStepComplete, loading, step]
    rw [run, State.loadCalibration, none]
    rfl
  · have run : exec .loadStepComplete s = .next s.loadCalibration := by
      simp [exec, execLoadStepComplete, loading, step]
    rw [State.loadCalibration, read] at run
    refine ⟨_, run, rfl, rfl, ?_, fun fresh => ?_, fun stale => ?_, ?_⟩
    · dsimp only
      split <;> rfl
    · simp [fresh, Guide.steer]
    · simp [stale, Guide.straighten]
    · intro p hp
      cases p <;> first | rfl | simp at hp

end Sys2Proof.Machine

end

/-! ## Proofs: system restart and loss of link (chapters 1 and 4) -/
section

namespace Sys2Proof.Machine

/-! ### What the settling of the chime players leaves (R173, R179) -/

/-- Every chime, pending or in a player, is the part's own. -/
def State.AllPart (s : State) : Prop := ∀ d, (∀ c ∈ (s.audio.chimes.get d).queue, c.owner = .part) ∧
  ∀ c, (s.audio.chimes.get d).player.chime = some c → c.owner = .part

/-- Of the report writer at most the record of CHIME_UNAVAILABLE has changed, and every kind is masked. -/
structure QuietFrom (rw rw' : ReportWriter) : Prop where
  rest : FaultsOnly rw rw'
  faults : ∀ k, k ≠ .chimeUnavailable → rw'.fault k = rw.fault k
  masked : ∀ k, (rw'.fault k).masked = true

/-- What chimes that move on change: stores, players and the buffer, no stream, and of a writer with every kind masked only
what is counted for CHIME_UNAVAILABLE. -/
structure ChimesMove (s t : State) : Prop where
  within : Within [.audio, .store, .rw] s t
  streams : t.audio.streams = s.audio.streams
  quiet : (∀ k, (s.rw.fault k).masked = true) → QuietFrom s.rw t.rw

theorem ChimesMove.refl (s : State) : ChimesMove s s := ⟨.refl _ s, rfl, fun masked => ⟨rfl, fun _ _ => rfl, masked⟩⟩

theorem ChimesMove.trans {s t u : State} (h : ChimesMove s t) (g : ChimesMove t u) : ChimesMove s u where
  within := h.within.trans g.within
  streams := g.streams.trans h.streams
  quiet masked := by
    obtain ⟨rest, faults, still⟩ := h.quiet masked
    obtain ⟨rest', faults', masked'⟩ := g.quiet still
    exact ⟨rest.trans rest', fun k hk => (faults' k hk).trans (faults k hk), masked'⟩

/-- A change of players, buffer or staging. -/
theorem ChimesMove.of_within {s t : State} (h : Within [.audio, .store] s t) (streams : t.audio.streams = s.audio.streams) :
    ChimesMove s t where
  within := h.mono (by decide)
  streams := streams
  quiet masked := by
    have rw : t.rw = s.rw := h .rw (by decide)
    rw [rw]
    exact ⟨rfl, fun _ _ => rfl, masked⟩

theorem ChimesMove.of_audio {s : State} {a : Audio} (streams : a.streams = s.audio.streams) :
    ChimesMove s { s with audio := a } := .of_within ((within_audio s a).mono (by decide)) streams

theorem State.raise_of_masked {s : State} {k : FaultKind} (masked : (s.rw.fault k).masked = true) (detail : Nat) :
    s.raise k detail = { s with rw := s.rw.putFault k ((s.rw.fault k).occur detail) } := by
  simp [State.raise, masked]

theorem State.raise_chimesMove (s : State) (detail : Nat) : ChimesMove s (s.raise .chimeUnavailable detail) where
  within := (s.raise_within _ _).mono (by decide)
  streams := by simp
  quiet masked := by
    rw [State.raise_of_masked (masked _)]
    refine ⟨rfl, fun k hk => ?_, fun k => ?_⟩
    · rw [ReportWriter.fault_putFault, if_neg hk]
    · rw [ReportWriter.fault_putFault]
      split
      · rw [FaultRecord.occur_eq]
        exact masked _
      · exact masked k

theorem State.setPlayer_chimesMove (s : State) (d : Display) (p : Player) : ChimesMove s (s.setPlayer d p) := .of_audio rfl

theorem State.unstageableAnswer_chimesMove (s : State) (d : Display) (c : Chime) (k : Clip) :
    ChimesMove s (s.unstageableAnswer d c k) := by
  unfold State.unstageableAnswer
  extract_lets s1
  have raised : ChimesMove s s1 := s.raise_chimesMove _
  split <;> exact raised.trans (s1.setPlayer_chimesMove _ _)

theorem State.claimBuffer_chimesMove (s : State) (d : Display) (c : Chime) (k : Clip) : ChimesMove s (s.claimBuffer d c k) := by
  unfold State.claimBuffer
  split
  · exact .of_audio rfl
  · split
    · exact s.unstageableAnswer_chimesMove d c k
    · refine ChimesMove.trans ?_ (.of_within ((State.acceptStaging_within _ _ _ _).mono (by decide)) ?_)
      · exact .of_audio rfl
      · rw [State.acceptStaging_within _ _ _ _ .audio (by decide)]

theorem State.startChime_chimesMove (s : State) (d : Display) (c : Chime) : ChimesMove s (s.startChime d c) := by
  unfold State.startChime
  split
  · exact (s.raise_chimesMove _).trans (State.setPlayer_chimesMove _ _ _)
  · split
    · exact s.setPlayer_chimesMove _ _
    · split
      · exact s.claimBuffer_chimesMove d c _
      · exact .of_audio rfl

theorem State.serveWaiter_chimesMove (s : State) (d : Display) (rest : List Display) : ChimesMove s (s.serveWaiter d rest) := by
  unfold State.serveWaiter
  extract_lets audio buffer s1
  have left : ChimesMove s s1 := .of_audio rfl
  split
  · split
    · exact left.trans (s1.claimBuffer_chimesMove d _ _)
    · exact left
  · exact left
  · exact left

theorem State.settleChimes_chimesMove (n : Nat) (s : State) : ChimesMove s (State.settleChimes n s) := by
  induction n generalizing s with
  | zero => exact .refl s
  | succ n ih =>
    unfold State.settleChimes
    split
    · split
      · exact .refl s
      · exact (s.serveWaiter_chimesMove _ _).trans (ih _)
    · split
      · exact .refl s
      · split
        · exact .refl s
        · refine ChimesMove.trans (ChimesMove.trans ?_ (State.startChime_chimesMove _ _ _)) (ih _)
          exact .of_audio rfl

theorem State.settle_chimesMove (s : State) : ChimesMove s s.settle := State.settleChimes_chimesMove _ s

/-! ### The part's own chimes stay the only ones -/

theorem State.AllPart.of_chimes {s t : State} (h : s.AllPart) (same : t.audio.chimes = s.audio.chimes) : t.AllPart := by
  unfold State.AllPart
  rw [same]
  exact h

theorem State.AllPart.setPlayer {s : State} (h : s.AllPart) (d : Display) {p : Player}
    (own : ∀ c, p.chime = some c → c.owner = .part) : (s.setPlayer d p).AllPart := by
  intro e
  unfold State.setPlayer State.updateChimes
  rw [PerDisplay.get_put]
  split
  · exact ⟨(h d).1, own⟩
  · exact h e

theorem State.raise_chimes (s : State) (k : FaultKind) (n : Nat) : (s.raise k n).audio.chimes = s.audio.chimes := by
  rw [State.raise_audio]

theorem State.AllPart.claimBuffer {s : State} (h : s.AllPart) (d : Display) {c : Chime} (own : c.owner = .part) (k : Clip) :
    (s.claimBuffer d c k).AllPart := by
  have playing : ∀ src pos, ∀ x, (Player.playing c src pos).chime = some x → x.owner = .part := fun _ _ x eq => by
    cases eq
    exact own
  unfold State.claimBuffer
  split
  · exact State.AllPart.setPlayer (h.of_chimes rfl) d (playing _ _)
  · split
    · unfold State.unstageableAnswer
      extract_lets s1
      have raised : s1.AllPart := h.of_chimes (s.raise_chimes _ _)
      rw [own]
      exact raised.setPlayer d (playing _ _)
    · refine State.AllPart.of_chimes ?_ (congrArg Audio.chimes (State.acceptStaging_within _ _ _ _ .audio (by decide)))
      refine State.AllPart.setPlayer (h.of_chimes rfl) d fun x eq => ?_
      cases eq
      exact own

theorem State.AllPart.startChime {s : State} (h : s.AllPart) (d : Display) {c : Chime} (own : c.owner = .part) :
    (s.startChime d c).AllPart := by
  have playing : ∀ src pos, ∀ x, (Player.playing c src pos).chime = some x → x.owner = .part := fun _ _ x eq => by
    cases eq
    exact own
  unfold State.startChime
  split
  · exact (h.of_chimes (s.raise_chimes _ _)).setPlayer d (playing _ _)
  · split
    · exact h.setPlayer d (playing _ _)
    · split
      · exact h.claimBuffer d own _
      · refine State.AllPart.of_chimes (h.setPlayer d (p := .starting c) fun x eq => ?_) rfl
        cases eq
        exact own

theorem State.AllPart.settleChimes {s : State} (h : s.AllPart) (n : Nat) : (State.settleChimes n s).AllPart := by
  induction n generalizing s with
  | zero => exact h
  | succ n ih =>
    unfold State.settleChimes
    split
    · split
      · exact h
      · rename_i d rest _
        refine ih ?_
        unfold State.serveWaiter
        extract_lets audio buffer s1
        have left : s1.AllPart := h.of_chimes rfl
        split
        · rename_i c player
          split
          · exact left.claimBuffer d ((h d).2 c (by rw [player]; rfl)) _
          · exact left
        · exact left
        · exact left
    · split
      · exact h
      · rename_i d _
        split
        · exact h
        · rename_i c rest queue
          have owned : ∀ x ∈ c :: rest, x.owner = .part := fun x hx => (h d).1 x (by rw [queue]; exact hx)
          refine ih (State.AllPart.startChime ?_ d (owned c List.mem_cons_self))
          intro e
          unfold State.updateChimes
          rw [PerDisplay.get_put]
          split
          · exact ⟨fun x hx => owned x (List.mem_cons_of_mem c hx), (h d).2⟩
          · exact h e

/-- A player that has given up a SYSTEM chime, and no other (R177). -/
def Player.withoutSystem (p : Player) : Player :=
  match p.chime with
  | none => p
  | some c => if c.owner = .system then .idle else p

/-- A pair with its SYSTEM chimes taken out, pending and in the player (R177, R185). -/
def PairChimes.withoutSystem (p : PairChimes) : PairChimes :=
  { queue := p.queue.filter fun c => c.owner == .part, arrivals := p.arrivals, player := p.player.withoutSystem }

theorem State.dropSystemChimes_get (s : State) (d e : Display) :
    (s.dropSystemChimes d).audio.chimes.get e =
      if e = d then (s.audio.chimes.get d).withoutSystem else s.audio.chimes.get e := by
  unfold State.dropSystemChimes PairChimes.withoutSystem Player.withoutSystem
  extract_lets s1
  have filtered : ∀ f, s1.audio.chimes.get f = if f = d then { s.audio.chimes.get d with
      queue := (s.audio.chimes.get d).queue.filter fun c => c.owner == .part } else s.audio.chimes.get f := fun f =>
    PerDisplay.get_put _ _ _ _
  have left : ∀ f, (s1.leavePlayer d).audio.chimes.get f =
      if f = d then { s1.audio.chimes.get d with player := .idle } else s1.audio.chimes.get f := fun f =>
    PerDisplay.get_put _ _ _ _
  cases chime : (s.audio.chimes.get d).player.chime with
  | none => exact filtered e
  | some c =>
    dsimp only
    by_cases system : c.owner = .system
    · rw [if_pos system, if_pos system, left, filtered, filtered, if_pos rfl]
      split <;> rfl
    · rw [if_neg system, if_neg system]
      exact filtered e

theorem PairChimes.withoutSystem_part (p : PairChimes) : (∀ c ∈ p.withoutSystem.queue, c.owner = .part) ∧
    ∀ c, p.withoutSystem.player.chime = some c → c.owner = .part := by
  constructor
  · intro c hc
    simpa using (List.mem_filter.1 hc).2
  · intro c chime
    unfold PairChimes.withoutSystem Player.withoutSystem at chime
    dsimp only at chime
    split at chime
    · rename_i none
      rw [none] at chime
      exact nomatch chime
    · rename_i x eq
      split at chime
      · exact nomatch chime
      · rename_i notSystem
        rw [eq] at chime
        obtain rfl := Option.some.inj chime
        cases owner : x.owner with
        | part => rfl
        | system => exact absurd owner notSystem

/-- Every pair has had its SYSTEM chimes taken out (R185). -/
theorem State.dropAllSystemChimes_get (s : State) (d : Display) :
    (allDisplays.foldl State.dropSystemChimes s).audio.chimes.get d = (s.audio.chimes.get d).withoutSystem := by
  simp only [allDisplays, List.foldl_cons, List.foldl_nil, State.dropSystemChimes_get]
  cases d <;> simp

theorem State.dropAllSystemChimes_allPart (s : State) : (allDisplays.foldl State.dropSystemChimes s).AllPart := fun d => by
  rw [State.dropAllSystemChimes_get]
  exact PairChimes.withoutSystem_part _

/-! ### The streams and the report writer after a restart -/

theorem State.stopStream_streams (s : State) (d e : Display) :
    (s.stopStream d).audio.streams.get e =
      if e = d ∧ (s.audio.streams.get d).running = true then
        { s.audio.streams.get d with running := false, ring := none, buffer := [], gEff := 0, startDelay := none }
      else s.audio.streams.get e := by
  unfold State.stopStream
  extract_lets st
  split
  · rename_i s1 audio running
    have same : s1.audio = s.audio := by
      unfold s1
      split <;> rfl
    change (s1.audio.streams.put d _).get e = _
    rw [PerDisplay.get_put, same]
    by_cases here : e = d
    · rw [if_pos here, if_pos ⟨here, running⟩]
    · rw [if_neg here, if_neg fun h => here h.1]
  · rename_i stopped
    rw [if_neg fun h => stopped h.2]

/-- What a restart makes of a stream (R185): it does not run, and its indices and its held value are 0. -/
theorem State.restartStreams_get (s : State) (d : Display) :
    (s.restartStreams.audio.streams.get d).running = false ∧ (s.restartStreams.audio.streams.get d).consumer = 0 ∧
      (s.restartStreams.audio.streams.get d).producer = 0 ∧ (s.restartStreams.audio.streams.get d).held = 0 := by
  have one : ∀ (t : State) d e, ((t.stopStream d).updateStream d fun x => { x with consumer := 0, held := 0, producer := 0 }).audio.streams.get e =
      if e = d then { (t.stopStream d).audio.streams.get d with consumer := 0, held := 0, producer := 0 } else t.audio.streams.get e := by
    intro t d e
    unfold State.updateStream
    rw [PerDisplay.get_put]
    split
    · rfl
    · rename_i other
      rw [State.stopStream_streams, if_neg (fun h => other h.1)]
  have stopped : ∀ (t : State) d, ((t.stopStream d).audio.streams.get d).running = false := by
    intro t d
    rw [State.stopStream_streams]
    split
    · rfl
    · rename_i h
      exact eq_false_of_ne_true fun running => h ⟨rfl, running⟩
  simp only [State.restartStreams, allDisplays, List.foldl_cons, List.foldl_nil, one]
  cases d <;> simp [stopped]

theorem actsOnKind_restart : ActsOnKind
    (fun rw k => rw.putFault k { rw.fault k with flag := false, detail := 0, masked := true })
    (fun _ r => { r with flag := false, detail := 0, masked := true }) :=
  actsOnKind_putFault fun _ r => { r with flag := false, detail := 0, masked := true }

theorem ReportWriter.fault_restart (rw : ReportWriter) (k : FaultKind) :
    rw.restart.fault k = { flag := false, masked := true, counter := (rw.fault k).counter, detail := 0 } :=
  actsOnKind_restart.foldl_all _ k

theorem FaultsOnly.eq {rw rw' : ReportWriter} (h : FaultsOnly rw rw') : rw' = { rw with faults := rw'.faults } := by
  cases rw
  cases rw'
  simp_all [FaultsOnly]

/-- All but the fault records of a restarted report writer (R36). -/
theorem ReportWriter.restart_eq (rw : ReportWriter) :
    rw.restart = { rw with producer := 0, consumer := 0, lost := 0, faults := rw.restart.faults } := by
  have rest : FaultsOnly { rw with producer := 0, consumer := 0, lost := 0 } rw.restart := actsOnKind_restart.foldl_rest _ _
  exact rest.eq

/-! ### A system restart -/

/-- The chimes are taken out; no stream changes. -/
theorem State.dropAllSystemChimes_streams (s : State) :
    (allDisplays.foldl State.dropSystemChimes s).audio.streams = s.audio.streams := by
  have one : ∀ (t : State) d, (t.dropSystemChimes d).audio.streams = t.audio.streams := fun t d => by
    unfold State.dropSystemChimes
    extract_lets s1
    have first : s1.audio.streams = t.audio.streams := rfl
    split
    · exact first
    · split <;> exact first
  simp only [allDisplays, List.foldl_cons, List.foldl_nil, one]

/-- An attachment given up makes no difference to what a restart leaves of the table (R19). -/
theorem restartRegions_detach (regions : List Region) (ident : Nat) :
    restartRegions (detachRegion regions ident) = restartRegions regions := by
  unfold restartRegions detachRegion updateRegion
  rw [List.filter_map, List.map_map]
  have layout : (regions.filter fun r => (if r.ident = ident then { r with stream := none } else r).origin == .layout) =
      regions.filter fun r => r.origin == .layout := List.filter_congr fun r _ => by split <;> rfl
  refine Eq.trans (congrArg _ layout) (List.map_congr_left fun r _ => ?_)
  simp only [Function.comp]
  split <;> rfl

theorem State.restartStreams_regions (s : State) :
    restartRegions s.restartStreams.regions = restartRegions s.regions := by
  have one : ∀ (t : State) d, restartRegions ((t.stopStream d).regions) = restartRegions t.regions := fun t d => by
    unfold State.stopStream
    extract_lets st
    split
    · rename_i s1 audio _
      change restartRegions (match st.ring with | none => t | some r => { t with regions := detachRegion t.regions r.region }).regions = _
      split
      · rfl
      · exact restartRegions_detach _ _
    · rfl
  have kept : ∀ (t : State) d f, (t.updateStream d f).regions = t.regions := fun _ _ _ => rfl
  simp only [State.restartStreams, allDisplays, List.foldl_cons, List.foldl_nil, kept, one]

/-- The two ring index words after a restart (R25): 0x024 before 0x028. -/
def Roles.ringWrites (roles : Roles) : List DeviceWrite :=
  [{ addr := roles.statusBlock + 0x024, bytes := bytesOf 4 0, bringUp := false },
    { addr := roles.statusBlock + 0x028, bytes := bytesOf 4 0, bringUp := false }]

theorem State.restartRings_eq (s : State) : s.restartRings =
    { s with
      rw := { s.rw.restart with queue := s.rw.queue ++ (s.roles.map Roles.ringWrites).getD [] }, taker := .reset
      link.path := s.link.path.map LinkAccess.dropRecord } := by
  have queue : s.rw.restart.queue = s.rw.queue := by rw [ReportWriter.restart_eq]
  unfold State.restartRings State.statusNow
  cases roles : s.roles with
  | none => simp [← queue]
  | some r => simp [State.present, Roles.ringWrites, queue]

theorem State.restartRings_fault (s : State) (k : FaultKind) :
    s.restartRings.rw.fault k = { flag := false, masked := true, counter := (s.rw.fault k).counter, detail := 0 } := by
  rw [State.restartRings_eq, ← s.rw.fault_restart k]
  exact ReportWriter.fault_congr (by dsimp only) k

theorem State.restartRings_rw (s : State) : ∃ faults, s.restartRings.rw =
    { s.rw with producer := 0, consumer := 0, lost := 0
                queue := s.rw.queue ++ (s.roles.map Roles.ringWrites).getD [], faults := faults } := by
  refine ⟨s.rw.restart.faults, ?_⟩
  rw [State.restartRings_eq]
  dsimp only
  have restarted := s.rw.restart_eq
  generalize s.rw.restart = r at restarted ⊢
  conv_lhs => rw [restarted]

/-- The state of a restart before the chimes of the part that are left move on. -/
theorem State.systemRestart_settles (s : State) : ∃ u : State, s.systemRestart = u.settle ∧ u.AllPart ∧
    u.audio.streams = s.restartRings.restartStreams.audio.streams ∧
    Within [.audio, .regions, .displays, .reverse] s.restartRings u ∧
    u.regions = restartRegions s.restartRings.restartStreams.regions := by
  unfold State.systemRestart
  extract_lets s1 s2
  have dropped : ∀ t : State, Within [.audio] t (allDisplays.foldl State.dropSystemChimes t) :=
    Within.foldl (fun t d => t.dropSystemChimes_within d) _
  refine ⟨_, rfl, State.dropAllSystemChimes_allPart _, State.dropAllSystemChimes_streams _, ?_, ?_⟩
  · refine Within.trans ?_ ((dropped _).mono (by decide))
    refine Within.trans (s.restartRings.restartStreams_within.mono (by decide)) (fun p hp => ?_)
    cases p <;> first | rfl | simp at hp
  · rw [dropped _ .regions (by decide)]
    rfl

/-- What a restart makes of the report writer, but that the part's chimes that then start may count CHIME_UNAVAILABLE (R36). -/
theorem State.systemRestart_rw (s : State) : QuietFrom s.restartRings.rw s.systemRestart.rw := by
  obtain ⟨u, settled, -, -, within, -⟩ := s.systemRestart_settles
  have same : u.rw = s.restartRings.rw := within .rw (by decide)
  rw [settled, ← same]
  refine u.settle_chimesMove.quiet fun k => ?_
  rw [same, State.restartRings_fault]

theorem State.systemRestart_link (s : State) : s.systemRestart.link =
    { s.link with path := s.link.path.map LinkAccess.dropRecord } := by
  obtain ⟨u, settled, -, -, within, -⟩ := s.systemRestart_settles
  rw [settled, State.settle_within _ .link (by decide), within .link (by decide), State.restartRings_eq]

theorem State.systemRestart_chimes (s : State) : s.systemRestart.AllPart := by
  obtain ⟨u, settled, part, -⟩ := s.systemRestart_settles
  rw [settled]
  exact part.settleChimes _

theorem State.systemRestart_regions (s : State) : s.systemRestart.regions = restartRegions s.regions := by
  obtain ⟨u, settled, -, -, -, regions⟩ := s.systemRestart_settles
  rw [settled, State.settle_within _ .regions (by decide), regions, State.restartStreams_regions, State.restartRings_eq]

theorem State.systemRestart_streams (s : State) : s.systemRestart.audio.streams = s.restartRings.restartStreams.audio.streams := by
  obtain ⟨u, settled, -, streams, -⟩ := s.systemRestart_settles
  rw [settled, u.settle_chimesMove.streams, streams]

theorem State.systemRestart_taker (s : State) : s.systemRestart.taker = .reset := by
  obtain ⟨u, settled, -, -, within, -⟩ := s.systemRestart_settles
  rw [settled, State.settle_within _ .taker (by decide), within .taker (by decide), State.restartRings_eq]

theorem State.systemRestart_writer (s : State) : ∃ faults, s.systemRestart.rw =
    { s.rw with producer := 0, consumer := 0, lost := 0
                queue := s.rw.queue ++ (s.roles.map Roles.ringWrites).getD [], faults := faults } := by
  have writer := s.systemRestart_rw.rest.eq
  obtain ⟨f, rings⟩ := s.restartRings_rw
  rw [rings] at writer
  exact ⟨_, writer⟩

theorem Reverse.restart_eq (r : Reverse) : r.restart = { r with state := if r.state = .manual then .off else r.state } := by
  obtain ⟨running, state, timer, source, holdOffMs, exitSpeed⟩ := r
  cases state <;> rfl

/-- Everything that a system restart leaves (R63). -/
theorem State.systemRestart_restarted (s : State) : Restarted s s.systemRestart := by
  have within := s.systemRestart_within
  obtain ⟨rest, faults, masked⟩ := s.systemRestart_rw
  obtain ⟨f, writer⟩ := s.systemRestart_writer
  constructor
  case regions => exact s.systemRestart_regions
  case views => exact s.systemRestart_stack
  case holds =>
    intro d
    rw [State.systemRestart_displays]
    cases d <;> rfl
  case layers =>
    intro d l
    unfold State.layer
    rw [State.systemRestart_displays]
    cases d <;> cases l <;> rfl
  case scans =>
    intro d
    rw [State.systemRestart_displays]
    cases d <;> exact ⟨rfl, rfl⟩
  case reverse =>
    rw [State.systemRestart_reverse]
    exact s.reverse.restart_eq
  case streams =>
    intro d
    rw [State.systemRestart_streams]
    exact State.restartStreams_get _ d
  case systemChimes => exact s.systemRestart_chimes
  case taker => exact s.systemRestart_taker
  case consumer => rw [writer]
  case lost => rw [writer]
  case masks => exact masked
  case flags =>
    intro k other
    rw [faults k other, State.restartRings_fault]
    exact ⟨rfl, rfl, rfl⟩
  case updateCount => rw [writer]
  case store => exact Store.StagedFrom.rest s.systemRestart_stages
  case kept =>
    exact ⟨within .time (by decide), within .dram (by decide), within .startup (by decide), within .roles (by decide),
      within .arb (by decide), within .camera (by decide), within .vehicle (by decide), within .park (by decide),
      within .guide (by decide), within .compositor (by decide)⟩

/-- What is not of the report writer, a report leaves restarted. -/
theorem Restarted.of_rw {s t u : State} (h : Restarted s t) (same : Within [.rw] t u) (consumer : u.rw.consumer = 0)
    (lost : u.rw.lost = 0) (faults : ∀ k, u.rw.fault k = t.rw.fault k) (count : u.rw.updateCount = s.rw.updateCount) :
    Restarted s u := by
  have displays : u.displays = t.displays := same .displays (by decide)
  have audio : u.audio = t.audio := same .audio (by decide)
  have kept := h.kept
  have layers := h.layers
  have views := h.views
  have store := h.store
  unfold State.layer at layers
  unfold State.stack at views
  constructor
  case regions => rw [same .regions (by decide)]; exact h.regions
  case views => unfold State.stack; rw [displays]; exact views
  case holds => rw [displays]; exact h.holds
  case layers => unfold State.layer; rw [displays]; exact layers
  case scans => rw [displays]; exact h.scans
  case reverse => rw [same .reverse (by decide)]; exact h.reverse
  case streams => rw [audio]; exact h.streams
  case systemChimes => rw [audio]; exact h.systemChimes
  case taker => rw [same .taker (by decide)]; exact h.taker
  case consumer => exact consumer
  case lost => exact lost
  case masks => intro k; rw [faults]; exact h.masks k
  case flags => intro k; rw [faults]; exact h.flags k
  case updateCount => exact count
  case store => rw [same .store (by decide)]; exact store
  case kept =>
    rw [same .time (by decide), same .dram (by decide), same .startup (by decide), same .roles (by decide),
      same .arb (by decide), same .camera (by decide), same .vehicle (by decide), same .park (by decide),
      same .guide (by decide), same .compositor (by decide)]
    exact kept

/-! ### Training and loss of link (R1, R2) -/

theorem State.post_down {s : State} (down : s.link.up = false) (r : Report) : s.post r = s := by
  simp [State.post, down]

/-- Settles O7: the restart of the link side is `systemRestart_restarted`, and with the link DOWN no report follows it. -/
theorem linkTrainingAndLoss : Obligations.LinkTrainingAndLoss := by
  refine ⟨fun s running down => ?_, fun s loading => ?_, fun s up => ?_⟩
  · simp [exec, execLinkTraining, running, down]
  · simp [exec, execLinkTraining, loading]
  · let s1 : State := { s with
        link := { s.link with
          up := false, responses := [], held := [], path := s.link.path.map LinkAccess.dropRead } }
    have quiet : s1.systemRestart.tellReverse s.reverse.state = s1.systemRestart := by
      unfold State.tellReverse
      rw [State.post_down (by rw [State.systemRestart_link])]
      split <;> rfl
    have run : exec .lossOfLink s = .next s1.systemRestart := by
      rw [← quiet]
      simp [exec, execLossOfLink, up, s1]
    have restarted := s1.systemRestart_restarted
    have link := s1.systemRestart_link
    refine ⟨_, run, ?_, ?_, ?_⟩
    · exact { restarted with }
    · obtain ⟨f, writer⟩ := s1.systemRestart_writer
      rw [writer]
    · rw [link]
      refine ⟨rfl, rfl, rfl, rfl, ?_⟩
      change (s.link.path.map LinkAccess.dropRead).map LinkAccess.dropRecord = _
      rw [List.map_map]
      refine List.map_congr_left fun a _ => ?_
      cases a <;> rfl

/-! ### SYSTEM_RESTART (R25, R63, R105) -/

/-- The state after reports placed one behind the other from a slot on (R26). -/
def State.reported (s : State) (roles : Roles) (n : Nat) (reports : List (List Byte)) : State :=
  { s with
    rw := { s.rw with
      producer := n + reports.length
      queue := s.rw.queue ++ ((List.range reports.length).map fun i =>
        [({ addr := roles.reportRing + 32 * (n + i), bytes := reports.getD i [], bringUp := false } : DeviceWrite),
          { addr := roles.statusBlock + 0x028, bytes := bytesOf 4 (n + i + 1), bringUp := false }]).flatten } }

/-- A report goes into the first slot of a ring that has room (R26). -/
theorem State.post_of_room {s : State} {roles : Roles} (named : s.roles = some roles) (up : s.link.up = true)
    (lost : s.rw.lost = 0) (consumer : s.rw.consumer = 0) {n : Nat} (producer : s.rw.producer = n) (room : n < 127)
    (r : Report) : s.post r = s.reported roles n [encodeReport s.time r] := by
  have free : s.rw.slotFree = true := by
    simp [ReportWriter.slotFree, consumer, producer]
    omega
  have next : (n + 1) % 128 = n + 1 := Nat.mod_eq_of_lt (by omega)
  simp [State.post, up, lost, free, State.placeReport_of_roles named, State.reported, producer, next]

theorem State.reported_reported (s : State) (roles : Roles) (n : Nat) (x y : List Byte) :
    (s.reported roles n [x]).reported roles (n + 1) [y] = s.reported roles n [x, y] := by
  simp [State.reported, List.range_succ, Nat.add_assoc]

/-- Settles O33: the restart leaves an empty ring, and the reports that follow it take its first slots. -/
theorem systemRestartRestoresLinkSide : Obligations.SystemRestartRestoresLinkSide := by
  intro s rec roles arrives named up
  obtain ⟨arrived, ofKind, checked⟩ := arrives
  have run : exec .systemRestart s = .next (s.takeSystemRestart rec) := by
    simp [exec, execSystemRestart, State.arrivedOf, arrived, ofKind]
  refine ⟨fun refused => ?_, fun clear => ?_⟩
  · rw [run]
    simp [State.takeSystemRestart, checked, refused, State.ended]
  · let r := s.systemRestart
    let reports := (if reqWanted rec = 1 then [encodeReport s.time (.done (reqTag rec) .ok 0)] else []) ++
      if s.reverse.state = .manual then [encodeReport s.time (.reverse .off)] else []
    have restarted : Restarted s r := s.systemRestart_restarted
    obtain ⟨faults, writer⟩ := s.systemRestart_writer
    have link := s.systemRestart_link
    have roles' : r.roles = some roles := restarted.kept.2.2.2.1.trans named
    have time : r.time = s.time := restarted.kept.1
    have told : s.takeSystemRestart rec = r.reported roles 0 reports := by
      have first : ∀ x, r.post x = r.reported roles 0 [encodeReport s.time x] := fun x => by
        rw [State.post_of_room roles' (by rw [link]; exact up) (by rw [writer]) (by rw [writer])
          (n := 0) (by rw [writer]) (Nat.zero_lt_succ _), time]
      have second : ∀ b x, (r.reported roles 0 [b]).post x = r.reported roles 0 [b, encodeReport s.time x] := fun b x => by
        rw [← State.reported_reported]
        refine (State.post_of_room (s := r.reported roles 0 [b]) (n := 0 + 1) roles' ?_ ?_ ?_ rfl (by omega) x).trans ?_
        · exact (congrArg LinkPort.up link).trans up
        · exact congrArg ReportWriter.lost writer
        · exact congrArg ReportWriter.consumer writer
        · rw [show (r.reported roles 0 [b]).time = s.time from time]
      have none : r.reported roles 0 [] = r := by
        have zero : r.rw.producer = 0 := congrArg ReportWriter.producer writer
        calc r.reported roles 0 []
            _ = { r with rw := { r.rw with producer := 0 } } := by simp [State.reported]
            _ = r := by rw [← zero]
      have ends : s.takeSystemRestart rec =
          (if reqWanted rec = 1 then r.post (.done (reqTag rec) .ok 0) else r).tellReverse s.reverse.state := by
        simp [State.takeSystemRestart, checked, clear, r]
        rfl
      rw [ends]
      unfold State.tellReverse
      by_cases wanted : reqWanted rec = 1 <;> by_cases manual : s.reverse.state = .manual
      · simp only [wanted, manual, reports, if_true, first, second, List.singleton_append]
      · simp only [wanted, manual, reports, if_true, if_false, first, List.append_nil]
      · simp only [wanted, manual, reports, if_true, if_false, first, List.nil_append]
      · simp only [wanted, manual, reports, if_false, none, List.append_nil]
    refine ⟨_, run, ?_⟩
    rw [told]
    refine ⟨?_, ?_, ?_, ?_, ?_, ?_, ?_, ?_⟩
    · refine restarted.of_rw (by intro p hp; cases p <;> first | rfl | simp at hp) ?_ ?_ (fun k => ?_) ?_
      · exact congrArg ReportWriter.consumer writer
      · exact congrArg ReportWriter.lost writer
      · exact ReportWriter.fault_congr rfl k
      · exact (congrArg ReportWriter.updateCount writer :)
    · exact (congrArg LinkPort.up link).trans up
    · exact (congrArg LinkPort.responses link :)
    · exact (congrArg LinkPort.held link :)
    · exact (congrArg LinkPort.answered link :)
    · exact Nat.zero_add _
    · have queue : r.rw.queue = s.rw.queue ++ roles.ringWrites := by
        rw [show r.rw = _ from writer, named]
        rfl
      simp only [State.reported, queue, List.map_append, List.map_flatten, List.map_map, Nat.zero_add]
      rfl
    · intro a inPath b live record
      rw [show (r.reported roles 0 reports).link = _ from link] at inPath
      obtain ⟨a', -, rfl⟩ := List.mem_map.1 inPath
      cases a' with
      | record _ _ => exact (LinkAccess.record.inj record).2.symm
      | read _ _ _ => exact nomatch record
      | write _ _ => exact nomatch record

end Sys2Proof.Machine

end

/-! ## Proofs: watched words, the arbiter, reports, the common checks and the layer requests -/
section

namespace Sys2Proof.Machine

/-! ### The producer words (R14, R20, R168) -/

/-- With the ring named, the taker fetches where a record is pending and no fetch is under way (R20). -/
theorem State.startFetch_of_roles {s : State} {roles : Roles} (named : s.roles = some roles) :
    s.startFetch =
      if 0 < s.taker.pendingCount ∧ s.taker.fetch = .idle then
        { s with
          taker := { s.taker with fetch := .inFlight }
          link := { s.link with path := s.link.path ++ [.record (roles.requestRing + 32 * s.taker.consumer) true] } }
      else s := by
  unfold State.startFetch
  split
  · next unnamed => simp [named] at unnamed
  · next known =>
    obtain rfl := Option.some.inj (named.symm.trans known)
    rfl

/-- Settles O10: the write enters class C, and the taker then refuses the value, or takes it with or without a fetch. -/
theorem requestProducerIsTaken : Obligations.RequestProducerIsTaken := by
  intro s roles v writable
  have run : exec (.requestProducerIndex v) s =
      .next ((s.entered (wordWrite roles 0x000 v [])).takeRequestProducer v) :=
    congrArg Host.Outcome.next (writable.writeWord (by decide) v)
  have small : v.toNat < 256 → (s.entered (wordWrite roles 0x000 v [])).takeRequestProducer v =
      State.startFetch { s.entered (wordWrite roles 0x000 v []) with taker.producer := v.toNat } := fun lt =>
    if_neg (by omega)
  have fetch := State.startFetch_of_roles
    (s := { s.entered (wordWrite roles 0x000 v []) with taker.producer := v.toNat }) writable.named
  refine ⟨fun large => ?_, fun lt quiet => ?_, fun lt pending idle => ?_⟩
  · rw [State.takeRequestProducer, if_pos large] at run
    refine ⟨_, run, State.raise_faultRaised _ _ _, State.raise_link _ _ _, ?_⟩
    exact ((within_link s _).mono (by decide)).trans ((State.raise_within _ _ _).mono (by decide))
  · rw [run, small lt, fetch, if_neg]
    · rfl
    · rintro ⟨pending, idle⟩
      exact quiet.elim (fun none => absurd pending (by rw [Taker.pendingCount]; exact none ▸ Nat.lt_irrefl 0))
        fun busy => busy idle
  · rw [run, small lt, fetch, if_pos ⟨pending, idle⟩]
    simp [State.entered]

/-- Settles O12: a media producer word carries its value and has it held. -/
theorem mediaProducerIsHeld : Obligations.MediaProducerIsHeld := by
  intro s roles d v writable
  have watched : 0x010 + 4 * displayNumber d ∈ watchedWords := by cases d <;> decide
  have stream : streamOfWord (0x010 + 4 * displayNumber d) = some d := by cases d <;> rfl
  have handed : ∀ u : State, u.handWord (0x010 + 4 * displayNumber d) v =
      u.updateStream d fun x => { x with held := v } := fun u => by
    unfold State.handWord
    rw [if_neg (by omega), if_neg (by omega), stream]
  refine congrArg Host.Outcome.next ((writable.writeWord watched v).trans ?_)
  rw [handed, stream]
  rfl

/-! ### Who receives a grant (R16, R17) -/

theorem positions_clientsA : ∀ pos < 2, ∀ c ∈ clientsA,
    turnsFrom clientsA pos c = (clientsA.drop pos ++ clientsA.take pos).idxOf c := by decide

theorem positions_clientsB : ∀ pos < 4, ∀ c ∈ clientsB,
    turnsFrom clientsB pos c = (clientsB.drop pos ++ clientsB.take pos).idxOf c := by decide

/-- The client that a class's turn falls on waits, and none of those passed over does (R16). -/
theorem firstFrom_eq_some {clients : List Client} {pos : Nat} {waits : Client → Bool} {c : Client}
    (h : firstFrom clients pos waits = some c) :
    c ∈ clients ∧ waits c = true ∧ ∀ x, waits x = true →
      (clients.drop pos ++ clients.take pos).idxOf c ≤ (clients.drop pos ++ clients.take pos).idxOf x := by
  obtain ⟨waiting, before, after, split, passed⟩ := List.find?_eq_some_iff_append.1 h
  have mem : c ∈ clients := by
    have here : c ∈ clients.drop pos ++ clients.take pos := split ▸ by simp
    exact (List.mem_append.1 here).elim List.mem_of_mem_drop List.mem_of_mem_take
  refine ⟨mem, waiting, fun x waitingX => ?_⟩
  have passedOver : ∀ y, waits y = true → y ∉ before := fun y waitingY inBefore => by
    simpa [waitingY] using passed y inBefore
  rw [split, List.idxOf_append_of_notMem (passedOver c waiting), List.idxOf_append_of_notMem (passedOver x waitingX)]
  simp

theorem firstFrom_eq_none {clients : List Client} {pos : Nat} {waits : Client → Bool}
    (h : firstFrom clients pos waits = none) {c : Client} (mem : c ∈ clients) : waits c = false := by
  have none := List.find?_eq_none.1 h c
  rw [← List.take_append_drop pos clients] at mem
  simpa using none (List.mem_append.2 (List.mem_append.1 mem).symm)

theorem windowFull_iff (window : List ArbClass) :
    windowFull window = true ↔ window.length = 3 ∧ ∀ k ∈ window, k = .a ∨ k = .b := by
  simp [windowFull]

theorem mem_clientsA_iff (c : Client) : c ∈ clientsA ↔ c.cls = .a := by cases c <;> decide
theorem mem_clientsB_iff (c : Client) : c ∈ clientsB ↔ c.cls = .b := by cases c <;> decide
theorem cls_eq_c_iff (c : Client) : c.cls = .c ↔ c = .link := by cases c <;> decide
theorem cls_eq_d_iff (c : Client) : c.cls = .d ↔ c = .store := by cases c <;> decide

theorem ArbClass.place_c_le {k : ArbClass} (a : k ≠ .a) (b : k ≠ .b) : ArbClass.place .c ≤ k.place := by
  cases k with
  | a => exact absurd rfl a
  | b => exact absurd rfl b
  | c => exact Nat.le_refl _
  | d => exact Nat.le_succ _

theorem ArbClass.place_d_le {k : ArbClass} (a : k ≠ .a) (b : k ≠ .b) (c : k ≠ .c) : ArbClass.place .d ≤ k.place := by
  cases k with
  | a => exact absurd rfl a
  | b => exact absurd rfl b
  | c => exact absurd rfl c
  | d => exact Nat.le_refl _

/-- What the choice by priority says of the client it falls on (R16). -/
structure FirstByPriority (arb : Arbiter) (waits : Client → Bool) (c : Client) : Prop where
  waiting : waits c = true
  highest : ∀ x, waits x = true → c.cls.place ≤ x.cls.place
  turnA : c ∈ clientsA → ∀ x ∈ clientsA, waits x = true → turnsFrom clientsA arb.posA c ≤ turnsFrom clientsA arb.posA x
  turnB : c ∈ clientsB → ∀ x ∈ clientsB, waits x = true → turnsFrom clientsB arb.posB c ≤ turnsFrom clientsB arb.posB x

theorem byPriority_first {arb : Arbiter} {waits : Client → Bool} {c : Client} (posA : arb.posA < 2) (posB : arb.posB < 4)
    (h : byPriority arb waits = some c) : FirstByPriority arb waits c := by
  unfold byPriority at h
  have noA : firstFrom clientsA arb.posA waits = none → ∀ x, waits x = true → x.cls ≠ .a := fun none x waiting isA => by
    simpa [waiting] using firstFrom_eq_none none ((mem_clientsA_iff x).2 isA)
  have noB : firstFrom clientsB arb.posB waits = none → ∀ x, waits x = true → x.cls ≠ .b := fun none x waiting isB => by
    simpa [waiting] using firstFrom_eq_none none ((mem_clientsB_iff x).2 isB)
  split at h
  · next firstA =>
    obtain rfl := Option.some.inj h
    obtain ⟨mem, waiting, first⟩ := firstFrom_eq_some firstA
    have isA := (mem_clientsA_iff _).1 mem
    refine ⟨waiting, fun x _ => isA ▸ Nat.zero_le _, fun _ x inA waitingX => ?_, fun inB => ?_⟩
    · rw [positions_clientsA _ posA _ mem, positions_clientsA _ posA _ inA]
      exact first x waitingX
    · exact nomatch isA.symm.trans ((mem_clientsB_iff _).1 inB)
  · next noneA =>
    have notA := noA noneA
    split at h
    · next firstB =>
      obtain rfl := Option.some.inj h
      obtain ⟨mem, waiting, first⟩ := firstFrom_eq_some firstB
      have isB := (mem_clientsB_iff _).1 mem
      refine ⟨waiting, fun x waitingX => ?_, fun inA => ?_, fun _ x inB waitingX => ?_⟩
      · have other := notA x waitingX
        cases cls : x.cls <;> simp [isB, ArbClass.place, cls] at other ⊢
      · exact nomatch isB.symm.trans ((mem_clientsA_iff _).1 inA)
      · rw [positions_clientsB _ posB _ mem, positions_clientsB _ posB _ inB]
        exact first x waitingX
    · next noneB =>
      have notB := noB noneB
      split at h
      · next link =>
        obtain rfl := Option.some.inj h
        refine ⟨link, fun x waitingX => ?_, fun inA => (nomatch (mem_clientsA_iff _).1 inA),
          fun inB => (nomatch (mem_clientsB_iff _).1 inB)⟩
        have a := notA x waitingX
        have b := notB x waitingX
        exact ArbClass.place_c_le a b
      · next noLink =>
        split at h
        · next store =>
          obtain rfl := Option.some.inj h
          refine ⟨store, fun x waitingX => ?_, fun inA => (nomatch (mem_clientsA_iff _).1 inA),
            fun inB => (nomatch (mem_clientsB_iff _).1 inB)⟩
          have a := notA x waitingX
          have b := notB x waitingX
          have c : x.cls ≠ .c := fun isC => noLink ((cls_eq_c_iff x).1 isC ▸ waitingX)
          exact ArbClass.place_d_le a b c
        · exact nomatch h

theorem byPriority_isSome {arb : Arbiter} {waits : Client → Bool} {c : Client} (waiting : waits c = true) :
    ∃ x, byPriority arb waits = some x := by
  unfold byPriority
  split
  · exact ⟨_, rfl⟩
  · next noneA =>
    split
    · exact ⟨_, rfl⟩
    · next noneB =>
      have notA : c.cls ≠ .a := fun isA => by
        simpa [waiting] using firstFrom_eq_none noneA ((mem_clientsA_iff c).2 isA)
      have notB : c.cls ≠ .b := fun isB => by
        simpa [waiting] using firstFrom_eq_none noneB ((mem_clientsB_iff c).2 isB)
      cases cls : c.cls with
      | a => exact absurd cls notA
      | b => exact absurd cls notB
      | c => exact ⟨.link, by rw [if_pos ((cls_eq_c_iff c).1 cls ▸ waiting)]⟩
      | d =>
        have store : waits .store = true := (cls_eq_d_iff c).1 cls ▸ waiting
        rw [if_pos store]
        split <;> exact ⟨_, rfl⟩

theorem chooseClient_isSome {arb : Arbiter} {waits : Client → Bool} {c : Client} (waiting : waits c = true) :
    ∃ x, chooseClient arb waits = some x := by
  unfold chooseClient
  split
  · exact ⟨_, rfl⟩
  · split
    · exact ⟨_, rfl⟩
    · exact byPriority_isSome waiting

/-- The first guarantee goes before everything else (R17). -/
theorem chooseClient_store {arb : Arbiter} {waits : Client → Bool} (waiting : waits .store = true) (gap : arb.storeGap = 63) :
    chooseClient arb waits = some .store := if_pos ⟨waiting, gap⟩

/-- The second guarantee goes before priority (R17). -/
theorem chooseClient_link {arb : Arbiter} {waits : Client → Bool} (waiting : waits .link = true)
    (full : windowFull arb.window = true) (other : ¬ (waits .store = true ∧ arb.storeGap = 63)) :
    chooseClient arb waits = some .link := by
  rw [chooseClient, if_neg other, if_pos ⟨waiting, full⟩]

/-! ### What a grant does to the arbiter's records -/

theorem State.grantTo_arb (s : State) (c : Client) : (s.grantTo c).arb = s.arb := by
  cases c with
  | frontScan => exact State.grantScan_within _ _ .arb (by decide)
  | rearLeftScan => exact State.grantScan_within _ _ .arb (by decide)
  | rearRightScan => exact State.grantScan_within _ _ .arb (by decide)
  | camera => exact State.grantCamera_within _ .arb (by decide)
  | audio => exact State.grantAudio_within _ .arb (by decide)
  | report => exact State.grantReport_within _ .arb (by decide)
  | link => exact State.grantLink_within _ .arb (by decide)
  | store => exact State.grantStore_within _ .arb (by decide)

theorem exec_dramGrant {s : State} {c : Client} (chosen : chooseClient s.arb s.waits = some c) :
    exec .dramGrant s = .next ({ s with arb := s.arb.granted c }.grantTo c).drain := by
  simp [exec, execDramGrant, chosen]

theorem slideWindow_eq (window : List ArbClass) (k : ArbClass) (short : window.length ≤ 3) :
    slideWindow window k = (window ++ [k]).drop (window.length + 1 - min (window.length + 1) 3) := by
  unfold slideWindow
  split
  · next room =>
    rw [Nat.min_eq_left (by omega), Nat.sub_self, List.drop_zero]
  · next full =>
    have three : window.length = 3 := by omega
    rw [three, List.drop_append_of_le_length (by omega)]
    rfl

/-- The three ways of the choice (R16, R17). -/
theorem chooseClient_cases {arb : Arbiter} {waits : Client → Bool} {c : Client} (posA : arb.posA < 2) (posB : arb.posB < 4)
    (h : chooseClient arb waits = some c) :
    ((waits .store = true ∧ arb.storeGap = 63) ∧ c = .store) ∨
    (¬ (waits .store = true ∧ arb.storeGap = 63) ∧ (waits .link = true ∧ windowFull arb.window = true) ∧ c = .link) ∨
    (¬ (waits .store = true ∧ arb.storeGap = 63) ∧ ¬ (waits .link = true ∧ windowFull arb.window = true) ∧
      FirstByPriority arb waits c) := by
  unfold chooseClient at h
  split at h
  · next store => exact .inl ⟨store, (Option.some.inj h).symm⟩
  · next noStore =>
    split at h
    · next link => exact .inr (.inl ⟨noStore, link, (Option.some.inj h).symm⟩)
    · next noLink => exact .inr (.inr ⟨noStore, noLink, byPriority_first posA posB h⟩)

theorem chooseClient_waits {arb : Arbiter} {waits : Client → Bool} {c : Client} (posA : arb.posA < 2) (posB : arb.posB < 4)
    (h : chooseClient arb waits = some c) : waits c = true := by
  obtain ⟨⟨waiting, -⟩, rfl⟩ | ⟨-, ⟨waiting, -⟩, rfl⟩ | ⟨-, -, first⟩ := chooseClient_cases posA posB h
  · exact waiting
  · exact waiting
  · exact first.waiting

/-- Settles O13: the choice is by `chooseClient`, and the granted access touches nothing of the arbiter. -/
theorem grantGoesByPriorityAndGuarantees : Obligations.GrantGoesByPriorityAndGuarantees := by
  intro s posA posB short
  refine ⟨fun none => ?_, fun ⟨c, waiting⟩ => chooseClient_isSome waiting, fun c chosen => ?_⟩
  · cases chosen : chooseClient s.arb s.waits with
    | none => simp [exec, execDramGrant, chosen]
    | some c => exact absurd (none c) (by simp [chooseClient_waits posA posB chosen])
  · have full : windowFull s.arb.window = true ↔ _ := windowFull_iff s.arb.window
    refine ⟨chooseClient_waits posA posB chosen, ⟨_, exec_dramGrant chosen, ?_⟩, fun ⟨store, gap⟩ => ?_,
      fun noStore link three all => ?_, fun noStore noLink => ?_⟩
    · dsimp only
      rw [State.drain_within _ .arb (by decide), State.grantTo_arb]
      refine ⟨slideWindow_eq _ _ short, ?_, ?_, ?_⟩ <;> cases c <;> rfl
    · exact Option.some.inj (chosen.symm.trans (chooseClient_store store gap))
    · exact Option.some.inj (chosen.symm.trans (chooseClient_link link (full.2 ⟨three, all⟩) noStore))
    · obtain ⟨store, -⟩ | ⟨-, ⟨link, isFull⟩, -⟩ | ⟨-, -, first⟩ := chooseClient_cases posA posB chosen
      · exact absurd store noStore
      · exact absurd ⟨link, full.1 isFull⟩ noLink
      · exact ⟨first.highest, first.turnA, first.turnB⟩

/-! ### The shares of the link path and the store (R17) -/

theorem windowFull_of_last {window : List ArbClass} {x y z : ArbClass} (short : window.length ≤ 3)
    (abX : x = .a ∨ x = .b) (abY : y = .a ∨ y = .b) (abZ : z = .a ∨ z = .b) :
    windowFull (slideWindow (slideWindow (slideWindow window x) y) z) = true := by
  have last : slideWindow (slideWindow (slideWindow window x) y) z = [x, y, z] := by
    match window, short with
    | [], _ => rfl
    | [_], _ => rfl
    | [_, _], _ => rfl
    | [_, _, _], _ => rfl
  rw [last, windowFull_iff]
  simp [abX, abY, abZ]

/-- A run in which the store waits and receives nothing leaves no grant to go before it reaches the end of its gap (R17). -/
theorem store_mem_grantRun (waiting : List (Client → Bool)) (arb : Arbiter) (gap : arb.storeGap ≤ 63)
    (long : 64 ≤ arb.storeGap + waiting.length) (store : ∀ w ∈ waiting, w .store = true) :
    Client.store ∈ grantRun arb waiting := by
  induction waiting generalizing arb with
  | nil => simp at long; omega
  | cons w rest ih =>
    obtain ⟨c, chosen⟩ := chooseClient_isSome (arb := arb) (store w (List.mem_cons_self ..))
    simp only [grantRun, chosen]
    by_cases atEnd : arb.storeGap = 63
    · obtain rfl := Option.some.inj (chosen.symm.trans (chooseClient_store (store w (List.mem_cons_self ..)) atEnd))
      exact List.mem_cons_self ..
    · by_cases isStore : c = .store
      · rw [isStore]
        exact List.mem_cons_self ..
      · have next : (arb.granted c).storeGap = arb.storeGap + 1 := by
          cases c <;> simp [Arbiter.granted] at isStore ⊢ <;> omega
        refine List.mem_cons_of_mem _ (ih _ (by omega) (by rw [List.length_cons] at long; omega) fun w' mem => ?_)
        exact store w' (List.mem_cons_of_mem _ mem)

/-- Settles O14. -/
theorem linkAndStoreReceiveTheirShares : Obligations.LinkAndStoreReceiveTheirShares := by
  refine ⟨fun arb waiting short four link => ?_, fun arb waiting gap long store => ?_⟩
  · obtain ⟨w0, w1, w2, w3, rfl⟩ : ∃ a b c d, waiting = [a, b, c, d] := by
      match waiting, four with
      | [a, b, c, d], _ => exact ⟨a, b, c, d, rfl⟩
    have waits : ∀ w ∈ [w0, w1, w2, w3], ∀ arb, ∃ c, chooseClient arb w = some c := fun w mem arb =>
      chooseClient_isSome (link w mem)
    obtain ⟨c0, chosen0⟩ := waits w0 (by simp) arb
    obtain ⟨c1, chosen1⟩ := waits w1 (by simp) (arb.granted c0)
    obtain ⟨c2, chosen2⟩ := waits w2 (by simp) ((arb.granted c0).granted c1)
    obtain ⟨c3, chosen3⟩ := waits w3 (by simp) (((arb.granted c0).granted c1).granted c2)
    have run : grantRun arb [w0, w1, w2, w3] = [c0, c1, c2, c3] := by
      simp only [grantRun, chosen0, chosen1, chosen2, chosen3]
    rw [run]
    refine ⟨rfl, ?_⟩
    by_contra more
    have count : [c0, c1, c2, c3].length ≤ [c0, c1, c2, c3].countP fun c => c.cls == .a || c.cls == .b := Nat.lt_of_not_le more
    have all := List.countP_eq_length.1 (Nat.le_antisymm List.countP_le_length count)
    simp only [List.mem_cons, List.not_mem_nil, or_false, forall_eq_or_imp, forall_eq, Bool.or_eq_true, beq_iff_eq] at all
    obtain ⟨ab0, ab1, ab2, ab3⟩ := all
    have full := windowFull_of_last short ab0 ab1 ab2
    by_cases store : w3 .store = true ∧ (((arb.granted c0).granted c1).granted c2).storeGap = 63
    · obtain rfl := Option.some.inj (chosen3.symm.trans (chooseClient_store store.1 store.2))
      simp [Client.cls] at ab3
    · obtain rfl := Option.some.inj (chosen3.symm.trans (chooseClient_link (link w3 (by simp)) full store))
      simp [Client.cls] at ab3
  · exact store_mem_grantRun waiting arb gap (by omega) store

/-! ### Reports and faults (R26 to R30) -/

theorem ReportWriter.slotFree_iff (rw : ReportWriter) :
    rw.slotFree = true ↔ (rw.producer + 128 - rw.consumer) % 128 < 127 := by simp [ReportWriter.slotFree]

theorem State.post_lost {s : State} (up : s.link.up = true) (h : 0 < s.rw.lost ∨ (s.rw.producer + 128 - s.rw.consumer) % 128 = 127)
    (r : Report) : s.post r = { s with rw := { s.rw with lost := min (s.rw.lost + 1) 65535 } } := by
  unfold State.post
  rw [if_neg (by simp [up]), if_neg]
  rintro ⟨none, free⟩
  rw [ReportWriter.slotFree_iff] at free
  omega

theorem State.post_placed {s : State} (up : s.link.up = true) (lost : s.rw.lost = 0)
    (free : (s.rw.producer + 128 - s.rw.consumer) % 128 < 127) (r : Report) : s.post r = s.placeReport r := by
  unfold State.post
  rw [if_neg (by simp [up]), if_pos ⟨lost, (ReportWriter.slotFree_iff _).2 free⟩]

/-- Settles O17. -/
theorem reportsArePlacedAndFaultsRecorded : Obligations.ReportsArePlacedAndFaultsRecorded := by
  refine ⟨fun s r => ⟨fun down => State.post_down down r, fun up full => State.post_lost up full r,
    fun roles named up lost free => ?_⟩, fun s k detail => ?_⟩
  · rw [State.post_placed up lost free, State.placeReport_of_roles named]
  · intro f t recorded
    obtain ⟨occurred, others⟩ := s.raise_faultRaised k detail
    have faults : t.rw.faults = (s.rw.putFault k (f.occur detail)).faults := (s.raise_faults_consumer k detail).1
    have same : recorded = { s with rw := s.rw.putFault k (f.occur detail) } := by
      simp only [recorded, faults, ReportWriter.putFault]
    refine ⟨occurred.trans ?_, others, fun quiet => ?_, fun clear unmasked => ?_⟩
    · exact FaultRecord.occur_eq _ _
    · have silent : ¬ (f.flag = false ∧ f.masked = false) := fun ⟨clear, unmasked⟩ =>
        quiet.elim (fun set => by simp [set] at clear) fun masked => by simp [masked] at unmasked
      exact (if_neg silent).trans same.symm
    · have counter : (f.occur detail).counter = min (f.counter + 1) 65535 := by rw [FaultRecord.occur_eq]
      rw [same, ← counter]
      exact if_pos ⟨clear, unmasked⟩

/-! ### How a record ends (R21 to R24) -/

/-- The taker moves on: the next index is written at once, and the next record is fetched where one is pending (R22). -/
theorem State.advanceTaker_of_roles {s : State} {roles : Roles} (named : s.roles = some roles) :
    s.advanceTaker =
      let next := (s.taker.consumer + 1) % 256
      let more := decide (0 < (s.taker.producer + 256 - next) % 256)
      { s with
        taker := { consumer := next, producer := s.taker.producer, fetch := if more then .inFlight else .idle }
        rw := { s.rw with
          queue := s.rw.queue ++ [{ addr := roles.statusBlock + 0x024, bytes := bytesOf 4 next, bringUp := false }] }
        link := { s.link with
          path := s.link.path ++ if more then [.record (roles.requestRing + 32 * next) true] else [] } } := by
  unfold State.advanceTaker
  generalize (s.taker.consumer + 1) % 256 = next
  have told : State.statusNow { s with taker.consumer := next, taker.fetch := .idle } 0x024 (bytesOf 4 next) =
      { s with
        taker := { s.taker with consumer := next, fetch := .idle }
        rw := { s.rw with
          queue := s.rw.queue ++ [{ addr := roles.statusBlock + 0x024, bytes := bytesOf 4 next, bringUp := false }] } } := by
    simp [State.statusNow, named, State.present]
  dsimp only
  rw [told, State.startFetch_of_roles (roles := roles) (by exact named)]
  by_cases pending : 0 < (s.taker.producer + 256 - next) % 256
  · simp [Taker.pendingCount, pending]
  · simp [Taker.pendingCount, pending]

/-- Settles O19: each ending posts its report, and `advanceTaker` follows. -/
theorem recordEndsAndTakerMovesOn : Obligations.RecordEndsAndTakerMovesOn := by
  intro s rec roles named next more moved
  have moves : ∀ u : State, Within [.rw] s u → u.advanceTaker = moved u := fun u within => by
    rw [State.advanceTaker_of_roles ((within .roles (by decide)).trans named), within .taker (by decide)]
  have ends := fun e => moves _ (s.endRequest_within rec e)
  exact ⟨fun code => ends (.refused code), ends .done, fun ident => ends (.doneWithId ident), ends .queued⟩

/-! ### The common checks (R23) -/

theorem State.arrivedOf_eq_none {s : State} {k : Nat} (h : ∀ rec, s.taker.fetch = .arrived rec → reqKind rec ≠ k) :
    s.arrivedOf k = none := by
  unfold State.arrivedOf
  split
  · next arrived => rw [if_neg (h _ arrived)]
  · rfl
  · rfl

theorem State.arrivedOf_eq_some {s : State} {rec : List Byte} (arrived : s.taker.fetch = .arrived rec) :
    s.arrivedOf (reqKind rec) = some rec := by simp [State.arrivedOf, arrived]

/-- A request command is its owner's act on a record of its kind, but SYSTEM_RESTART, after which the taker does not move on. -/
theorem exec_request {c : Instr} {k : Nat} (request : requestKindOf c = some k) (s : State) :
    (∃ owner, exec c s = .next (s.takeKind k owner)) ∨ (c = .systemRestart ∧ k = 22) := by
  cases c <;> first | obtain rfl := Option.some.inj request | exact nomatch request
  case systemRestart => exact .inr ⟨rfl, rfl⟩
  all_goals exact .inl ⟨_, rfl⟩

/-- With no record of its kind at the taker a request command does nothing (log 1). -/
theorem exec_request_of_none {c : Instr} {k : Nat} (request : requestKindOf c = some k) {s : State}
    (none : s.arrivedOf k = none) : exec c s = .next s := by
  obtain ⟨owner, run⟩ | ⟨rfl, rfl⟩ := exec_request request s
  · rw [run, State.takeKind, none]
  · simp [exec, execSystemRestart, none]

/-- A record that fails a common check is refused, whoever its owner is (R23). -/
theorem exec_request_refused {c : Instr} {rec : List Byte} (request : requestKindOf c = some (reqKind rec)) {s : State}
    (arrived : s.taker.fetch = .arrived rec) {code : Code} (failed : s.commonCheck rec = some code) :
    exec c s = .next (s.ended rec (.refused code)) := by
  have here := State.arrivedOf_eq_some arrived
  obtain ⟨owner, run⟩ | ⟨rfl, restart⟩ := exec_request request s
  · rw [run, State.takeKind, here]
    simp only [State.takeRecord, failed, State.ended]
  · rw [restart] at here
    simp only [exec, execSystemRestart, here, State.takeSystemRestart, failed, State.ended]

theorem requestKindOf_bounds {c : Instr} {k : Nat} (request : requestKindOf c = some k) : ¬ (k = 0 ∨ 22 < k) := by
  cases c <;> first | (obtain rfl := Option.some.inj request; decide) | exact nomatch request

/-- Settles O20. -/
theorem commonChecksRefuse : Obligations.CommonChecksRefuse := by
  intro s
  refine ⟨fun rec arrived => ⟨fun unknown => ?_, fun c request => ⟨fun bad => ?_, fun reserved wanted service low => ?_⟩⟩,
    fun c k request other => exec_request_of_none request (State.arrivedOf_eq_none other)⟩
  · simp [exec, execUnknownRequestKind, arrived, unknown, State.takeRecord, State.commonCheck, State.ended]
  · exact exec_request_refused request arrived (by rw [State.commonCheck, if_neg (requestKindOf_bounds request), if_pos bad])
  · refine exec_request_refused request arrived ?_
    rw [State.commonCheck, if_neg (requestKindOf_bounds request), if_neg (by omega), if_pos]
    exact ⟨service, by simp [serviceKind]; omega⟩

/-! ### SET_LAYER, HOLD_CHANGES and RELEASE_CHANGES (R136 to R141) -/

theorem exec_setLayer {s : State} {rec : List Byte} (h : Arrives s 2 rec) :
    exec .setLayer s = .next ((ownSetLayer rec s).1.ended rec (ownSetLayer rec s).2) :=
  congrArg Host.Outcome.next (State.takeKind_of_arrives h ownSetLayer)

theorem exec_setLayer_refused {s : State} {rec : List Byte} (h : Arrives s 2 rec) (none : checkSetLayer rec = none) :
    exec .setLayer s = .next (s.ended rec (.refused .badField)) := by
  rw [exec_setLayer h, ownSetLayer, none]

theorem layerField_eq_menu {n : Nat} : layerField n = some .menu ↔ n = 1 := by
  match n with
  | 0 => decide
  | 1 => decide
  | _ + 2 => simp [layerField]

theorem formatField_eq_nv12 {n : Nat} : formatField n = some .nv12 ↔ n = 1 := by
  match n with
  | 0 => decide
  | 1 => decide
  | _ + 2 => simp [formatField]

theorem bytesPerPixel_field {n : Nat} {f : PixelFormat} (h : formatField n = some f) :
    bytesPerPixel f = if n = 0 then 4 else 1 := by
  match n with
  | 0 => obtain rfl := Option.some.inj h; rfl
  | 1 => obtain rfl := Option.some.inj h; rfl
  | _ + 2 => exact nomatch h

theorem flagField_eq_none {n : Nat} (h : 1 < n) : flagField n = none := by
  match n, h with
  | _ + 2, _ => rfl

theorem formatField_eq_none {n : Nat} (h : 1 < n) : formatField n = none := by
  match n, h with
  | _ + 2, _ => rfl

theorem cadenceField_eq_none {n : Nat} (h : 1 < n) : cadenceField n = none := by
  match n, h with
  | _ + 2, _ => rfl

theorem roundPosition_eq (v extent : Nat) : roundPosition v extent = min (2 * (v / 2)) extent := by
  rw [roundPosition, show v - v % 2 = 2 * (v / 2) by omega]

theorem roundExtent_eq (v extent : Nat) : roundExtent v extent = min (max (2 * ((v + 1) / 2)) 16) extent := by
  rw [roundExtent, show v + v % 2 = 2 * ((v + 1) / 2) by omega]

/-- The source rules of R136 that a SET_LAYER breaks. -/
def setLayerBad (rec : List Byte) : Prop :=
  fieldAt rec 18 2 < 16 ∨ 1920 < fieldAt rec 18 2 ∨ fieldAt rec 18 2 % 2 = 1 ∨ fieldAt rec 20 2 < 16 ∨
    1080 < fieldAt rec 20 2 ∨ fieldAt rec 20 2 % 2 = 1 ∨
    fieldAt rec 22 2 < fieldAt rec 18 2 * (if byteAt rec 9 = 0 then 4 else 1) ∨ 255 < fieldAt rec 16 2 ∨
    (byteAt rec 9 = 1 ∧ byteAt rec 7 = 1) ∨ reservedClear rec setLayerNamed = false

theorem checkSetLayer_eq_none {rec : List Byte}
    (h : 2 < byteAt rec 6 ∨ 1 < byteAt rec 7 ∨ 1 < byteAt rec 8 ∨ 1 < byteAt rec 9 ∨ 1 < byteAt rec 10 ∨ setLayerBad rec) :
    checkSetLayer rec = none := by
  unfold checkSetLayer
  split
  · next d l display layer clear =>
    rw [Option.map_eq_none_iff]
    unfold settingOf
    split
    · next enable format cadence isFlag isFormat isCadence =>
      have bad : setLayerBad rec := by
        obtain big | big | big | big | big | bad := h
        · simp [displayField_eq_none big] at display
        · simp [layerField_eq_none big] at layer
        · simp [flagField_eq_none big] at isFlag
        · simp [formatField_eq_none big] at isFormat
        · simp [cadenceField_eq_none big] at isCadence
        · exact bad
      rw [setLayerBad, ← bytesPerPixel_field isFormat] at bad
      refine if_pos ?_
      have menu : byteAt rec 9 = 1 ∧ byteAt rec 7 = 1 → format = .nv12 ∧ l = .menu := fun ⟨nine, seven⟩ =>
        ⟨Option.some.inj (isFormat.symm.trans (formatField_eq_nv12.2 nine)),
          Option.some.inj (layer.symm.trans (layerField_eq_menu.2 seven))⟩
      rw [ne_eq, ne_eq, Nat.mod_two_not_eq_zero, Nat.mod_two_not_eq_zero]
      obtain h | h | h | h | h | h | h | h | h | h := bad
      case inr.inr.inr.inr.inr.inr.inr.inr.inl => exact .inl (menu h)
      case inr.inr.inr.inr.inr.inr.inr.inr.inr => simp [clear] at h
      all_goals simp only [h, true_or, or_true]
    · rfl
  · rfl

theorem checkSetLayer_eq_some {rec : List Byte} {d : Display} {l : ScanLayer} {enable : Bool} {format : PixelFormat}
    {cadence : Cadence} (display : displayField (byteAt rec 6) = some d) (layer : layerField (byteAt rec 7) = some l)
    (isFlag : flagField (byteAt rec 8) = some enable) (isFormat : formatField (byteAt rec 9) = some format)
    (isCadence : cadenceField (byteAt rec 10) = some cadence) (good : ¬ setLayerBad rec) :
    checkSetLayer rec = some (d, l,
      { enable := enable, format := format, sourceWidth := fieldAt rec 18 2, sourceHeight := fieldAt rec 20 2
        stride := fieldAt rec 22 2
        x := min (2 * (fieldAt rec 24 2 / 2)) d.columns, y := min (2 * (fieldAt rec 26 2 / 2)) d.rows
        w := min (max (2 * ((fieldAt rec 28 2 + 1) / 2)) 16) d.columns
        h := min (max (2 * ((fieldAt rec 30 2 + 1) / 2)) 16) d.rows
        alpha := fieldAt rec 16 2, fill := BitVec.ofNat 32 (fieldAt rec 12 4), cadence := cadence }) := by
  rw [setLayerBad, ← bytesPerPixel_field isFormat] at good
  have clear : reservedClear rec setLayerNamed = true := by
    by_contra dirty
    exact good (by simp [dirty])
  have fits : ¬ ((format = .nv12 ∧ l = .menu) ∨ fieldAt rec 18 2 < 16 ∨ 1920 < fieldAt rec 18 2 ∨ fieldAt rec 18 2 % 2 ≠ 0 ∨
      fieldAt rec 20 2 < 16 ∨ 1080 < fieldAt rec 20 2 ∨ fieldAt rec 20 2 % 2 ≠ 0 ∨
      fieldAt rec 22 2 < fieldAt rec 18 2 * bytesPerPixel format ∨ 255 < fieldAt rec 16 2) := by
    have menu : format = .nv12 ∧ l = .menu → byteAt rec 9 = 1 ∧ byteAt rec 7 = 1 := by
      rintro ⟨rfl, rfl⟩
      exact ⟨formatField_eq_nv12.1 isFormat, layerField_eq_menu.1 layer⟩
    rw [ne_eq, ne_eq, Nat.mod_two_not_eq_zero, Nat.mod_two_not_eq_zero]
    rintro (h | h | h | h | h | h | h | h | h)
    case inl => exact good (by simp only [menu h, true_and, true_or, or_true])
    all_goals exact good (by simp only [h, true_or, or_true])
  simp only [checkSetLayer, settingOf, display, layer, clear, isFlag, isFormat, isCadence, if_neg fits, Option.map_some,
    roundPosition_eq, roundExtent_eq]

/-- Settles O22. -/
theorem layerRequestsStageAndHold : Obligations.LayerRequestsStageAndHold := by
  refine ⟨fun s rec arrives => ⟨fun bad => exec_setLayer_refused arrives (checkSetLayer_eq_none bad),
    fun d l enable format cadence display layer isFlag isFormat isCadence good => ?_⟩, fun s rec c held which => ?_⟩
  · rw [exec_setLayer arrives, ownSetLayer, checkSetLayer_eq_some display layer isFlag isFormat isCadence good]
  · have run : exec c s = .next ((ownHold held rec s).1.ended rec (ownHold held rec s).2) := by
      obtain ⟨rfl, rfl, arrives⟩ | ⟨rfl, rfl, arrives⟩ := which
      · exact congrArg Host.Outcome.next (State.takeKind_of_arrives arrives (ownHold true))
      · exact congrArg Host.Outcome.next (State.takeKind_of_arrives arrives (ownHold false))
    refine ⟨fun bad => ?_, fun d display clear => ?_⟩
    · rw [run, ownHold, checkPair_eq_none bad]
    · rw [run, ownHold, checkPair_eq_some display clear]

end Sys2Proof.Machine

end

/-! ## Proofs: what a granted access does (R5, R21, R26, R42, R44, R77, R164, R168, R169) -/
section

namespace Sys2Proof.Machine

/-! ### The grant, and the transactions held -/

theorem State.drain_of_none {s : State} (none : s.link.held = []) : s.drain = s := by
  unfold State.drain
  rw [none, State.drainHeld, ← none]

/-- No granted access touches the transactions that flow control holds. -/
theorem State.grantTo_held (s : State) (c : Client) : (s.grantTo c).link.held = s.link.held := by
  have kept : ∀ {ps t}, Within ps s t → .link ∉ ps → t.link.held = s.link.held := fun within notLink =>
    congrArg LinkPort.held (within .link notLink)
  cases c with
  | frontScan => exact kept (s.grantScan_within _) (by decide)
  | rearLeftScan => exact kept (s.grantScan_within _) (by decide)
  | rearRightScan => exact kept (s.grantScan_within _) (by decide)
  | camera => exact kept s.grantCamera_within (by decide)
  | audio => exact kept s.grantAudio_within (by decide)
  | report => exact kept s.grantReport_within (by decide)
  | store => exact kept s.grantStore_within (by decide)
  | link =>
    change s.grantLink.link.held = _
    unfold State.grantLink
    split
    · rfl
    · split <;> rfl
    · next addr lanes media rest path =>
      have applied : Within [.audio, .rw] { s with link.path := rest, dram := s.dram.writeLanes addr lanes }
          (media.foldl (fun acc m => acc.applyProducer m.1 m.2) _) :=
        Within.foldl (fun t (m : Display × BitVec 32) => t.applyProducer_within m.1 m.2) media _
      rw [applied .link (by decide)]
    · split <;> rfl

/-- With nothing held, a grant is the granted access and the arbiter's records (R16, R17). -/
theorem exec_dramGrant_noneHeld {s : State} {c : Client} (chosen : chooseClient s.arb s.waits = some c)
    (none : s.link.held = []) : exec .dramGrant s = .next (State.grantTo { s with arb := s.arb.granted c } c) := by
  rw [exec_dramGrant chosen, State.drain_of_none]
  rw [State.grantTo_held]
  exact none

/-- The arbiter's records of a grant come on top of what the granted access touches. -/
theorem Within.of_granted {ps qs : List Part} {s t : State} {v : Arbiter} (h : Within ps { s with arb := v } t)
    (arb : .arb ∈ qs) (sub : ∀ p ∈ ps, p ∈ qs) : Within qs s t :=
  ((within_arb s v).mono (by simpa using arb)).trans (h.mono sub)

/-! ### Bytes in DRAM -/

theorem Mem.stored_writeBytes {m : Mem} (h : m.wf = true) (a : Nat) (bs : List Byte) : Stored m (m.writeBytes a bs) a bs := by
  refine ⟨fun i v found => ?_, fun b apart => ?_⟩
  · obtain ⟨inside, rfl⟩ := List.getElem?_eq_some_iff.1 found
    exact Mem.read_writeBytes_inside h a bs inside
  · refine Mem.read_writeBytes_outside m a bs ?_
    by_contra inside
    exact apart (b - a) (by omega) (by omega)

/-! ### Media producer values (R168) -/

theorem presentFetches_eq (n : Nat) (d : Display) (a : Audio) : ∃ more, presentFetches n d a =
    { a with fetchQueue := a.fetchQueue ++ more } := by
  induction n generalizing a with
  | zero => exact ⟨[], by simp [presentFetches]⟩
  | succ n ih =>
    unfold presentFetches
    split
    · split
      · exact ⟨[], by simp⟩
      · next r ring =>
        obtain ⟨more, eq⟩ := ih { a with fetchQueue := a.fetchQueue ++ [a.nextFetch d r] }
        exact ⟨a.nextFetch d r :: more, by rw [eq]; simp⟩
    · exact ⟨[], by simp⟩

/-- Filling a stream's buffer adds fetches and changes nothing else (R169). -/
theorem State.refill_eq (s : State) (d : Display) : ∃ more,
    s.refill d = { s with audio := { s.audio with fetchQueue := s.audio.fetchQueue ++ more } } := by
  obtain ⟨more, eq⟩ := presentFetches_eq 64 d s.audio
  exact ⟨more, by rw [State.refill, eq]⟩

/-- A producer value is ignored: its stream runs and it lies outside the ring (R168). -/
def State.ignores (s : State) (m : Display × BitVec 32) : Bool :=
  (s.audio.streams.get m.1).running && (s.audio.streams.get m.1).ring.any fun ring => decide (ring.size ≤ m.2.toNat)

/-- A stream with a producer value that lies in its ring (R168). -/
def Stream.withProducer (x : Stream) (ring : Ring) (v : Nat) : Stream :=
  { x with producer := v, buffer := x.buffer.take ((v + ring.size - x.consumer) % ring.size) }

/-- What a producer value makes of its stream (R168). -/
def Stream.producedBy (x : Stream) (v : BitVec 32) : Stream :=
  match x.ring with
  | none => x
  | some ring => if x.running = true ∧ v.toNat < ring.size then x.withProducer ring v.toNat else x

theorem State.applyProducer_ignored {s : State} {d : Display} {v : BitVec 32} (ignored : s.ignores (d, v) = true) :
    s.applyProducer d v = s.raise .requestInvalid (0x010 + 4 * displayNumber d) := by
  unfold State.ignores at ignored
  rw [Bool.and_eq_true] at ignored
  obtain ⟨running, outside⟩ := ignored
  obtain ⟨ring, hasRing, far⟩ := (Option.any_eq_true _ _).1 outside
  simp only [State.applyProducer, running, hasRing]
  exact if_pos (of_decide_eq_true far)

/-- A value inside the ring cuts the buffer to the new span and has the buffer filled (R168, R169). -/
theorem State.applyProducer_inside {s : State} {d : Display} {v : BitVec 32} {ring : Ring}
    (running : (s.audio.streams.get d).running = true) (hasRing : (s.audio.streams.get d).ring = some ring)
    (inside : v.toNat < ring.size) :
    (s.applyProducer d v).audio.streams =
        s.audio.streams.put d ((s.audio.streams.get d).withProducer ring v.toNat) ∧
      Within [.audio] s (s.applyProducer d v) := by
  let u := s.updateStream d fun x => { x with producer := v.toNat }
  have eq : s.applyProducer d v = State.refill { u with audio := u.audio.trim d } d := by
    unfold State.applyProducer
    simp only [running, hasRing, if_neg (Nat.not_le_of_lt inside)]
    rfl
  obtain ⟨more, filled⟩ := State.refill_eq { u with audio := u.audio.trim d } d
  rw [eq, filled]
  refine ⟨?_, fun p hp => by cases p <;> first | rfl | simp at hp⟩
  simp [u, State.updateStream, Audio.trim, PerDisplay.put_put, Stream.pendingFrames, hasRing, Stream.withProducer]

/-- A value for a stream that is stopped, or has no ring, has no effect (R168). -/
theorem State.applyProducer_idle {s : State} {d : Display} {v : BitVec 32}
    (idle : (s.audio.streams.get d).running = false ∨ (s.audio.streams.get d).ring = none) : s.applyProducer d v = s := by
  unfold State.applyProducer
  obtain stopped | ringless := idle
  · simp only [stopped]
  · simp only [ringless]
    cases (s.audio.streams.get d).running <;> rfl

theorem PerDisplay.put_get {α : Type} (x : PerDisplay α) (d : Display) : x.put d (x.get d) = x := by cases d <;> rfl

/-- A value that is not ignored touches no other stream, and raises nothing. -/
theorem State.applyProducer_taken {s : State} {d : Display} {v : BitVec 32} (taken : s.ignores (d, v) = false) :
    (s.applyProducer d v).audio.streams = s.audio.streams.put d ((s.audio.streams.get d).producedBy v) ∧
      Within [.audio] s (s.applyProducer d v) := by
  by_cases idle : (s.audio.streams.get d).running = false ∨ (s.audio.streams.get d).ring = none
  · have unmoved : (s.audio.streams.get d).producedBy v = s.audio.streams.get d := by
      unfold Stream.producedBy
      obtain stopped | ringless := idle
      · simp only [stopped, Bool.false_eq_true, false_and, if_false]
        split <;> rfl
      · simp [ringless]
    rw [State.applyProducer_idle idle, unmoved, PerDisplay.put_get]
    exact ⟨rfl, .refl _ s⟩
  · rw [not_or] at idle
    obtain ⟨running, hasRing⟩ := idle
    rw [Bool.not_eq_false] at running
    obtain ⟨ring, hasRing⟩ := Option.ne_none_iff_exists'.1 hasRing
    have inside : v.toNat < ring.size := by
      by_contra far
      simp [State.ignores, running, hasRing, Nat.le_of_not_lt far] at taken
    have moved : (s.audio.streams.get d).producedBy v = (s.audio.streams.get d).withProducer ring v.toNat := by
      simp [Stream.producedBy, running, hasRing, inside]
    rw [moved]
    exact State.applyProducer_inside running hasRing inside

theorem Stream.producedBy_of_ignored {s : State} {m : Display × BitVec 32} (ignored : s.ignores m = true) :
    (s.audio.streams.get m.1).producedBy m.2 = s.audio.streams.get m.1 := by
  unfold State.ignores at ignored
  rw [Bool.and_eq_true] at ignored
  obtain ⟨ring, hasRing, far⟩ := (Option.any_eq_true _ _).1 ignored.2
  simp [Stream.producedBy, hasRing, Nat.not_lt.2 (of_decide_eq_true far)]

/-- One value acts on its own stream alone, and one that is ignored on none. -/
theorem State.applyProducer_streams (s : State) (m : Display × BitVec 32) :
    (s.applyProducer m.1 m.2).audio.streams = s.audio.streams.put m.1 ((s.audio.streams.get m.1).producedBy m.2) := by
  cases ignored : s.ignores m with
  | true =>
    rw [State.applyProducer_ignored ignored, State.raise_within _ _ _ .audio (by decide),
      Stream.producedBy_of_ignored ignored, PerDisplay.put_get]
  | false => exact (State.applyProducer_taken ignored).1

theorem State.ignores_congr {s t : State} {m : Display × BitVec 32}
    (same : t.audio.streams.get m.1 = s.audio.streams.get m.1) : t.ignores m = s.ignores m := by
  rw [State.ignores, same, State.ignores]

/-- Several values of one write: each acts on its own stream, and the ignored ones raise their faults in turn (log 35). -/
theorem State.foldl_applyProducer (media : List (Display × BitVec 32)) (distinct : (media.map Prod.fst).Nodup) {s : State}
    (bound : (s.rw.fault .requestInvalid).counter ≤ 65535) :
    let t := media.foldl (fun acc m => acc.applyProducer m.1 m.2) s
    let ignored := (media.filter s.ignores).map fun m => 0x010 + 4 * displayNumber m.1
    t.rw.fault .requestInvalid =
      { flag := (s.rw.fault .requestInvalid).flag || !ignored.isEmpty, masked := (s.rw.fault .requestInvalid).masked
        counter := min ((s.rw.fault .requestInvalid).counter + ignored.length) 65535
        detail := if (s.rw.fault .requestInvalid).flag then (s.rw.fault .requestInvalid).detail
          else ignored.headD (s.rw.fault .requestInvalid).detail } ∧
    (∀ k, k ≠ .requestInvalid → t.rw.fault k = s.rw.fault k) ∧
    (∀ m ∈ media, t.audio.streams.get m.1 = (s.audio.streams.get m.1).producedBy m.2) ∧
    (∀ d, (∀ m ∈ media, m.1 ≠ d) → t.audio.streams.get d = s.audio.streams.get d) := by
  induction media generalizing s with
  | nil => exact ⟨by simp [bound], fun _ _ => rfl, fun m mem => (nomatch mem), fun _ _ => rfl⟩
  | cons m rest ih =>
    intro t ignored
    obtain ⟨notIn, distinct⟩ := List.nodup_cons.1 distinct
    let u := s.applyProducer m.1 m.2
    have streams : u.audio.streams = _ := s.applyProducer_streams m
    have untouched : ∀ d, d ≠ m.1 → u.audio.streams.get d = s.audio.streams.get d := fun d other => by
      rw [streams, PerDisplay.get_put_other _ _ other]
    have later : ∀ x ∈ rest, x.1 ≠ m.1 := fun x mem same => notIn (same ▸ List.mem_map_of_mem mem)
    have restIgnored : rest.filter u.ignores = rest.filter s.ignores :=
      List.filter_congr fun x mem => State.ignores_congr (untouched _ (later x mem))
    have faults : ∀ k, u.rw.fault k =
        if k = .requestInvalid ∧ s.ignores m = true then (s.rw.fault k).occur (0x010 + 4 * displayNumber m.1)
        else s.rw.fault k := fun k => by
      cases isIgnored : s.ignores m with
      | true =>
        obtain ⟨own, others⟩ := s.raise_faultRaised .requestInvalid (0x010 + 4 * displayNumber m.1)
        rw [show u = _ from State.applyProducer_ignored isIgnored]
        by_cases same : k = .requestInvalid
        · simp [same, own]
        · simp [same, others k same]
      | false =>
        rw [(State.applyProducer_taken isIgnored).2 .rw (by decide)]
        simp
    have bound' : (u.rw.fault .requestInvalid).counter ≤ 65535 := by
      rw [faults, FaultRecord.occur_eq]
      split
      · exact Nat.min_le_right _ _
      · exact bound
    obtain ⟨own, others, each, rest⟩ := ih distinct bound'
    rw [restIgnored] at own
    refine ⟨own.trans ?_, fun k other => (others k other).trans ?_, fun x mem => ?_, fun d apart => ?_⟩
    · rw [faults]
      cases isIgnored : s.ignores m with
      | true => 
        simp only [ignored, isIgnored, List.filter_cons_of_pos, List.map_cons, FaultRecord.occur_eq, and_self, if_true,
          Bool.true_or, List.isEmpty_cons, Bool.not_false, Bool.or_true, List.length_cons, List.headD_cons,
          FaultRecord.mk.injEq, true_and, and_true]
        omega
      | false => simp [ignored, isIgnored]
    · rw [faults, if_neg fun h => other h.1]
    · obtain rfl | mem := List.mem_cons.1 mem
      · refine (rest _ later).trans ?_
        rw [streams, PerDisplay.get_put_same]
      · refine (each x mem).trans ?_
        rw [untouched _ (later x mem)]
    · refine (rest d fun x mem => apart x (List.mem_cons_of_mem _ mem)).trans (untouched d ?_)
      exact (apart m (List.mem_cons_self ..)).symm

/-! ### The accesses of the link path -/

theorem State.ignores_withDram (s : State) (arb : Arbiter) (path : List LinkAccess) (dram : Mem) :
    State.ignores { s with arb := arb, link := { s.link with path := path }, dram := dram } = s.ignores := rfl

theorem Stream.producedBy_eq_self {x : Stream} {v : BitVec 32}
    (h : x.running = false ∨ ∃ ring, x.ring = some ring ∧ ring.size ≤ v.toNat) : x.producedBy v = x := by
  unfold Stream.producedBy
  split
  · rfl
  · next ring hasRing =>
    refine if_neg fun ⟨running, inside⟩ => ?_
    obtain stopped | ⟨r, known, far⟩ := h
    · simp [stopped] at running
    · obtain rfl := Option.some.inj (hasRing.symm.trans known)
      omega

theorem Stream.producedBy_eq_withProducer {x : Stream} {v : BitVec 32} {ring : Ring} (running : x.running = true)
    (hasRing : x.ring = some ring) (inside : v.toNat < ring.size) : x.producedBy v = x.withProducer ring v.toNat := by
  simp [Stream.producedBy, hasRing, running, inside]

/-- A granted write is in DRAM, and its media producer values then apply in turn (R5, R168). -/
theorem State.grantLink_write {s : State} {addr : Nat} {lanes : List (Option Byte)} {media : List (Display × BitVec 32)}
    {rest : List LinkAccess} (path : s.link.path = .write addr lanes media :: rest) (arb : Arbiter) :
    State.grantTo { s with arb := arb } .link = media.foldl (fun acc m => acc.applyProducer m.1 m.2)
      { s with arb := arb, link := { s.link with path := rest }, dram := s.dram.writeLanes addr lanes } := by
  simp [State.grantTo, State.grantLink, path]

theorem State.foldl_applyProducer_within (media : List (Display × BitVec 32)) (s : State) :
    Within [.audio, .rw] s (media.foldl (fun acc m => acc.applyProducer m.1 m.2) s) :=
  Within.foldl (fun t (m : Display × BitVec 32) => t.applyProducer_within m.1 m.2) media s

theorem answerReady_extends (rs : List AwaitedRead) (sent : List Response) :
    ∃ later, (answerReady rs sent).2 = sent ++ later := by
  induction rs generalizing sent with
  | nil => exact ⟨[], by simp [answerReady]⟩
  | cons r rest ih =>
    unfold answerReady
    split
    · exact ⟨[], by simp⟩
    · next data _ =>
      obtain ⟨later, eq⟩ := ih (sent ++ [{ data := data, error := r.error }])
      exact ⟨{ data := data, error := r.error } :: later, by rw [eq]; simp⟩

/-- A granted read whose answer is awaited first is sent at once (R5). -/
theorem State.grantLink_read {s : State} {addr len : Nat} {rest : List LinkAccess} {r : AwaitedRead} {more : List AwaitedRead}
    (path : s.link.path = .read addr len true :: rest) (responses : s.link.responses = r :: more)
    (unanswered : r.answer = none) (arb : Arbiter) :
    State.grantTo { s with arb := arb } .link =
      let sent := answerReady more (s.link.answered ++ [{ data := s.dram.readBytes addr len, error := r.error }])
      { s with
        arb := arb
        link := { s.link with path := rest, responses := sent.1, answered := sent.2 } } := by
  simp [State.grantTo, State.grantLink, path, responses, answerFirst, unanswered, LinkPort.sendReady, answerReady]

/-- Settles O15. -/
theorem grantedLinkAccessActs : Obligations.GrantedLinkAccessActs := by
  intro s wf chosen none
  have run := exec_dramGrant_noneHeld chosen none
  have wrote : ∀ {addr lanes media rest}, s.link.path = .write addr lanes media :: rest → exec .dramGrant s = _ :=
    fun path => run.trans (congrArg Host.Outcome.next (State.grantLink_write path _))
  refine ⟨fun addr len rest r more path responses unanswered => ?_, fun addr len rest path => ?_,
    fun addr lanes rest path => ?_, fun addr rest path => ?_, fun addr rest path => ?_,
    fun addr lanes rest media path distinct bound => ?_, fun addr lanes rest d v path => ?_⟩
  · rw [State.grantLink_read path responses unanswered] at run
    obtain ⟨later, sent⟩ := answerReady_extends more
      (s.link.answered ++ [{ data := s.dram.readBytes addr len, error := r.error }])
    refine ⟨_, run, rfl, ⟨later, sent.trans (by simp)⟩, fun p hp => ?_⟩
    cases p <;> first | rfl | simp at hp
  · refine ⟨_, run, ?_⟩
    simp only [State.grantTo, State.grantLink, path, Bool.false_eq_true, if_false, true_and]
    intro p hp
    cases p <;> first | rfl | simp at hp
  · refine ⟨_, wrote path, rfl, fun i v enabled => ?_, fun a apart => ?_, ?_⟩
    · exact Mem.read_writeLanes_written wf addr lanes (by simp [List.getD, enabled])
    · refine Mem.read_writeLanes_kept s.dram addr lanes fun i here => ?_
      cases lane : lanes[i]? with
      | none => simp [List.getD, lane]
      | some enabled =>
        cases enabled with
        | none => simp [List.getD, lane]
        | some v => exact absurd here (apart i v lane)
    · intro p hp
      cases p <;> first | rfl | simp at hp
  · refine ⟨_, run, ?_⟩
    simp only [State.grantTo, State.grantLink, path, if_true, true_and]
    intro p hp
    cases p <;> first | rfl | simp at hp
  · refine ⟨_, run, ?_⟩
    simp only [State.grantTo, State.grantLink, path, Bool.false_eq_true, if_false, true_and]
    intro p hp
    cases p <;> first | rfl | simp at hp
  · let u : State := { s with
      arb := s.arb.granted .link, link := { s.link with path := rest }, dram := s.dram.writeLanes addr lanes }
    have within := State.foldl_applyProducer_within media u
    obtain ⟨own, others, each, untouched⟩ := State.foldl_applyProducer media distinct (s := u) bound
    refine ⟨_, wrote path, within .link (by decide), within .dram (by decide), fun d v ring mem running hasRing inside => ?_,
      fun d idle => ?_, own, others, ?_⟩
    · exact (each (d, v) mem).trans (Stream.producedBy_eq_withProducer running hasRing inside)
    · by_cases here : ∀ m ∈ media, m.1 ≠ d
      · exact untouched d here
      · simp only [not_forall, not_not] at here
        obtain ⟨⟨_, v⟩, mem, rfl⟩ := here
        refine (each _ mem).trans (Stream.producedBy_eq_self ?_)
        obtain stopped | apart | ⟨w, ring, memW, hasRing, far⟩ := idle
        · exact .inl stopped
        · exact absurd rfl (apart _ mem)
        · have same := List.inj_on_of_nodup_map distinct mem memW rfl
          obtain rfl : v = w := congrArg Prod.snd same
          exact .inr ⟨ring, hasRing, far⟩
    · refine Within.trans ?_ (within.mono (by decide))
      intro p hp
      cases p <;> first | rfl | simp at hp
  · let u : State := { s with
      arb := s.arb.granted .link, link := { s.link with path := rest }, dram := s.dram.writeLanes addr lanes }
    have within := State.foldl_applyProducer_within [(d, v)] u
    refine ⟨_, wrote path, within .link (by decide), within .dram (by decide), ?_, fun stopped => ?_, fun ring running hasRing =>
      ⟨fun far => ?_, fun inside => ?_⟩⟩
    · refine Within.trans ?_ (within.mono (by decide))
      intro p hp
      cases p <;> first | rfl | simp at hp
    · rw [List.foldl_cons, List.foldl_nil, State.applyProducer_idle (s := u) (.inl stopped)]
      exact ⟨rfl, rfl⟩
    · have ignored : u.ignores (d, v) = true := by
        unfold State.ignores
        rw [show u.audio = s.audio from rfl, running, hasRing]
        simp [far]
      rw [List.foldl_cons, List.foldl_nil, State.applyProducer_ignored ignored]
      exact ⟨State.raise_within _ _ _ .audio (by decide), State.raise_faultRaised _ _ _⟩
    · obtain ⟨streams, only⟩ := State.applyProducer_inside (s := u) running hasRing inside
      rw [List.foldl_cons, List.foldl_nil]
      refine ⟨only .rw (by decide), ?_, fun e other => ?_⟩
      · rw [streams, PerDisplay.get_put_same]
        rfl
      · rw [streams, PerDisplay.get_put_other _ _ other]

/-! ### The other accesses -/

theorem Store.takeSource_of_op {st : Store} {op : StoreOp} (running : st.op = some op) (bytes : List Byte) (now : Time) :
    st.takeSource bytes now =
      { st with
        op := some
          { op with
            source := op.source ++ bytes
            counting := if op.awaits ≤ bytes.length ∧ st.state = .programming then some now else op.counting } } := by
  have awaits : ({ op with source := op.source ++ bytes } : StoreOp).awaits = 0 ↔ op.awaits ≤ bytes.length := by
    unfold StoreOp.awaits
    dsimp only
    split
    · rw [List.length_append]
      omega
    · simp
  unfold Store.takeSource
  simp only [running, awaits]
  split <;> rfl

theorem length_readBytes (m : Mem) (a n : Nat) : (m.readBytes a n).length = n := by simp [Mem.readBytes]

/-- A granted scan-out fetch leaves the other displays as they are (R164). -/
theorem State.grantScan_of_cons {s : State} {d : Display} {f : ScanFetch} {rest : List ScanFetch}
    (queue : (s.displays.get d).scan.queue = f :: rest) :
    s.grantScan d = s.updateScan d fun sc => { sc with queue := rest }.accept f (s.dram.readBytes f.addr f.len) := by
  unfold State.grantScan
  rw [queue]

theorem Scan.accept_eq (sc : Scan) (f : ScanFetch) (bytes : List Byte) : sc.accept f bytes =
    { sc with
      data := sc.data ++
        if f.frameNo = sc.frameNo ∧ sc.nextRow ≤ f.row + 1 then
          [{ layer := f.layer, row := f.row, addr := f.addr, bytes := bytes }]
        else [] } := by
  unfold Scan.accept
  split
  · rfl
  · rw [List.append_nil]

/-- Settles O16. -/
theorem otherGrantedAccessesAct : Obligations.OtherGrantedAccessesAct := by
  intro s wf none
  refine ⟨fun chosen w rest queue => ?_, fun chosen w rest queue => ?_, fun chosen addr bytes rest transfers => ?_,
    fun chosen addr len rest op transfers running => ?_, fun chosen f rest queue => ?_, fun d chosen f rest queue => ?_⟩
  · refine ⟨_, exec_dramGrant_noneHeld chosen none, ?_⟩
    simp only [State.grantTo, State.grantReport, queue]
    refine ⟨rfl, Mem.stored_writeBytes wf _ _, fun p hp => ?_⟩
    cases p <;> first | rfl | simp at hp
  · refine ⟨_, exec_dramGrant_noneHeld chosen none, ?_⟩
    simp only [State.grantTo, State.grantCamera, queue]
    refine ⟨rfl, Mem.stored_writeBytes wf _ _, fun p hp => ?_⟩
    cases p <;> first | rfl | simp at hp
  · refine ⟨_, exec_dramGrant_noneHeld chosen none, ?_⟩
    simp only [State.grantTo, State.grantStore, transfers, true_and]
    refine ⟨Mem.stored_writeBytes wf _ _, fun p hp => ?_⟩
    cases p <;> first | rfl | simp at hp
  · refine ⟨_, exec_dramGrant_noneHeld chosen none, ?_⟩
    simp only [State.grantTo, State.grantStore, transfers]
    rw [Store.takeSource_of_op (st := { s.store with transfers := rest }) running, length_readBytes]
    refine ⟨rfl, fun p hp => ?_⟩
    cases p <;> first | rfl | simp at hp
  · refine ⟨_, exec_dramGrant_noneHeld chosen none, ?_⟩
    simp only [State.grantTo, State.grantAudio, queue]
    obtain ⟨more, filled⟩ := State.refill_eq
      (State.updateStream { s with arb := s.arb.granted .audio, audio.fetchQueue := rest } f.stream fun x =>
        { x with buffer := x.buffer ++ (framesOf (s.dram.readBytes f.addr (4 * f.count))).take f.keep }) f.stream
    rw [filled]
    refine ⟨PerDisplay.get_put_same _ _ _, fun e other => PerDisplay.get_put_other _ _ other, rfl, ⟨more, rfl⟩, fun p hp => ?_⟩
    cases p <;> first | rfl | simp at hp
  · obtain ⟨c, chosen, isScan⟩ : ∃ c, chooseClient s.arb s.waits = some c ∧ ∀ u : State, u.grantTo c = u.grantScan d :=
      ⟨_, chosen, fun u => by cases d <;> rfl⟩
    have run := exec_dramGrant_noneHeld chosen none
    rw [isScan, State.grantScan_of_cons (s := { s with arb := s.arb.granted c }) queue] at run
    refine ⟨_, run, ?_, fun e other => ?_, ?_⟩
    · refine (congrArg DisplayState.scan (PerDisplay.get_put_same _ _ _)).trans ?_
      exact Scan.accept_eq { (s.displays.get d).scan with queue := rest } f (s.dram.readBytes f.addr f.len)
    · exact PerDisplay.get_put_other _ _ other
    · intro p hp
      cases p <;> first | rfl | simp at hp

end Sys2Proof.Machine

end

/-! ## Proofs: transactions on the link (R3 to R7, R14, R15) -/
section

namespace Sys2Proof.Machine

/-! ### Reads -/

theorem outOfRange_eq_false {addr len : Nat} (h : InRange addr len) : outOfRange addr len = false := by
  obtain ⟨-, inDram, inBlock⟩ := h
  rw [outOfRange, decide_eq_false_iff_not, Config.dramSize]
  omega

theorem outOfRange_eq_true {addr len : Nat} (some : 1 ≤ len) (h : ¬ InRange addr len) : outOfRange addr len = true := by
  rw [outOfRange, decide_eq_true_eq, Config.dramSize]
  by_contra inside
  exact h ⟨some, by omega, by omega⟩

theorem exec_linkRead {s : State} (addr : BitVec 32) {len : Nat} (some : 1 ≤ len) (short : len ≤ 64) :
    exec (.linkRead addr len) s = .next (s.receive (.read addr len)) := if_pos ⟨some, short⟩

theorem exec_linkWrite {s : State} (addr : BitVec 32) {lanes : List (Option Byte)} (some : 1 ≤ lanes.length)
    (short : lanes.length ≤ 64) : exec (.linkWrite addr lanes) s = .next (s.receive (.write addr lanes)) :=
  if_pos ⟨some, short⟩

/-- An in-range read joins the response list and class C (R3). -/
theorem State.takeRead_inRange {s : State} {addr : BitVec 32} {len : Nat} (h : InRange addr.toNat len) :
    s.takeRead addr len =
      { s with
        link := { s.link with
          responses := s.link.responses ++ [{ answer := none, error := false }]
          path := s.link.path ++ [.read addr.toNat len true] } } := by
  rw [State.takeRead, if_neg (by simp [outOfRange_eq_false h])]

theorem State.mayTake_iff (s : State) : s.mayTake = true ↔
    s.link.up = true ∧ s.link.responses.length < 16 ∧ ∀ w ∈ s.rw.queue, w.bringUp = false := by
  simp [State.mayTake, and_assoc]

/-- What the link port may not take yet waits behind what waits already (R3, R62, log 7). -/
theorem State.receive_held {s : State} (up : s.link.up = true)
    (wait : 16 ≤ s.link.responses.length ∨ (∃ w ∈ s.rw.queue, w.bringUp = true) ∨ s.link.held ≠ []) (t : Transaction) :
    s.receive t = { s with link := { s.link with held := s.link.held ++ [t] } } := by
  unfold State.receive
  rw [if_neg (by simp [up]), if_pos]
  obtain full | ⟨w, waits, bringUp⟩ | held := wait
  · exact .inr (eq_false_of_ne_true fun may => by have := ((State.mayTake_iff s).1 may).2.1; omega)
  · exact .inr (eq_false_of_ne_true fun may => by simp [((State.mayTake_iff s).1 may).2.2 w waits] at bringUp)
  · exact .inl held

/-- Of the held transactions, one in-range read is taken, and the others wait behind a full list (R3). -/
theorem State.drain_read {s : State} {first : BitVec 32} {wanted : Nat} {others : List Transaction}
    (may : s.mayTake = true) (held : s.link.held = .read first wanted :: others) (inRange : InRange first.toNat wanted)
    (full : others = [] ∨ s.link.responses.length = 15) :
    s.drain =
      { s with
        link := { s.link with
          responses := s.link.responses ++ [{ answer := none, error := false }], held := others
          path := s.link.path ++ [.read first.toNat wanted true] } } := by
  unfold State.drain
  rw [held, State.drainHeld, if_pos may, State.takeTransaction, State.takeRead_inRange inRange]
  match others, full with
  | [], _ => rfl
  | t :: rest, .inr last =>
    rw [State.drainHeld, if_neg]
    rw [State.mayTake_iff]
    rintro ⟨-, room, -⟩
    simp [last] at room

theorem answerReady_unanswered {rs : List AwaitedRead} (none : ∀ x ∈ rs, x.answer = none) (sent : List Response) :
    answerReady rs sent = (rs, sent) := by
  match rs, none with
  | [], _ => rfl
  | r :: rest, unanswered => simp [answerReady, unanswered r (List.mem_cons_self ..)]

/-- Settles O8. -/
theorem linkReadsAreTakenInOrder : Obligations.LinkReadsAreTakenInOrder := by
  refine ⟨fun s addr len ready inRange => ?_, fun s up wait => ⟨fun addr len some short => ?_,
    fun addr lanes some short => ?_⟩, fun s first wanted others up held inRange => ⟨?_, ?_⟩,
    fun s addr len ready positive short far => ?_, fun s addr len bad => ?_⟩
  · obtain ⟨some, -, inBlock⟩ := id inRange
    rw [exec_linkRead addr some (by omega), ready.receive, State.takeTransaction, State.takeRead_inRange inRange]
  · rw [exec_linkRead addr some short, State.receive_held up wait]
  · rw [exec_linkWrite addr some short, State.receive_held up wait]
  · intro addr len rest r more chosen path responses unanswered later full broughtUp
    have run := exec_dramGrant chosen
    rw [State.grantLink_read path responses unanswered, answerReady_unanswered later] at run
    let u : State := { s with
      arb := s.arb.granted .link
      link := { s.link with
        path := rest, responses := more
        answered := s.link.answered ++ [{ data := s.dram.readBytes addr len, error := r.error }] } }
    have drained := State.drain_read (s := u) ((State.mayTake_iff _).2 ⟨up, Nat.lt_of_le_of_lt (Nat.le_of_eq full) (by decide),
      broughtUp⟩) held inRange (.inr full)
    refine ⟨_, run.trans (congrArg Host.Outcome.next drained), rfl, fun p hp => ?_⟩
    cases p <;> first | rfl | simp at hp
  · intro w rest chosen queue bringUp later responses none
    have run := exec_dramGrant chosen
    simp only [State.grantTo, State.grantReport, queue] at run
    let u : State := { s with
      arb := s.arb.granted .report, rw := { s.rw with queue := rest }, dram := s.dram.writeBytes w.addr w.bytes }
    have drained := State.drain_read (s := u) ((State.mayTake_iff _).2 ⟨up, by simp [u, responses], later⟩) held inRange (.inl none)
    refine ⟨_, run.trans (congrArg Host.Outcome.next drained), ?_, rfl, fun p hp => ?_⟩
    · simp [u, responses, none]
    · cases p <;> first | rfl | simp at hp
  · have run := exec_linkRead (s := s) addr positive short
    rw [ready.receive, State.takeTransaction] at run
    let u := s.raise .badAddress (addr.toNat / 64)
    have within : Within [.rw] s u := s.raise_within _ _
    have link : u.link = s.link := within .link (by decide)
    let joined : LinkPort := { s.link with
      responses := s.link.responses ++ [{ answer := some (zeroBytes len), error := true }] }
    have taken : s.takeRead addr len = { u with link := joined.sendReady } := by
      rw [State.takeRead, if_pos (outOfRange_eq_true positive far)]
      simp only [joined, ← link, u]
    rw [taken] at run
    obtain ⟨own, others⟩ := s.raise_faultRaised .badAddress (addr.toNat / 64)
    refine ⟨_, run, ⟨own, others⟩, rfl, fun none => ?_, fun r rest responses unanswered => ?_, ?_⟩
    · simp [joined, none, LinkPort.sendReady, answerReady, zeroBytes]
    · simp [joined, responses, unanswered, LinkPort.sendReady, answerReady, zeroBytes]
    · exact (within.mono (by decide)).trans ((within_link u _).mono (by decide))
  · refine if_neg ?_
    omega

/-! ### The write guard (R4, R7) -/

theorem guardDecision_drop {t : List Region} {a : Nat} {r : Region} (found : regionAt t a = some r)
    (guarded : r.kind = .locked ∨ r.kind = .status ∨ (r.kind = .frame ∧ 0 < r.hold)) : guardDecision t a = .drop r.ident := by
  simp only [guardDecision, found]
  obtain kind | kind | ⟨kind, held⟩ := guarded
  · simp only [kind]
  · simp only [kind]
  · simp only [kind, if_neg (Nat.pos_iff_ne_zero.1 held)]

theorem guardDecision_pass {t : List Region} {a : Nat}
    (open_ : ∀ r, regionAt t a = some r →
      r.kind = .control ∨ r.kind = .requestRing ∨ r.kind = .audioRing ∨ (r.kind = .frame ∧ r.hold = 0)) :
    guardDecision t a = .pass := by
  unfold guardDecision
  split
  · rfl
  · next r found =>
    obtain kind | kind | kind | ⟨kind, free⟩ := open_ r found
    · simp only [kind]
    · simp only [kind]
    · simp only [kind]
    · simp only [kind, if_pos free]

theorem State.takeWrite_outOfRange {s : State} {addr : BitVec 32} {lanes : List (Option Byte)} (some : 1 ≤ lanes.length)
    (far : ¬ InRange addr.toNat lanes.length) : s.takeWrite addr lanes = s.raise .badAddress (addr.toNat / 64) := by
  rw [State.takeWrite, if_pos (outOfRange_eq_true some far)]

theorem State.takeWrite_inRange {s : State} {addr : BitVec 32} {lanes : List (Option Byte)}
    (inRange : InRange addr.toNat lanes.length) :
    s.takeWrite addr lanes =
      match guardDecision s.regions addr.toNat with
      | .drop ident => s.raise .writeGuard ident
      | .pass => s.passWrite addr.toNat lanes := by
  exact if_neg (by simp [outOfRange_eq_false inRange])

theorem State.takeWrite_pass {s : State} {addr : BitVec 32} {lanes : List (Option Byte)}
    (inRange : InRange addr.toNat lanes.length) (pass : guardDecision s.regions addr.toNat = .pass) :
    s.takeWrite addr lanes = s.passWrite addr.toNat lanes := by
  rw [State.takeWrite_inRange inRange, pass]

theorem LinkReady.exec_linkWrite {s : State} (ready : LinkReady s) (addr : BitVec 32) {lanes : List (Option Byte)}
    (some : 1 ≤ lanes.length) (short : lanes.length ≤ 64) : exec (.linkWrite addr lanes) s = .next (s.takeWrite addr lanes) := by
  rw [Sys2Proof.Machine.exec_linkWrite addr some short, ready.receive]
  rfl

/-! ### Watched words covered whole and in part (R14, R15) -/

/-- The lane of a write that falls on the byte at `a`. -/
def laneAt (addr : Nat) (lanes : List (Option Byte)) (a : Nat) : Option Byte :=
  if addr ≤ a then lanes.getD (a - addr) none else none

theorem wordLanes_eq (addr : Nat) (lanes : List (Option Byte)) (w : Nat) : wordLanes addr lanes w =
    [laneAt addr lanes w, laneAt addr lanes (w + 1), laneAt addr lanes (w + 2), laneAt addr lanes (w + 3)] := rfl

theorem enabledBytes_eq (addr : Nat) (lanes : List (Option Byte)) (w : Nat) :
    enabledBytes addr lanes w = (wordLanes addr lanes w).countP Option.isSome := by
  have lane : ∀ a, (decide (addr ≤ a) && (lanes.getD (a - addr) none).isSome) = (laneAt addr lanes a).isSome := fun a => by
    unfold laneAt
    by_cases reached : addr ≤ a <;> simp [reached]
  unfold enabledBytes
  simp only [lane]
  rfl

theorem getD_of_laneAt {addr : Nat} {lanes : List (Option Byte)} {a : Nat} {v : Byte} (h : laneAt addr lanes a = some v) :
    (lanes.getD (a - addr) none).getD 0 = v := by
  unfold laneAt at h
  split at h
  · rw [h, Option.getD_some]
  · exact nomatch h

theorem fieldAt_four (a b c d : Byte) :
    fieldAt [a, b, c, d] 0 4 = a.toNat + 256 * b.toNat + 65536 * c.toNat + 16777216 * d.toNat := by
  simp only [fieldAt, byteAt, List.getD_cons_zero, List.getD_cons_succ]
  omega

theorem touchWord_of_none {addr w : Nat} {lanes : List (Option Byte)}
    (none : (wordLanes addr lanes w).countP Option.isSome = 0) : touchWord addr lanes w = .untouched := by
  have all := List.countP_eq_zero.1 none
  simp only [wordLanes_eq, List.mem_cons, List.not_mem_nil, or_false, forall_eq_or_imp, forall_eq, Bool.not_eq_true,
    Option.isSome_eq_false_iff, Option.isNone_iff_eq_none] at all
  obtain ⟨zero, one, two, three⟩ := all
  rw [touchWord, wordLanes_eq, zero, one, two, three]

theorem touchWord_of_part {addr w : Nat} {lanes : List (Option Byte)}
    (some : (wordLanes addr lanes w).countP Option.isSome ≠ 0) (notAll : (wordLanes addr lanes w).countP Option.isSome < 4) :
    touchWord addr lanes w = .part := by
  rw [touchWord]
  rw [wordLanes_eq] at some notAll ⊢
  revert some notAll
  cases laneAt addr lanes w <;> cases laneAt addr lanes (w + 1) <;> cases laneAt addr lanes (w + 2) <;>
    cases laneAt addr lanes (w + 3) <;> intro some notAll <;>
    first | rfl | exact absurd rfl some | exact absurd notAll (Nat.lt_irrefl 4)

theorem wordValue_of_whole {addr w : Nat} {lanes : List (Option Byte)} {a b c d : Byte}
    (all : wordLanes addr lanes w = [some a, some b, some c, some d]) :
    wordValue addr lanes w = BitVec.ofNat 32 (fieldAt [a, b, c, d] 0 4) := by
  rw [wordLanes_eq, List.cons.injEq, List.cons.injEq, List.cons.injEq, List.cons.injEq] at all
  obtain ⟨zero, one, two, three, -⟩ := all
  refine congrArg (BitVec.ofNat 32) ?_
  dsimp only
  rw [fieldAt_four, Nat.add_zero, getD_of_laneAt zero, getD_of_laneAt one, getD_of_laneAt two, getD_of_laneAt three]

/-- What a write does to a word, by the number of its bytes that the write enables (R14, R15). -/
theorem touchWord_eq (addr : Nat) (lanes : List (Option Byte)) (w : Nat) :
    touchWord addr lanes w =
      if enabledBytes addr lanes w = 0 then .untouched
      else if enabledBytes addr lanes w < 4 then .part
      else .whole (wordValue addr lanes w) := by
  rw [enabledBytes_eq]
  by_cases none : (wordLanes addr lanes w).countP Option.isSome = 0
  · rw [if_pos none, touchWord_of_none none]
  · rw [if_neg none]
    by_cases notAll : (wordLanes addr lanes w).countP Option.isSome < 4
    · rw [if_pos notAll, touchWord_of_part none notAll]
    · rw [if_neg notAll]
      have four : (wordLanes addr lanes w).countP Option.isSome = (wordLanes addr lanes w).length :=
        Nat.le_antisymm List.countP_le_length (Nat.le_of_not_lt notAll)
      have all := List.countP_eq_length.1 four
      simp only [wordLanes_eq, List.mem_cons, List.not_mem_nil, or_false, forall_eq_or_imp, forall_eq,
        Option.isSome_iff_exists] at all
      obtain ⟨⟨a, zero⟩, ⟨b, one⟩, ⟨c, two⟩, ⟨d, three⟩⟩ := all
      have whole : wordLanes addr lanes w = [some a, some b, some c, some d] := by
        rw [wordLanes_eq, zero, one, two, three]
      rw [wordValue_of_whole whole, touchWord, whole]

/-- A watched word that is covered is handed to its owner, or raises REQUEST_INVALID where it is covered in part. -/
def State.handed (page addr : Nat) (lanes : List (Option Byte)) (u : State) (w : Nat) : State :=
  if enabledBytes addr lanes (page + w) = 0 then u
  else if enabledBytes addr lanes (page + w) < 4 then u.raise .requestInvalid w
  else u.handWord w (wordValue addr lanes (page + w))

theorem State.captureWord_eq_handed (page addr : Nat) (lanes : List (Option Byte)) (u : State) (w : Nat) :
    u.captureWord page addr lanes w = u.handed page addr lanes w := by
  unfold State.captureWord State.handed
  rw [touchWord_eq]
  by_cases untouched : enabledBytes addr lanes (page + w) = 0
  · simp only [if_pos untouched]
  · by_cases part : enabledBytes addr lanes (page + w) < 4
    · simp only [if_neg untouched, if_pos part]
    · simp only [if_neg untouched, if_neg part]

/-- The media value that a write carries for a stream: its word's, where all of it is enabled (R168). -/
def mediaOf (page addr : Nat) (lanes : List (Option Byte)) (d : Display) : Option (Display × BitVec 32) :=
  if enabledBytes addr lanes (page + (0x010 + 4 * displayNumber d)) = 4 then
    some (d, wordValue addr lanes (page + (0x010 + 4 * displayNumber d)))
  else none

theorem enabledBytes_le_four (addr : Nat) (lanes : List (Option Byte)) (w : Nat) : enabledBytes addr lanes w ≤ 4 := by
  rw [enabledBytes_eq]
  exact List.countP_le_length

theorem streamOfWord_eq_some {w : Nat} {d : Display} (h : streamOfWord w = some d) : w = 0x010 + 4 * displayNumber d := by
  unfold streamOfWord at h
  repeat' split at h
  · next here => obtain rfl := Option.some.inj h; exact here
  · next here => obtain rfl := Option.some.inj h; exact here
  · next here => obtain rfl := Option.some.inj h; exact here
  · exact nomatch h

theorem mediaValues_eq (page addr : Nat) (lanes : List (Option Byte)) :
    mediaValues page addr lanes = allDisplays.filterMap (mediaOf page addr lanes) := by
  refine (List.filterMap_congr (g := fun w => (streamOfWord w).bind (mediaOf page addr lanes)) fun w _ => ?_).trans rfl
  cases stream : streamOfWord w with
  | none => rfl
  | some d =>
    obtain rfl := streamOfWord_eq_some stream
    rw [touchWord_eq, Option.bind_some, mediaOf]
    have most := enabledBytes_le_four addr lanes (page + (0x010 + 4 * displayNumber d))
    by_cases whole : enabledBytes addr lanes (page + (0x010 + 4 * displayNumber d)) = 4
    · rw [if_neg (by omega), if_neg (by omega), if_pos whole]
    · rw [if_neg whole]
      by_cases untouched : enabledBytes addr lanes (page + (0x010 + 4 * displayNumber d)) = 0
      · rw [if_pos untouched]
      · rw [if_neg untouched, if_pos (by omega)]

theorem State.foldl_raise_consumer (k : FaultKind) (details : List Nat) (s : State) :
    (details.foldl (fun u n => u.raise k n) s).rw.consumer = s.rw.consumer := by
  induction details generalizing s with
  | nil => rfl
  | cons n rest ih => exact (ih _).trans (s.raise_faults_consumer k n).2

/-- A passing write enters class C with its media values, and each watched word that it touches is dealt with in turn. -/
theorem State.passWrite_handed {s : State} {roles : Roles} (named : s.roles = some roles) (addr : Nat)
    (lanes : List (Option Byte)) : s.passWrite addr lanes =
      watchedWords.foldl (State.handed roles.controlPage addr lanes)
        (s.entered (.write addr lanes (allDisplays.filterMap (mediaOf roles.controlPage addr lanes)))) := by
  rw [State.passWrite_of_roles named, mediaValues_eq]
  exact List.foldl_ext _ _ _ fun u w _ => State.captureWord_eq_handed _ _ _ u w

/-- Words of which none is covered whole: the write carries no value, and each touched word raises REQUEST_INVALID (R15). -/
theorem State.passWrite_partial {s : State} {roles : Roles} (named : s.roles = some roles) (addr : Nat)
    (lanes : List (Option Byte)) (notWhole : ∀ w ∈ watchedWords, enabledBytes addr lanes (roles.controlPage + w) < 4) :
    s.passWrite addr lanes =
      (watchedWords.filter fun w => decide (0 < enabledBytes addr lanes (roles.controlPage + w))).foldl
        (fun u w => u.raise .requestInvalid w) (s.entered (.write addr lanes [])) := by
  have noMedia : allDisplays.filterMap (mediaOf roles.controlPage addr lanes) = [] := by
    refine List.filterMap_eq_nil_iff.2 fun d _ => if_neg ?_
    have less := notWhole (0x010 + 4 * displayNumber d) (by cases d <;> decide)
    omega
  rw [State.passWrite_handed named, noMedia, List.foldl_filter]
  refine List.foldl_ext _ _ _ fun u w mem => ?_
  unfold State.handed
  by_cases untouched : enabledBytes addr lanes (roles.controlPage + w) = 0
  · rw [if_pos untouched, if_neg (by simp [untouched])]
  · rw [if_neg untouched, if_pos (notWhole w mem), if_pos (by simpa using Nat.pos_of_ne_zero untouched)]

theorem enabledBytes_eq_zero {addr w : Nat} {lanes : List (Option Byte)} (apart : w + 4 ≤ addr ∨ addr + lanes.length ≤ w) :
    enabledBytes addr lanes w = 0 := by
  by_contra touched
  have eq := touchWord_eq addr lanes w
  rw [touchWord_apart apart, if_neg touched] at eq
  split at eq <;> exact nomatch eq

/-- Settles O9. -/
theorem writeGuardAndPartialWords : Obligations.WriteGuardAndPartialWords := by
  refine ⟨fun s addr lanes ready some short => ⟨fun far => ?_, fun inRange r found guarded => ?_,
    fun inRange opened apart => ?_⟩, fun s roles addr lanes ready named inRange control => ?_,
    fun s roles addr lanes ready named inRange control notWhole bound => ?_⟩
  · refine ⟨_, ready.exec_linkWrite addr some short, ?_⟩
    rw [State.takeWrite_outOfRange some far]
    exact ⟨s.raise_faultRaised _ _, s.raise_within _ _⟩
  · refine ⟨_, ready.exec_linkWrite addr some short, ?_⟩
    rw [State.takeWrite_inRange inRange, guardDecision_drop found guarded]
    exact ⟨s.raise_faultRaised _ _, s.raise_within _ _⟩
  · rw [ready.exec_linkWrite addr some short, State.takeWrite_pass inRange (guardDecision_pass opened)]
    cases named : s.roles with
    | none => simp only [State.passWrite, named]
    | some roles =>
      have untouched : ∀ w ∈ watchedWords, enabledBytes addr.toNat lanes (roles.controlPage + w) = 0 := fun w mem => by
        have small : w + 4 ≤ 0x1C := by revert w; decide
        have := apart roles named
        exact enabledBytes_eq_zero (by omega)
      rw [State.passWrite_partial named _ _ fun w mem => by rw [untouched w mem]; decide]
      rw [List.filter_eq_nil_iff.2 fun w mem => by simp [untouched w mem], ← named]
      rfl
  · intro covered value media handed
    have pass := guardDecision_pass fun r found => .inl (control r found)
    have short : lanes.length ≤ 64 := by have := inRange.2.2; omega
    rw [ready.exec_linkWrite addr inRange.1 short, State.takeWrite_pass inRange pass, State.passWrite_handed named]
    refine congrArg Host.Outcome.next (List.foldl_ext _ _ _ fun u w mem => ?_)
    have words : w = 0x000 ∨ w = 0x004 ∨ w = 0x010 ∨ w = 0x014 ∨ w = 0x018 := by
      simpa [watchedWords] using mem
    unfold State.handed
    obtain rfl | rfl | rfl | rfl | rfl := words <;> rfl
  · intro parts
    have pass := guardDecision_pass fun r found => .inl (control r found)
    have short : lanes.length ≤ 64 := by have := inRange.2.2; omega
    obtain ⟨own, others, within⟩ := State.foldl_raise_fault .requestInvalid parts
      (s := s.entered (.write addr.toNat lanes [])) bound
    refine ⟨_, ready.exec_linkWrite addr inRange.1 short, ?_⟩
    rw [State.takeWrite_pass inRange pass, State.passWrite_partial named _ _ notWhole]
    refine ⟨within .link (by decide), own, others, ?_, ?_⟩
    · exact State.foldl_raise_consumer _ _ _
    · exact ((within_link s _).mono (by decide)).trans (within.mono (by decide))

end Sys2Proof.Machine

end

/-! ## Proofs: the camera view on request, the region requests and the audio requests -/
section

namespace Sys2Proof.Machine

/-! ### SHOW_CAMERA and CLOSE_CAMERA (R102, R103) -/

theorem exec_showCamera {s : State} {rec : List Byte} (h : Arrives s 7 rec) :
    exec .showCamera s = .next ((ownShowCamera rec s).1.ended rec (ownShowCamera rec s).2) :=
  congrArg Host.Outcome.next (State.takeKind_of_arrives h ownShowCamera)

theorem exec_closeCamera {s : State} {rec : List Byte} (h : Arrives s 8 rec) :
    exec .closeCamera s = .next ((ownCloseCamera rec s).1.ended rec (ownCloseCamera rec s).2) :=
  congrArg Host.Outcome.next (State.takeKind_of_arrives h ownCloseCamera)

theorem ownShowCamera_landed {s t : State} {rec : List Byte} (clear : reservedClear rec [8] = true)
    (off : s.reverse.state = .off)
    (pushed : s.pushView .front (cameraViewOf (BitVec.ofNat 8 (byteAt rec 8)) false) = (t, true)) :
    ownShowCamera rec s = (t.toReverse .manual, .done) := by
  simp [ownShowCamera, clear, off, pushed]

theorem ownShowCamera_turnedAway {s t : State} {rec : List Byte} (clear : reservedClear rec [8] = true)
    (off : s.reverse.state = .off)
    (pushed : s.pushView .front (cameraViewOf (BitVec.ofNat 8 (byteAt rec 8)) false) = (t, false)) :
    ownShowCamera rec s = (t, .refused .viewOverflow) := by
  simp [ownShowCamera, clear, off, pushed]

/-- A CAMERA view with SYSTEM views alone around it is the one that goes (R100). -/
theorem dropCamera_middle {below above : List View} {cam : View} (camera : cam.owner = .camera)
    (system : AllSystem (below ++ above)) : dropCamera (below ++ cam :: above) = below ++ above := by
  have kept : ∀ st : List View, AllSystem st → st.filter (fun v => v.owner == .system) = st := fun st all =>
    List.filter_eq_self.2 fun v mem => by simp [all v mem]
  rw [dropCamera, List.filter_append, List.filter_cons_of_neg (by simp [camera]), ← List.filter_append, kept _ system]

/-- Settles O24. -/
theorem cameraViewOnRequest : Obligations.CameraViewOnRequest := by
  refine ⟨fun s rec arrives => ⟨fun dirty => ?_, fun clear busy => ?_, fun clear off system => ⟨fun room => ?_,
    fun bottom rest holds full => ⟨fun masked => ?_, fun unmasked => ?_⟩⟩⟩, fun s rec arrives => ⟨fun dirty => ?_,
    fun clear => ⟨fun pinned => ?_, fun off => ?_, fun below cam above manual holds camera system => ?_⟩⟩⟩
  · rw [exec_showCamera arrives, ownShowCamera, if_pos dirty]
  · have done : ownShowCamera rec s = (s, .done) := by
      rw [ownShowCamera, if_neg (by simp [clear])]
      cases state : s.reverse.state with
      | off => exact absurd state busy
      | engaged => rfl
      | holdOff => rfl
      | manual => rfl
    rw [exec_showCamera arrives, done]
  · rw [exec_showCamera arrives, ownShowCamera_landed clear off (State.pushView_of_room room _),
      AllSystem.placeSystem system]
    rfl
  · have pushed := State.pushView_of_full_masked (lower := []) (upper := rest) holds full masked (fun _ mem => (nomatch mem))
      (system bottom (by rw [holds]; exact List.mem_cons_self ..)) (cameraViewOf (BitVec.ofNat 8 (byteAt rec 8)) false)
    have restSystem : AllSystem ([] ++ rest) := fun v mem => system v (by rw [holds]; exact List.mem_cons_of_mem _ mem)
    rw [exec_showCamera arrives, ownShowCamera_landed clear off pushed, restSystem.placeSystem]
    rfl
  · have length : 4 ≤ (s.stack .front).length := by rw [holds, List.length_cons]; omega
    rw [exec_showCamera arrives, ownShowCamera_turnedAway clear off (State.pushView_of_full_unmasked length unmasked _)]
    rfl
  · rw [exec_closeCamera arrives, ownCloseCamera, if_pos dirty]
  · have refused : ownCloseCamera rec s = (s, .refused .viewPinned) := by
      rw [ownCloseCamera, if_neg (by simp [clear])]
      obtain engaged | holdOff := pinned
      · rw [engaged]
      · rw [holdOff]
    rw [exec_closeCamera arrives, refused]
  · have done : ownCloseCamera rec s = (s, .done) := by
      rw [ownCloseCamera, if_neg (by simp [clear]), off]
    rw [exec_closeCamera arrives, done]
  · have done : ownCloseCamera rec s = (s.cameraOff, .done) := by
      rw [ownCloseCamera, if_neg (by simp [clear]), manual]
    rw [exec_closeCamera arrives, done, State.cameraOff, holds, dropCamera_middle camera system]
    rfl

/-! ### DEFINE_REGION and DELETE_REGION (R9, R10) -/

theorem exec_defineRegion {s : State} {rec : List Byte} (h : Arrives s 9 rec) :
    exec .defineRegion s = .next ((ownDefineRegion rec s).1.ended rec (ownDefineRegion rec s).2) :=
  congrArg Host.Outcome.next (State.takeKind_of_arrives h ownDefineRegion)

theorem exec_defineRegion_refused {s : State} {rec : List Byte} {code : Code} (h : Arrives s 9 rec)
    (failed : checkDefineRegion s rec = .error code) : exec .defineRegion s = .next (s.ended rec (.refused code)) := by
  rw [exec_defineRegion h, ownDefineRegion, failed]

theorem exec_deleteRegion {s : State} {rec : List Byte} (h : Arrives s 10 rec) :
    exec .deleteRegion s = .next ((ownDeleteRegion rec s).1.ended rec (ownDeleteRegion rec s).2) :=
  congrArg Host.Outcome.next (State.takeKind_of_arrives h ownDeleteRegion)

theorem regionShapeOk_iff (base size : Nat) : regionShapeOk base size = true ↔
    base % 4096 = 0 ∧ size % 4096 = 0 ∧ 4096 ≤ size ∧ size ≤ 0x10000000 := by
  rw [regionShapeOk, decide_eq_true_eq, Config.maxRegionSize]

/-- The kinds that a DEFINE_REGION may name (R9). -/
theorem regionKindField_dynamic {n : Nat} (h : n = 4 ∨ n = 5 ∨ n = 6) : ∃ kind, regionKindField n = some kind ∧
    ¬ (kind ≠ .frame ∧ kind ≠ .audioRing ∧ kind ≠ .requestRing) := by
  obtain rfl | rfl | rfl := h
  · exact ⟨.requestRing, rfl, by decide⟩
  · exact ⟨.frame, rfl, by decide⟩
  · exact ⟨.audioRing, rfl, by decide⟩

theorem regionKindField_static {n : Nat} {kind : RegionKind} (h : ¬ (n = 4 ∨ n = 5 ∨ n = 6))
    (field : regionKindField n = some kind) : kind ≠ .frame ∧ kind ≠ .audioRing ∧ kind ≠ .requestRing := by
  match n with
  | 1 => obtain rfl := Option.some.inj field; decide
  | 2 => obtain rfl := Option.some.inj field; decide
  | 3 => obtain rfl := Option.some.inj field; decide
  | 0 => exact nomatch field
  | 4 => simp at h
  | 5 => simp at h
  | 6 => simp at h
  | _ + 7 => exact nomatch field

/-- What order 1 of DEFINE_REGION asks (R9, log 26). -/
def DefineGood (rec : List Byte) : Prop :=
  fieldAt rec 8 4 % 4096 = 0 ∧ fieldAt rec 12 4 % 4096 = 0 ∧ 4096 ≤ fieldAt rec 12 4 ∧ fieldAt rec 12 4 ≤ 0x10000000 ∧
    (byteAt rec 6 = 4 ∨ byteAt rec 6 = 5 ∨ byteAt rec 6 = 6) ∧ reservedClear rec [6, 8, 9, 10, 11, 12, 13, 14, 15] = true

theorem checkDefineRegion_bad {s : State} {rec : List Byte} (bad : ¬ DefineGood rec) :
    checkDefineRegion s rec = .error .badField := by
  unfold checkDefineRegion
  dsimp only
  split
  · rfl
  · next kind field =>
    refine if_pos ?_
    by_contra good
    simp only [not_or, Bool.not_eq_false] at good
    obtain ⟨shape, dynamic, clear⟩ := good
    obtain ⟨base, size, least, most⟩ := (regionShapeOk_iff _ _).1 shape
    refine bad ⟨base, size, least, most, ?_, clear⟩
    by_contra other
    exact dynamic (regionKindField_static other field)

theorem checkDefineRegion_good {s : State} {rec : List Byte} {kind : RegionKind} (good : DefineGood rec)
    (field : regionKindField (byteAt rec 6) = some kind) :
    checkDefineRegion s rec =
      if 0x80000000 < fieldAt rec 8 4 + fieldAt rec 12 4 then .error .badAddress
      else if s.regions.any fun r => rangesMeet (fieldAt rec 8 4) (fieldAt rec 12 4) r.base r.size then .error .regionOverlap
      else if 64 ≤ s.regions.length then .error .regionTableFull
      else .ok (fieldAt rec 8 4, fieldAt rec 12 4, kind) := by
  obtain ⟨base, size, least, most, dynamic, clear⟩ := good
  obtain ⟨_, known, allowed⟩ := regionKindField_dynamic dynamic
  obtain rfl := Option.some.inj (field.symm.trans known)
  unfold checkDefineRegion
  simp only [field]
  rw [if_neg]
  · rfl
  · rw [(regionShapeOk_iff _ _).2 ⟨base, size, least, most⟩, clear]
    simpa using allowed

theorem any_rangesMeet_iff (t : List Region) (base size : Nat) : (t.any fun r => rangesMeet base size r.base r.size) = true ↔
    ¬ ∀ r ∈ t, base + size ≤ r.base ∨ r.base + r.size ≤ base := by
  simp only [List.any_eq_true, rangesMeet, decide_eq_true_eq, not_forall, not_or, exists_prop, not_le]
  exact exists_congr fun r => and_congr_right fun _ => and_comm

theorem findRegion_isNone_iff (t : List Region) (n : Nat) : (findRegion t n).isNone = true ↔ ∀ r ∈ t, r.ident ≠ n := by
  simp [findRegion]

/-- The lowest id that no entry has, where the table has room (R9). -/
theorem lowestFreeId_eq {t : List Region} {ident : Nat} (room : t.length < 64) (free : ∀ r ∈ t, r.ident ≠ ident)
    (below : ∀ i, i < ident → ∃ r ∈ t, r.ident = i) : lowestFreeId t = ident := by
  have small : ident ≤ t.length := by
    have sub : List.range ident ⊆ t.map Region.ident := fun i mem => by
      obtain ⟨r, inTable, rfl⟩ := below i (List.mem_range.1 mem)
      exact List.mem_map_of_mem inTable
    simpa using (List.subperm_of_subset List.nodup_range sub).length_le
  have found : ((List.range 64).find? fun i => (findRegion t i).isNone) = some ident := by
    rw [List.find?_range_eq_some]
    refine ⟨(findRegion_isNone_iff t ident).2 free, List.mem_range.2 (by omega), fun j less => ?_⟩
    obtain ⟨r, inTable, same⟩ := below j less
    rw [Bool.not_eq_true', ← Bool.not_eq_true, findRegion_isNone_iff]
    exact fun none => none r inTable same
  rw [lowestFreeId, found, Option.getD_some]

theorem Region.busy_iff (r : Region) :
    r.busy = true ↔ (r.kind = .frame ∧ 0 < r.hold) ∨ (r.kind = .audioRing ∧ r.stream ≠ none) := by
  simp [Region.busy, Option.isSome_iff_ne_none]

/-- Settles O25. -/
theorem regionsAreDefinedAndDeleted : Obligations.RegionsAreDefinedAndDeleted := by
  refine ⟨fun s rec arrives => ?_, fun s rec arrives => ⟨fun dirty => ?_, fun clear => ⟨fun absent => ?_,
    fun r found => ⟨fun layout => ?_, fun dynamic busy => ?_, fun dynamic noFrame noStream => ?_⟩⟩⟩⟩
  · intro base size good clear
    have meets := any_rangesMeet_iff s.regions base size
    have checks : good → ∃ kind, regionKindField (byteAt rec 6) = some kind ∧ checkDefineRegion s rec = _ := fun isGood => by
      obtain ⟨kind, field, -⟩ := regionKindField_dynamic isGood.2.2.2.2.1
      exact ⟨kind, field, checkDefineRegion_good isGood field⟩
    refine ⟨fun bad => exec_defineRegion_refused arrives (checkDefineRegion_bad bad), fun isGood far => ?_,
      fun isGood inside meet => ?_, fun isGood inside apart full => ?_, fun kind ident isGood inside apart room field free below => ?_⟩
    · obtain ⟨kind, -, check⟩ := checks isGood
      exact exec_defineRegion_refused arrives (check.trans (if_pos far))
    · obtain ⟨kind, -, check⟩ := checks isGood
      rw [if_neg (Nat.not_lt.2 inside), if_pos (meets.2 meet)] at check
      exact exec_defineRegion_refused arrives check
    · obtain ⟨kind, -, check⟩ := checks isGood
      rw [if_neg (Nat.not_lt.2 inside), if_neg fun meet => meets.1 meet apart, if_pos full] at check
      exact exec_defineRegion_refused arrives check
    · have check := checkDefineRegion_good (s := s) isGood field
      rw [if_neg (Nat.not_lt.2 inside), if_neg fun meet => meets.1 meet apart, if_neg (Nat.not_le.2 room)] at check
      rw [exec_defineRegion arrives, ownDefineRegion, check]
      dsimp only
      rw [lowestFreeId_eq room free below]
  · rw [exec_deleteRegion arrives, ownDeleteRegion, if_pos dirty]
  · have missing : findRegion s.regions (byteAt rec 6) = none := by
      rw [← Option.isNone_iff_eq_none]
      exact (findRegion_isNone_iff _ _).2 absent
    rw [exec_deleteRegion arrives, ownDeleteRegion, if_neg (by simp [clear]), missing]
  · rw [exec_deleteRegion arrives, ownDeleteRegion, if_neg (by simp [clear]), found]
    simp only [layout, if_true]
  · rw [exec_deleteRegion arrives, ownDeleteRegion, if_neg (by simp [clear]), found]
    simp [dynamic, r.busy_iff.2 busy]
  · have free : r.busy = false := eq_false_of_ne_true fun busy => (r.busy_iff.1 busy).elim noFrame noStream
    have own : ownDeleteRegion rec s = ({ s with regions := s.regions.filter fun x => x.ident != byteAt rec 6 }, .done) := by
      rw [ownDeleteRegion, if_neg (by simp [clear]), found]
      simp [dynamic, free]
    rw [exec_deleteRegion arrives, own]
    refine congrArg (fun kept => Host.Outcome.next (({ s with regions := kept } : State).ended rec .done)) ?_
    refine List.filter_congr fun x _ => ?_
    by_cases same : x.ident = byteAt rec 6 <;> simp [same]

/-! ### AUDIO_STOP and AUDIO_GAIN (R167) -/

theorem trimInFlight_zero (d : Display) (q : List AudioFetch) :
    trimInFlight d 0 q = q.map fun f => if f.stream = d then { f with keep := 0 } else f := by
  induction q with
  | nil => rfl
  | cons f rest ih =>
    unfold trimInFlight
    by_cases same : f.stream = d
    · simp [same, ih]
    · simp [same, ih]

/-- A stream that runs is stopped: its region goes, and its buffer and its fetches are discarded (R167). -/
theorem State.stopStream_of_running {s : State} {d : Display} (running : (s.audio.streams.get d).running = true) :
    s.stopStream d =
      { s with
        regions := ((s.audio.streams.get d).ring.map fun r => detachRegion s.regions r.region).getD s.regions
        audio := { s.audio with
          streams := s.audio.streams.put d
            { s.audio.streams.get d with running := false, ring := none, buffer := [], gEff := 0, startDelay := none }
          fetchQueue := s.audio.fetchQueue.map fun f => if f.stream = d then { f with keep := 0 } else f } } := by
  unfold State.stopStream
  simp only [running, if_true, trimInFlight_zero]
  cases (s.audio.streams.get d).ring <;> rfl

theorem State.stopStream_of_stopped {s : State} {d : Display} (stopped : (s.audio.streams.get d).running = false) :
    s.stopStream d = s := by simp [State.stopStream, stopped]

theorem exec_audioStop {s : State} {rec : List Byte} (h : Arrives s 12 rec) :
    exec .audioStop s = .next ((ownAudioStop rec s).1.ended rec (ownAudioStop rec s).2) :=
  congrArg Host.Outcome.next (State.takeKind_of_arrives h ownAudioStop)

theorem exec_audioGain {s : State} {rec : List Byte} (h : Arrives s 13 rec) :
    exec .audioGain s = .next ((ownAudioGain rec s).1.ended rec (ownAudioGain rec s).2) :=
  congrArg Host.Outcome.next (State.takeKind_of_arrives h ownAudioGain)

/-- Settles O27. -/
theorem audioStopAndGainActOnRunningStream : Obligations.AudioStopAndGainActOnRunningStream := by
  refine ⟨fun s rec arrives => ⟨fun bad => ?_, fun d display clear => ?_⟩,
    fun s rec arrives => ⟨fun bad => ?_, fun d display clear => ?_⟩⟩
  · rw [exec_audioStop arrives, ownAudioStop, checkPair_eq_none bad]
  · rw [exec_audioStop arrives, ownAudioStop, checkPair_eq_some display clear]
    refine ⟨fun stopped => ?_, fun ring running hasRing => ?_⟩
    · dsimp only
      rw [State.stopStream_of_stopped stopped]
    · dsimp only
      rw [State.stopStream_of_running running, hasRing]
      rfl
  · rw [exec_audioGain arrives, ownAudioGain, checkPair_eq_none bad]
  · rw [exec_audioGain arrives, ownAudioGain, checkPair_eq_some display clear]
    refine ⟨fun stopped => ?_, fun running => ?_⟩
    · dsimp only
      rw [if_neg (by simp [stopped])]
    · dsimp only
      rw [if_pos running]

end Sys2Proof.Machine

end

/-! ## Proofs: AUDIO_START (R166, R169) -/
section

namespace Sys2Proof.Machine

/-! ### Fetches that start a stream (R169) -/

theorem inFlightFrames_eq_zero {q : List AudioFetch} {d : Display} (none : ∀ f ∈ q, f.stream = d → f.keep = 0) :
    inFlightFrames q d = 0 := by
  unfold inFlightFrames
  induction q with
  | nil => rfl
  | cons f rest ih =>
    rw [List.foldl_cons, show (if f.stream = d then 0 + f.keep else 0) = 0 from ?_]
    · exact ih fun f mem => none f (List.mem_cons_of_mem _ mem)
    · split
      · next same => rw [none f (List.mem_cons_self ..) same]
      · rfl

/-- Every fetch presented is the stream's own, and the first is the next one wanted. -/
theorem presentFetches_own (n : Nat) (d : Display) (a : Audio) : ∃ more,
    presentFetches n d a = { a with fetchQueue := a.fetchQueue ++ more } ∧ (∀ f ∈ more, f.stream = d) ∧
      ∀ ring, 0 < n → a.wantsFetch d = true → (a.streams.get d).ring = some ring → more.head? = some (a.nextFetch d ring) := by
  induction n generalizing a with
  | zero => exact ⟨[], by simp [presentFetches], fun _ mem => (nomatch mem), fun _ none => (nomatch none)⟩
  | succ n ih =>
    unfold presentFetches
    split
    · next wants =>
      split
      · next ringless => exact ⟨[], by simp, fun _ mem => (nomatch mem), fun _ _ _ ring => by simp [ringless] at ring⟩
      · next r hasRing =>
        obtain ⟨more, eq, own, -⟩ := ih { a with fetchQueue := a.fetchQueue ++ [a.nextFetch d r] }
        refine ⟨a.nextFetch d r :: more, by rw [eq]; simp, fun f mem => ?_, fun ring _ _ known => ?_⟩
        · obtain rfl | mem := List.mem_cons.1 mem
          · rfl
          · exact own f mem
        · obtain rfl := Option.some.inj (hasRing.symm.trans known)
          rfl
    · next idle => exact ⟨[], by simp, fun _ mem => (nomatch mem), fun _ _ wants => absurd wants idle⟩

/-- The first fetch of a stream that starts with nothing fetched: from its ring's base, to the end of the first block or the
last pending frame. -/
theorem nextFetch_start {a : Audio} {d : Display} {ring : Ring} (hasRing : (a.streams.get d).ring = some ring)
    (running : (a.streams.get d).running = true) (empty : (a.streams.get d).buffer = [])
    (start : (a.streams.get d).consumer = 0) (none : ∀ f ∈ a.fetchQueue, f.stream = d → f.keep = 0)
    (pending : 0 < (a.streams.get d).producer) (inside : (a.streams.get d).producer < ring.size) :
    a.wantsFetch d = true ∧ a.nextFetch d ring =
      { stream := d, addr := ring.base, count := min 16 (a.streams.get d).producer, keep := min 16 (a.streams.get d).producer } := by
  have fetched : a.fetchedFrames d = 0 := by
    rw [Audio.fetchedFrames, empty, inFlightFrames_eq_zero none]
    rfl
  have frames : (a.streams.get d).pendingFrames = (a.streams.get d).producer := by
    rw [Stream.pendingFrames, hasRing, start]
    dsimp only
    rw [Nat.sub_zero, Nat.add_mod_right, Nat.mod_eq_of_lt inside]
  refine ⟨?_, ?_⟩
  · rw [Audio.wantsFetch, running, fetched, frames]
    simpa using pending
  · unfold Audio.nextFetch
    dsimp only
    rw [fetched, frames, start, Nat.zero_mod]
    simp only [Nat.zero_mod, Nat.sub_zero, Nat.mul_zero, Nat.add_zero, Nat.min_eq_left (Nat.le_of_lt inside)]

/-! ### Starting a stream (R166) -/

/-- The stream that AUDIO_START leaves running (R166). -/
def State.started (s : State) (d : Display) (reg : Region) (gain : Nat) : Stream :=
  { s.audio.streams.get d with
    running := true, ring := some { region := reg.ident, base := reg.base, size := reg.size / 4 }, consumer := 0
    producer := if (s.audio.streams.get d).held.toNat < reg.size / 4 then (s.audio.streams.get d).held.toNat else 0
    buffer := [], setGain := gain, startDelay := some (later s.time 1000), underrun := false
    gEff := if d = .front ∧ s.audio.chimes.front.player.isPlaying = true then gain * s.audio.duck / 64 else gain }

/-- The fetches in flight of a stream that AUDIO_START stops first are discarded (R166, log 53). -/
def State.fetchesLeft (s : State) (d : Display) : List AudioFetch :=
  if (s.audio.streams.get d).running then s.audio.fetchQueue.map fun f => if f.stream = d then { f with keep := 0 } else f
  else s.audio.fetchQueue

/-- The region table of a stream that has been stopped (R12). -/
def State.regionsLeft (s : State) (d : Display) : List Region :=
  if (s.audio.streams.get d).running then
    ((s.audio.streams.get d).ring.map fun r => detachRegion s.regions r.region).getD s.regions
  else s.regions

theorem State.stopStream_left (s : State) (d : Display) :
    (s.stopStream d).regions = s.regionsLeft d ∧ (s.stopStream d).audio.fetchQueue = s.fetchesLeft d ∧
      (s.stopStream d).audio = { s.audio with
        streams := (s.stopStream d).audio.streams, fetchQueue := (s.stopStream d).audio.fetchQueue } ∧
      ∃ x, (s.stopStream d).audio.streams = s.audio.streams.put d x ∧ x.held = (s.audio.streams.get d).held := by
  unfold State.regionsLeft State.fetchesLeft
  cases running : (s.audio.streams.get d).running with
  | true =>
    rw [State.stopStream_of_running running]
    exact ⟨rfl, rfl, rfl, _, rfl, rfl⟩
  | false =>
    rw [State.stopStream_of_stopped running]
    exact ⟨rfl, rfl, rfl, _, (PerDisplay.put_get _ _).symm, rfl⟩

/-- The stream as AUDIO_START has it before its buffer is filled. -/
theorem State.startStream_filled (s : State) (d : Display) (reg : Region) (gain : Nat) : ∃ u : State,
    s.startStream d reg gain = u.refill d ∧ u.regions = attachRegion (s.regionsLeft d) reg.ident d ∧
      u.audio = { s.audio with streams := s.audio.streams.put d (s.started d reg gain), fetchQueue := s.fetchesLeft d } ∧
      ((s.audio.streams.get d).held.toNat < reg.size / 4 → u.rw = s.rw) ∧
      (reg.size / 4 ≤ (s.audio.streams.get d).held.toNat →
        FaultRaised .requestInvalid (0x010 + 4 * displayNumber d) s u) := by
  obtain ⟨regions, fetches, audio, x, streams, sameHeld⟩ := s.stopStream_left d
  have rw' : (s.stopStream d).rw = s.rw := s.stopStream_within d .rw (by decide)
  unfold State.startStream
  extract_lets s1 size held s2 s3 s4 s5
  have heldEq : held = (s.audio.streams.get d).held := by
    rw [← sameHeld, show held = (s1.audio.streams.get d).held from rfl, streams, PerDisplay.get_put_same]
  have target : s3.audio.targetGain d =
      if d = .front ∧ s.audio.chimes.front.player.isPlaying = true then gain * s.audio.duck / 64 else gain := by
    have chimes : s3.audio.chimes = s.audio.chimes := (congrArg Audio.chimes audio :)
    have duck : s3.audio.duck = s.audio.duck := (congrArg Audio.duck audio :)
    have setGain : (s3.audio.streams.get d).setGain = gain := congrArg Stream.setGain (PerDisplay.get_put_same _ _ _)
    unfold Audio.targetGain
    dsimp only
    rw [setGain, chimes, duck]
  have streams4 : s4.audio.streams = s.audio.streams.put d (s.started d reg gain) := by
    have twice : s4.audio.streams = (s1.audio.streams.put d _).put d
        { s3.audio.streams.get d with gEff := s3.audio.targetGain d } := rfl
    have third : s3.audio.streams.get d = _ := PerDisplay.get_put_same _ _ _
    rw [twice, target, third, streams, PerDisplay.put_put, PerDisplay.put_put]
    refine congrArg (s.audio.streams.put d) ?_
    simp only [State.started, heldEq, PerDisplay.get_put_same, sameHeld, size]
  have audio4 : s4.audio =
      { s.audio with streams := s.audio.streams.put d (s.started d reg gain), fetchQueue := s.fetchesLeft d } := by
    have rest : s4.audio = { s1.audio with streams := s4.audio.streams } := rfl
    rw [rest, streams4, audio, fetches]
  have regions4 : s4.regions = attachRegion (s.regionsLeft d) reg.ident d := by
    rw [← regions]
    rfl
  have within5 : Within [.rw] s4 s5 := by
    change Within [.rw] s4 (if held.toNat < size then s4 else s4.raise .requestInvalid (producerOffset d))
    split
    · exact .refl _ _
    · exact s4.raise_within _ _
  refine ⟨s5, rfl, ?_, ?_, fun inside => ?_, fun far => ?_⟩
  · rw [← regions4]
    exact within5 .regions (by decide)
  · rw [← audio4]
    exact within5 .audio (by decide)
  · exact (congrArg State.rw (if_pos (heldEq ▸ inside))).trans rw'
  · rw [show s5 = s4.raise .requestInvalid (producerOffset d) from if_neg (heldEq ▸ Nat.not_lt.2 far)]
    have raised := s4.raise_faultRaised .requestInvalid (producerOffset d)
    unfold FaultRaised at raised ⊢
    rw [show s4.rw = s.rw from rw'] at raised
    exact raised

/-! ### The request -/

theorem State.advanceTaker_faults (s : State) : s.advanceTaker.rw.faults = s.rw.faults := by
  unfold State.advanceTaker
  extract_lets next
  have told : ∀ (u : State) offset bytes, (u.statusNow offset bytes).rw.faults = u.rw.faults := fun u _ _ => by
    unfold State.statusNow
    split <;> rfl
  have fetched : ∀ u : State, u.startFetch.rw = u.rw := fun u => by
    unfold State.startFetch
    split
    · rfl
    · split <;> rfl
  rw [fetched, told]

theorem State.ended_faults (s : State) (rec : List Byte) (e : Ending) : (s.ended rec e).rw.faults = s.rw.faults := by
  rw [State.ended, State.advanceTaker_faults]
  cases e with
  | refused code => exact (s.post_faults_consumer _).1
  | done =>
    change (if reqWanted rec = 1 then s.post (.done (reqTag rec) .ok 0) else s).rw.faults = _
    split
    · exact (s.post_faults_consumer _).1
    · rfl
  | doneWithId ident => exact (s.post_faults_consumer _).1
  | queued => rfl

theorem exec_audioStart {s : State} {rec : List Byte} (h : Arrives s 11 rec) :
    exec .audioStart s = .next ((ownAudioStart rec s).1.ended rec (ownAudioStart rec s).2) :=
  congrArg Host.Outcome.next (State.takeKind_of_arrives h ownAudioStart)

theorem exec_audioStart_refused {s : State} {rec : List Byte} {code : Code} (h : Arrives s 11 rec)
    (failed : checkAudioStart s rec = .error code) : exec .audioStart s = .next (s.ended rec (.refused code)) := by
  rw [exec_audioStart h, ownAudioStart, failed]

theorem checkAudioStart_of_fields {s : State} {rec : List Byte} {d : Display}
    (display : displayField (byteAt rec 6) = some d) (clear : reservedClear rec [6, 7, 8] = true) :
    checkAudioStart s rec =
      match findRegion s.regions (byteAt rec 7) with
      | some r =>
        if r.kind ≠ .audioRing then .error .noRegion
        else if r.stream ≠ none ∧ r.stream ≠ some d then .error .regionBusy
        else .ok (d, r)
      | none => .error .noRegion := by
  simp only [checkAudioStart, display, clear] <;> rfl

theorem checkAudioStart_badField {s : State} {rec : List Byte}
    (bad : 2 < byteAt rec 6 ∨ reservedClear rec [6, 7, 8] = false) : checkAudioStart s rec = .error .badField := by
  unfold checkAudioStart
  split
  · next d display clear =>
    obtain far | dirty := bad
    · simp [displayField_eq_none far] at display
    · simp [dirty] at clear
  · rfl

/-- Settles O26. -/
theorem audioStartRunsStream : Obligations.AudioStartRunsStream := by
  intro s rec arrives
  refine ⟨fun bad => exec_audioStart_refused arrives (checkAudioStart_badField bad), fun d display clear => ⟨fun noRing => ?_,
    fun r found kind => ⟨fun e attached other => ?_, fun free => ?_⟩⟩⟩
  · refine exec_audioStart_refused arrives ?_
    rw [checkAudioStart_of_fields display clear]
    cases found : findRegion s.regions (byteAt rec 7) with
    | none => rfl
    | some r => exact if_pos (noRing r (List.mem_of_find?_eq_some found) (findRegion_ident found))
  · refine exec_audioStart_refused arrives ?_
    rw [checkAudioStart_of_fields display clear, found]
    simp [kind, attached, other]
  · have checked : checkAudioStart s rec = .ok (d, r) := by
      rw [checkAudioStart_of_fields display clear, found]
      obtain none | own := free
      · simp [kind, none]
      · simp [kind, own]
    have ident : r.ident = byteAt rec 7 := findRegion_ident found
    have run := exec_audioStart arrives
    rw [ownAudioStart, checked] at run
    obtain ⟨u, eq, regions, audio, quiet, raised⟩ := s.startStream_filled d r (min (byteAt rec 8) 127)
    obtain ⟨more, filled, own, first⟩ := presentFetches_own 64 d u.audio
    have within := s.startStream_within d r (min (byteAt rec 8) 127)
    let t := s.startStream d r (min (byteAt rec 8) 127)
    have ends : Within [.taker, .link, .rw] t (t.ended rec .done) := t.ended_within rec .done
    have endAudio : (t.ended rec .done).audio =
        { s.audio with
          streams := s.audio.streams.put d (s.started d r (min (byteAt rec 8) 127))
          fetchQueue := s.fetchesLeft d ++ more } := by
      rw [ends .audio (by decide), show t = _ from eq, State.refill, filled, audio]
    have endRegions : (t.ended rec .done).regions = attachRegion (s.regionsLeft d) r.ident d := by
      rw [ends .regions (by decide), show t = _ from eq, ← regions]
      rfl
    have endFaults : (t.ended rec .done).rw.faults = u.rw.faults := by
      rw [State.ended_faults, show t = _ from eq]
      rfl
    have new : (t.ended rec .done).audio.streams.get d = s.started d r (min (byteAt rec 8) 127) := by
      rw [endAudio]
      exact PerDisplay.get_put_same _ _ _
    have runs : (u.audio.streams.get d) = s.started d r (min (byteAt rec 8) 127) := by
      rw [audio]
      exact PerDisplay.get_put_same _ _ _
    have firstFetch : (∀ f ∈ s.fetchesLeft d, f.stream = d → f.keep = 0) → 0 < (s.audio.streams.get d).held.toNat →
        (s.audio.streams.get d).held.toNat < r.size / 4 → more.head? = some
          { stream := d, addr := r.base, count := min 16 (s.audio.streams.get d).held.toNat
            keep := min 16 (s.audio.streams.get d).held.toNat } := fun discarded some inside => by
      have producer : (u.audio.streams.get d).producer = (s.audio.streams.get d).held.toNat := by
        rw [runs]
        exact if_pos inside
      obtain ⟨wants, next⟩ := nextFetch_start (a := u.audio) (d := d)
        (ring := { region := r.ident, base := r.base, size := r.size / 4 }) (by rw [runs]; rfl) (by rw [runs]; rfl)
        (by rw [runs]; rfl) (by rw [runs]; rfl) (by rw [audio]; exact discarded) (by rw [producer]; exact some)
        (by rw [producer]; exact inside)
      rw [first _ (by decide) wants (by rw [runs]; rfl), next, producer]
    refine ⟨_, run, ?_, ?_, fun inside => ⟨?_, ?_⟩, fun far => ⟨?_, ?_⟩, fun stopped => ⟨?_, more, ?_, own, ?_⟩,
      fun ring running hasRing => ?_, fun running => ⟨more, ?_, own, ?_⟩, fun e other => ?_, ?_, ?_, ?_⟩
    · rw [new]
      simp only [State.started, ident, and_self]
    · rw [new]
      rfl
    · rw [new]
      exact if_pos inside
    · exact endFaults.trans (congrArg ReportWriter.faults (quiet inside))
    · rw [new]
      exact if_neg (Nat.not_lt.2 far)
    · obtain ⟨raisedOwn, others⟩ := raised far
      exact ⟨(ReportWriter.fault_congr endFaults _).trans raisedOwn,
        fun k other => (ReportWriter.fault_congr endFaults k).trans (others k other)⟩
    · rw [endRegions, State.regionsLeft, stopped, ident]
      rfl
    · rw [endAudio, State.fetchesLeft, stopped]
      rfl
    · refine fun none some inside => firstFetch (fun f mem same => ?_) some inside
      rw [State.fetchesLeft, stopped] at mem
      exact absurd same (none f mem)
    · rw [endRegions, State.regionsLeft, running, hasRing, ident]
      rfl
    · rw [endAudio, State.fetchesLeft, running]
      rfl
    · refine fun some inside => firstFetch (fun f mem same => ?_) some inside
      rw [State.fetchesLeft, running] at mem
      obtain ⟨f', -, rfl⟩ := List.mem_map.1 mem
      by_cases here : f'.stream = d
      · simp [here]
      · simp [here] at same
    · rw [endAudio]
      exact PerDisplay.get_put_other _ _ other
    · rw [endAudio]
    · exact State.ended_tookRecord rec .done (within .taker (by decide)) (within .link (by decide))
    · exact (within.mono (by decide)).trans (ends.mono (by decide))

end Sys2Proof.Machine

end

/-! ## Proofs: the store requests, their start and their completion (R39 to R46) -/
section

namespace Sys2Proof.Machine

/-! ### Placing a request (R40) -/

theorem exec_storeRead {s : State} {rec : List Byte} (h : Arrives s 16 rec) :
    exec .storeRead s = .next ((ownStoreRead rec s).1.ended rec (ownStoreRead rec s).2) :=
  congrArg Host.Outcome.next (State.takeKind_of_arrives h ownStoreRead)

theorem exec_storeProgram {s : State} {rec : List Byte} (h : Arrives s 17 rec) :
    exec .storeProgram s = .next ((ownStoreProgram rec s).1.ended rec (ownStoreProgram rec s).2) :=
  congrArg Host.Outcome.next (State.takeKind_of_arrives h ownStoreProgram)

theorem exec_storeErase {s : State} {rec : List Byte} (h : Arrives s 18 rec) :
    exec .storeErase s = .next ((ownStoreErase rec s).1.ended rec (ownStoreErase rec s).2) :=
  congrArg Host.Outcome.next (State.takeKind_of_arrives h ownStoreErase)

theorem exec_storeLockCalibration {s : State} {rec : List Byte} (h : Arrives s 19 rec) :
    exec .storeLockCalibration s = .next ((ownStoreLock rec s).1.ended rec (ownStoreLock rec s).2) :=
  congrArg Host.Outcome.next (State.takeKind_of_arrives h ownStoreLock)

/-- A busy store has a request wait at the tail of its queue (R40). -/
theorem State.placeStore_busy {s : State} (busy : s.store.state ≠ .idle ∨ s.store.staging ≠ none) (r : StoreRequest) :
    s.placeStore r = { s with store := { s.store with queue := s.store.queue ++ [r] } } :=
  if_neg fun ⟨idle, free⟩ => busy.elim (fun h => h idle) fun h => h free

/-- The outcomes of a store request (R40): refused by its checks, or waiting behind a busy store. -/
theorem ended_placeOrRefuse {s : State} {rec : List Byte} {check : Option Code} {w : StoreWork} {c : Instr}
    (run : exec c s = .next ((s.placeOrRefuse rec check w).1.ended rec (s.placeOrRefuse rec check w).2)) :
    (∀ code, check = some code → exec c s = .next (s.ended rec (.refused code))) ∧
    (check = none → s.store.state ≠ .idle ∨ s.store.staging ≠ none → exec c s = .next
      (({ s with store := { s.store with queue := s.store.queue ++ [{ tag := reqTag rec, work := w }] } } : State).ended rec
        .queued)) := by
  refine ⟨fun code failed => ?_, fun passed busy => ?_⟩
  · rw [run, failed]
    rfl
  · rw [run, passed]
    exact congrArg (fun u : State => Host.Outcome.next (u.ended rec .queued)) (State.placeStore_busy busy _)

/-! ### The checks (R13, R41, R43 to R45) -/

/-- The range check of R13: the range leaves DRAM or touches a guarded region. -/
def OutOfReach (t : List Region) (addr length : Nat) : Prop :=
  0x80000000 < addr + length ∨ ∃ r ∈ t, (r.kind = .locked ∨ r.kind = .status) ∧
    addr < r.base + r.size ∧ r.base < addr + length

theorem rangeBad_iff (t : List Region) (addr length : Nat) : rangeBad t addr length = true ↔ OutOfReach t addr length := by
  rw [rangeBad, Bool.or_eq_true, decide_eq_true_eq, Config.dramSize]
  simp [OutOfReach, rangesMeet]

/-- Block 0 is locked or a lock request is on its way (R41, R43). -/
def LockSet (s : State) : Prop :=
  s.store.lockCopy = true ∨ (∃ op, s.store.op = some op ∧ op.request.work = .lock) ∨ ∃ r ∈ s.store.queue, r.work = .lock

theorem Store.locked_iff (s : State) : s.store.locked = true ↔ LockSet s := by
  unfold Store.locked Store.lockComing LockSet
  cases s.store.op <;> simp

theorem Store.full_iff (st : Store) : st.full = true ↔ 4 ≤ st.queue.length := by simp [Store.full]

theorem blockOf_eq_zero_iff (offset : Nat) : blockOf offset = 0 ↔ offset < 0x10000 := by
  rw [blockOf, Config.blockSize]
  omega

/-- Settles O31. -/
theorem storeRequestIsCheckedAndQueued : Obligations.StoreRequestIsCheckedAndQueued := by
  intro s rec offset length addr named outOfReach lockSet full busy queued
  have reach : rangeBad s.regions addr length = true ↔ outOfReach := rangeBad_iff _ _ _
  have locks : s.store.locked = true ↔ lockSet := Store.locked_iff s
  have fulls : s.store.full = true ↔ full := s.store.full_iff
  refine ⟨fun arrives => ?_, fun arrives => ?_, fun arrives => ?_, fun arrives => ?_⟩
  · obtain ⟨refused, waits⟩ := ended_placeOrRefuse (exec_storeRead arrives)
    intro bad
    refine ⟨fun isBad => refused _ (if_pos isBad), fun good far => refused _ ?_, fun good near isFull => refused _ ?_,
      fun good near room => waits ?_⟩
    · exact (if_neg good).trans (if_pos (reach.2 far))
    · exact (if_neg good).trans ((if_neg (mt reach.1 near)).trans (if_pos (fulls.2 isFull)))
    · exact (if_neg good).trans ((if_neg (mt reach.1 near)).trans (if_neg (mt fulls.1 room)))
  · obtain ⟨refused, waits⟩ := ended_placeOrRefuse (exec_storeProgram arrives)
    intro bad locked
    have inZero : blockOf offset = 0 ∧ s.store.locked = true ↔ locked := and_congr (blockOf_eq_zero_iff _) locks
    refine ⟨fun isBad => refused _ (if_pos isBad), fun good far => refused _ ?_, fun good near isLocked => refused _ ?_,
      fun good near unlocked isFull => refused _ ?_, fun good near unlocked room => waits ?_⟩
    · exact (if_neg good).trans (if_pos (reach.2 far))
    · exact (if_neg good).trans ((if_neg (mt reach.1 near)).trans (if_pos (inZero.2 isLocked)))
    · exact (if_neg good).trans ((if_neg (mt reach.1 near)).trans ((if_neg (mt inZero.1 unlocked)).trans (if_pos (fulls.2 isFull))))
    · exact (if_neg good).trans ((if_neg (mt reach.1 near)).trans ((if_neg (mt inZero.1 unlocked)).trans (if_neg (mt fulls.1 room))))
  · obtain ⟨refused, waits⟩ := ended_placeOrRefuse (exec_storeErase arrives)
    intro bad locked
    have inZero : byteAt rec 6 = 0 ∧ s.store.locked = true ↔ locked := and_congr Iff.rfl locks
    refine ⟨fun isBad => refused _ (if_pos isBad), fun good isLocked => refused _ ?_,
      fun good unlocked isFull => refused _ ?_, fun good unlocked room => waits ?_⟩
    · exact (if_neg good).trans (if_pos (inZero.2 isLocked))
    · exact (if_neg good).trans ((if_neg (mt inZero.1 unlocked)).trans (if_pos (fulls.2 isFull)))
    · exact (if_neg good).trans ((if_neg (mt inZero.1 unlocked)).trans (if_neg (mt fulls.1 room)))
  · obtain ⟨refused, waits⟩ := ended_placeOrRefuse (exec_storeLockCalibration arrives)
    intro bad
    refine ⟨fun isBad => refused _ (if_pos isBad), fun good isFull => refused _ ?_, fun good room => waits ?_⟩
    · exact (if_neg good).trans (if_pos (fulls.2 isFull))
    · exact (if_neg good).trans (if_neg (mt fulls.1 room))

/-! ### Starting an operation (R39, R42 to R45) -/

theorem mem_blocksOf_iff (offset length block : Nat) :
    block ∈ blocksOf offset length ↔ blockOf offset ≤ block ∧ block ≤ blockOf (offset + length - 1) := by
  unfold blocksOf
  rw [List.mem_map]
  refine ⟨fun ⟨i, less, eq⟩ => ?_, fun ⟨low, high⟩ => ⟨block - blockOf offset, ?_, by omega⟩⟩
  · rw [List.mem_range] at less
    omega
  · rw [List.mem_range]
    omega

/-- What a program or erase of a block leaves of the staging buffer (R179). -/
def Audio.emptiedBy (a : Audio) (block : Nat) : Audio :=
  match a.buffer.content with
  | none => a
  | some k =>
    match a.clips[k]? with
    | none => a
    | some clip =>
      if blockOf clip.offset ≤ block ∧ block ≤ blockOf (clip.offset + clip.length - 1) then
        { a with buffer := { a.buffer with content := none } }
      else a

theorem State.invalidateStaged_eq (s : State) (block : Nat) :
    s.invalidateStaged block = { s with audio := s.audio.emptiedBy block } := by
  unfold State.invalidateStaged Audio.emptiedBy
  cases s.audio.buffer.content with
  | none => rfl
  | some k =>
    cases found : s.audio.clips[k]? with
    | none => simp only [found]
    | some clip =>
      simp only [found, List.contains_iff_mem, mem_blocksOf_iff]
      split <;> rfl

/-- The completion fields, written at once, and the DONE behind them (R46). -/
theorem State.completeStore_of_roles {s : State} {roles : Roles} (named : s.roles = some roles) (r : StoreRequest)
    (code : Code) :
    s.completeStore r code =
      ({ s with
        store := { s.store with lastTag := r.tag, lastKind := storeWorkKind r.work, lastCode := code, op := none }
        rw := { s.rw with
          queue := s.rw.queue ++
            [{ addr := roles.statusBlock + 0x07E
               bytes := [BitVec.ofNat 8 (storeWorkKind r.work), BitVec.ofNat 8 (codeNumber code)], bringUp := false },
             { addr := roles.statusBlock + 0x080, bytes := bytesOf 2 r.tag, bringUp := false }] } } : State).post
        (.done r.tag code 0) := by
  simp [State.completeStore, State.statusNow, named, State.present, bytesOf]

theorem State.placeStore_idle {s : State} (idle : s.store.state = .idle) (free : s.store.staging = none)
    (empty : s.store.queue = []) (r : StoreRequest) : s.placeStore r = State.startQueued [r] s := by
  rw [State.placeStore, if_pos ⟨idle, free⟩, empty]

/-- The oldest request starts, and the next where it completes at once (R39). -/
theorem State.startQueued_cons (r : StoreRequest) (rest : List StoreRequest) (s : State) :
    State.startQueued (r :: rest) s =
      if (State.startStore { s with store := { s.store with queue := rest } } r).2 then
        State.startQueued rest (State.startStore { s with store := { s.store with queue := rest } } r).1
      else (State.startStore { s with store := { s.store with queue := rest } } r).1 := by
  conv_lhs => unfold State.startQueued
  cases started : State.startStore { s with store := { s.store with queue := rest } } r with
  | mk t ended => cases ended <;> simp

/-- With nothing left the store is IDLE (R39). -/
theorem State.startQueued_nil (s : State) :
    State.startQueued [] s = { s with store := { s.store with queue := [], state := .idle } } := rfl

theorem State.startQueued_nil_idle {s : State} (empty : s.store.queue = []) (idle : s.store.state = .idle) :
    State.startQueued [] s = s := by
  have same : ({ s.store with queue := [], state := .idle } : Store) = s.store := by rw [← empty, ← idle]
  exact congrArg (fun st => ({ s with store := st } : State)) same

theorem State.withQueue_self {s : State} {q : List StoreRequest} (h : s.store.queue = q) :
    ({ s with store := { s.store with queue := q } } : State) = s := by rw [← h]

/-- Settles O32. -/
theorem storeRequestStartsInIdleStore : Obligations.StoreRequestStartsInIdleStore := by
  intro s rec idle free empty noOp offset length addr begun emptied
  have placed : ∀ {c check w t}, exec c s = .next ((s.placeOrRefuse rec check w).1.ended rec (s.placeOrRefuse rec check w).2) →
      check = none → s.startStore { tag := reqTag rec, work := w } = (t, false) →
      exec c s = .next (t.ended rec .queued) := fun {c check w t} run passed starts => by
    rw [run, passed]
    change Host.Outcome.next ((s.placeStore _).ended rec .queued) = _
    rw [State.placeStore_idle idle free empty, State.startQueued_cons, State.withQueue_self empty, starts]
    rfl
  refine ⟨fun arrives passed => placed (exec_storeRead arrives) passed rfl, fun arrives passed => ?_, fun arrives passed => ?_,
    fun arrives clear => ⟨fun unlocked => ?_, fun roles locked named => ?_⟩⟩
  · refine placed (exec_storeProgram arrives) passed ?_
    simp only [State.startStore, State.invalidateStaged_eq]
    rfl
  · refine placed (exec_storeErase arrives) passed ?_
    simp only [State.startStore, State.invalidateStaged_eq]
    rfl
  · refine placed (exec_storeLockCalibration arrives) ?_ ?_
    · rw [checkLock, if_neg (by simp [clear]), if_neg (by simp [Store.full_iff, empty])]
    · simp only [State.startStore, unlocked, Bool.false_eq_true, if_false]
      rfl
  · have passed : checkLock s rec = none := by
      rw [checkLock, if_neg (by simp [clear]), if_neg (by simp [Store.full_iff, empty])]
    rw [exec_storeLockCalibration arrives, ownStoreLock, passed]
    change Host.Outcome.next ((s.placeStore { tag := reqTag rec, work := .lock }).ended rec .queued) = _
    rw [State.placeStore_idle idle free empty, State.startQueued_cons, State.withQueue_self empty]
    have starts : s.startStore { tag := reqTag rec, work := .lock } =
        (s.completeStore { tag := reqTag rec, work := .lock } .ok, true) := if_pos locked
    rw [starts, State.completeStore_of_roles named]
    let u : State := { s with
      store := { s.store with lastTag := reqTag rec, lastKind := 19, lastCode := .ok }
      rw := { s.rw with
        queue := s.rw.queue ++
          [{ addr := roles.statusBlock + 0x07E, bytes := [19, 0], bringUp := false },
           { addr := roles.statusBlock + 0x080, bytes := bytesOf 2 (reqTag rec), bringUp := false }] } }
    have store : (u.post (.done (reqTag rec) .ok 0)).store = u.store := State.post_within _ _ .store (by decide)
    have settled : State.startQueued [] (u.post (.done (reqTag rec) .ok 0)) = u.post (.done (reqTag rec) .ok 0) :=
      State.startQueued_nil_idle (by rw [store]; exact empty) (by rw [store]; exact idle)
    refine Eq.trans ?_ (congrArg (fun t : State => Host.Outcome.next (t.ended rec .queued)) settled)
    simp only [u, ← noOp]
    rfl

/-- What has begun with an operation (R39). -/
structure Began (s t : State) (r : StoreRequest) : Prop where
  op : ∃ op, t.store.op = some op ∧ op.request = r ∧ op.source = [] ∧ op.ran = 0 ∧ op.lastResume = none
  state : t.store.state = (match r.work with
    | .read _ _ _ => .reading
    | .program _ _ _ => .programming
    | .erase _ => .erasing
    | .lock => .programming)
  kept : t.store.queue = s.store.queue ∧ t.store.cells = s.store.cells ∧ t.store.lockMark = s.store.lockMark ∧
    t.store.staging = s.store.staging
  audio : t.audio = match r.work with
    | .read _ _ _ => s.audio
    | .program offset _ _ => s.audio.emptiedBy (blockOf offset)
    | .erase block => s.audio.emptiedBy block
    | .lock => s.audio
  within : Within [.store, .audio] s t

/-- Every request but a lock request with the lock set starts an operation (R39, R45). -/
theorem State.startStore_began {s : State} {r : StoreRequest} (startable : r.work ≠ .lock ∨ s.store.lockCopy = false) :
    ∃ t, s.startStore r = (t, false) ∧ Began s t r := by
  unfold State.startStore
  cases work : r.work with
  | read offset length dest =>
    exact ⟨_, rfl, ⟨_, rfl, rfl, rfl, rfl, rfl⟩, by rw [work], ⟨rfl, rfl, rfl, rfl⟩, by rw [work], fun p hp => by
      cases p <;> first | rfl | simp at hp⟩
  | program offset length source =>
    simp only [State.invalidateStaged_eq]
    exact ⟨_, rfl, ⟨_, rfl, rfl, rfl, rfl, rfl⟩, by rw [work]; rfl, ⟨rfl, rfl, rfl, rfl⟩, by rw [work], fun p hp => by
      cases p <;> first | rfl | simp at hp⟩
  | erase block =>
    simp only [State.invalidateStaged_eq]
    exact ⟨_, rfl, ⟨_, rfl, rfl, rfl, rfl, rfl⟩, by rw [work]; rfl, ⟨rfl, rfl, rfl, rfl⟩, by rw [work], fun p hp => by
      cases p <;> first | rfl | simp at hp⟩
  | lock =>
    rw [if_neg (by simp [startable.resolve_left (not_not.2 work)])]
    exact ⟨_, rfl, ⟨_, rfl, rfl, rfl, rfl, rfl⟩, by rw [work], ⟨rfl, rfl, rfl, rfl⟩, by rw [work], fun p hp => by
      cases p <;> first | rfl | simp at hp⟩

/-! ### Completion and what follows it (R39, R46, R48) -/

/-- Settles O34. -/
theorem storeCompletionIsRecordedAndFollowed : Obligations.StoreCompletionIsRecordedAndFollowed := by
  intro s r code roles named told
  have ends : s.finishStore r code = told.continueStore := by
    rw [State.finishStore, State.completeStore_of_roles named]
  have kept : Within [.rw] _ told := State.post_within _ _
  have store : told.store =
      { s.store with lastTag := r.tag, lastKind := storeWorkKind r.work, lastCode := code, op := none } :=
    kept .store (by decide)
  have staging : told.store.staging = s.store.staging := by rw [store]
  have queue' : told.store.queue = s.store.queue := by rw [store]
  refine ⟨fun g waits => ?_, fun none empty => ?_, fun next rest none queue notDone => ?_⟩
  · have time : told.time = s.time := kept .time (by decide)
    rw [ends, State.continueStore, staging, waits, time]
  · rw [ends, State.continueStore, staging, none]
    dsimp only
    rw [queue', empty, State.startQueued_nil, ← empty, ← queue']
  · intro t
    have follows : t = State.startQueued (next :: rest) told := by
      change s.finishStore r code = _
      rw [ends, State.continueStore, staging, none]
      dsimp only
      rw [queue', queue]
    obtain ⟨u, starts, began⟩ := State.startStore_began (s := { told with store := { told.store with queue := rest } })
      (r := next) (notDone.imp_right fun unlocked => by rw [store]; exact unlocked)
    obtain ⟨sameQueue, cells, lockMark, -⟩ := began.kept
    have isU : t = u := by
      rw [follows, State.startQueued_cons, starts]
      rfl
    rw [isU]
    refine ⟨sameQueue, began.op, began.state, began.within .rw (by decide), ?_, ?_⟩
    · rw [cells, store]
    · rw [lockMark, store]

end Sys2Proof.Machine

end

/-! ## Proofs: how programs, erases, lock writes, reads and stagings end (R42 to R49, R179) -/
section

namespace Sys2Proof.Machine

/-! ### Bytes of the store -/

theorem Store.byte_setBytes_inside {st : Store} (h : st.canonical = true) (offset : Nat) (bs : List Byte) {i : Nat} {v : Byte}
    (found : bs[i]? = some v) : (st.setBytes offset bs).byte (offset + i) = v := by
  induction bs generalizing st offset i with
  | nil => exact nomatch found
  | cons w rest ih =>
    let st1 : Store := { st with cells := cellWrite (storeUnlisted st.background) st.cells offset w }
    have canonical : st1.canonical = true := cellsFrom_cellWrite _ offset w st.cells 0 h (Nat.zero_le _)
    change (st1.setBytes (offset + 1) rest).byte (offset + i) = v
    cases i with
    | zero =>
      obtain rfl := Option.some.inj found
      rw [Store.byte_setBytes_outside _ _ _ (by omega)]
      exact cellRead_cellWrite_same _ offset _ st.cells 0 h
    | succ i =>
      rw [show offset + (i + 1) = offset + 1 + i by omega]
      exact ih canonical (offset + 1) found

theorem getElem?_bytes (st : Store) (offset n : Nat) {i : Nat} (h : i < n) :
    (st.bytes offset n)[i]? = some (st.byte (offset + i)) := by
  simp [Store.bytes, h]

theorem getElem?_programResult {st : Store} {offset : Nat} {source : List Byte} {i : Nat} {v : Byte}
    (found : source[i]? = some v) :
    (st.programResult offset source).1[i]? = some (st.byte (offset + i) &&& v) := by
  obtain ⟨inside, -⟩ := List.getElem?_eq_some_iff.1 found
  simp only [Store.programResult, List.getElem?_zipWith, getElem?_bytes st offset _ inside, found]

theorem length_programResult (st : Store) (offset : Nat) (source : List Byte) :
    (st.programResult offset source).1.length = source.length := by
  simp [Store.programResult, Store.bytes]

/-- A program verifies exactly where every byte comes out as its source byte (R42). -/
theorem programResult_ok_iff (st : Store) (offset : Nat) (source : List Byte) :
    (st.programResult offset source).2 = true ↔ ∀ i v, source[i]? = some v → st.byte (offset + i) &&& v = v := by
  change ((st.programResult offset source).1 == source) = true ↔ _
  rw [beq_iff_eq]
  refine ⟨fun same i v found => ?_, fun each => List.ext_getElem? fun i => ?_⟩
  · have result := getElem?_programResult (st := st) (offset := offset) found
    rw [same, found] at result
    exact (Option.some.inj result).symm
  · cases found : source[i]? with
    | none =>
      rw [List.getElem?_eq_none_iff] at found ⊢
      rwa [length_programResult]
    | some v => rw [getElem?_programResult found, each i v found]

theorem blockOf_eq (offset : Nat) : blockOf offset = offset / 65536 := rfl

theorem StoreOp.runningTime_counting {op : StoreOp} {since : Time} (counting : op.counting = some since) (now : Time) :
    op.runningTime now = op.ran + elapsed now since := by
  rw [StoreOp.runningTime, counting]

/-- Settles O35. -/
theorem programAndsSourceIntoPage : Obligations.ProgramAndsSourceIntoPage := by
  intro s op offset length addr since canonical programming running work arrived counting
  have time := StoreOp.runningTime_counting counting s.time
  have awaits : op.awaits = 0 := by rw [StoreOp.awaits, work]; exact Nat.sub_eq_zero_of_le (Nat.le_of_eq arrived.symm)
  have run : exec .storeProgramComplete s =
      if 600 ≤ op.ran + elapsed s.time since then .next (s.endProgram op offset) else .next s := by
    simp [exec, execStoreProgramComplete, running, work, programming, awaits, time]
  refine ⟨fun early => by rw [run, if_neg (Nat.not_le.2 early)], fun ready => ?_⟩
  rw [if_pos ready] at run
  let result := s.store.programResult offset op.source
  have cells := s.store.setBytes_eq offset result.1
  refine ⟨(s.store.setBytes offset result.1).setStatus (blockOf offset) .written, fun a apart => ?_, fun i v found => ?_, ?_, ?_,
    ?_, fun verified => ?_, fun ⟨i, v, found, wrong⟩ => ?_⟩
  · exact Store.byte_setBytes_outside _ _ _ (by rw [length_programResult, arrived]; exact apart)
  · exact Store.byte_setBytes_inside canonical.2 _ _ (getElem?_programResult found)
  · rw [cells]
    rfl
  · rw [cells]
    rfl
  · rw [cells]
    rfl
  · have ok : result.2 = true := (programResult_ok_iff _ _ _).2 verified
    rw [run, State.endProgram]
    exact congrArg Host.Outcome.next (if_pos ok)
  · have bad : ¬ result.2 = true := fun ok => wrong ((programResult_ok_iff _ _ _).1 ok i v found)
    rw [run, State.endProgram]
    exact congrArg Host.Outcome.next (if_neg bad)

/-- Settles O36. -/
theorem eraseLockAndReadComplete : Obligations.EraseLockAndReadComplete := by
  refine ⟨fun s op since running counting => ?_, fun s op offset length dest reading running work some => ?_⟩
  · have time := StoreOp.runningTime_counting counting s.time
    refine ⟨fun block erasing work inStore ready => ?_, fun programming work ready => ?_, fun block work early => ?_,
      fun work early => ?_⟩
    · refine ⟨(s.store.wipeBlock block Option.none).setStatus block .erased, fun a => ?_, rfl, rfl, rfl, ?_⟩
      · change (s.store.wipeBlock block Option.none).byte a = _
        split
        · next inBlock => exact Store.byte_wipeBlock_erased _ inStore inBlock
        · next outside => exact Store.byte_wipeBlock_other _ _ outside
      · simp [exec, execStoreEraseComplete, running, work, erasing, time, ready, State.endErase]
    · simp [exec, execLockWriteComplete, running, work, programming, time, ready, State.endLock]
    · simp [exec, execStoreEraseComplete, running, work, time, Nat.not_le.2 early]
    · simp [exec, execLockWriteComplete, running, work, time, Nat.not_le.2 early]
  · have inSpan : ∀ b, b ∈ blocksOf offset length ↔ offset / 65536 ≤ b ∧ b ≤ (offset + length - 1) / 65536 :=
      mem_blocksOf_iff offset length
    have run : exec .storeReadComplete s =
        if s.store.transfers = [] then .next (s.endRead op offset length) else .next s := by
      simp [exec, execStoreReadComplete, running, work, reading]
    refine ⟨fun waits => by rw [run, if_neg waits], fun none clear => ?_, fun b none inRange bad first => ?_⟩
    · have found : s.store.firstIncomplete offset length = Option.none := by
        rw [Store.firstIncomplete, List.find?_eq_none]
        exact fun b mem => by simpa using clear b ((inSpan b).1 mem)
      rw [run, if_pos none, State.endRead, found]
    · have found : s.store.firstIncomplete offset length = Option.some b := by
        have start : blockOf offset ≤ b := inRange.1
        have inRun := (inSpan b).2 inRange
        unfold Store.firstIncomplete
        rw [mem_blocksOf_iff] at inRun
        unfold blocksOf
        rw [List.find?_map, Option.map_eq_some_iff]
        refine ⟨b - blockOf offset, ?_, Nat.add_sub_cancel' start⟩
        rw [List.find?_range_eq_some]
        refine ⟨by simp [Nat.add_sub_cancel' start, bad], List.mem_range.2 (by omega), fun j less => ?_⟩
        have good := first (blockOf offset + j) ((inSpan _).1 ((mem_blocksOf_iff _ _ _).2 (by omega))) (by omega)
        simpa using good
      rw [run, if_pos none, State.endRead, found]

/-! ### The staging buffer and the wait list settle (R173, R179) -/

theorem Audio.idlePair_eq_none {a : Audio} (h : ∀ d, (a.chimes.get d).player = .idle → (a.chimes.get d).queue = []) :
    a.idlePair = none := by
  rw [Audio.idlePair, List.find?_eq_none]
  intro d _
  rw [Bool.and_eq_true, beq_iff_eq]
  rintro ⟨idle, pending⟩
  simp [h d idle] at pending

/-- Nothing moves on where no waiter can take the buffer and no IDLE player has an entry (R173, R179). -/
theorem State.settleChimes_quiet {s : State} (n : Nat) (buffer : s.audio.buffer.free = true → s.audio.buffer.waiters = [])
    (players : ∀ d, (s.audio.chimes.get d).player = .idle → (s.audio.chimes.get d).queue = []) :
    State.settleChimes n s = s := by
  cases n with
  | zero => rfl
  | succ n =>
    rw [State.settleChimes, if_neg fun ⟨free, waiting⟩ => waiting (buffer free), Audio.idlePair_eq_none players]

theorem State.settle_quiet {s : State} (buffer : s.audio.buffer.free = true → s.audio.buffer.waiters = [])
    (players : ∀ d, (s.audio.chimes.get d).player = .idle → (s.audio.chimes.get d).queue = []) : s.settle = s :=
  State.settleChimes_quiet _ buffer players

/-- The first waiter takes a free buffer (R179). -/
theorem State.settleChimes_waiter {s : State} (n : Nat) {d : Display} {rest : List Display} (free : s.audio.buffer.free = true)
    (waiters : s.audio.buffer.waiters = d :: rest) :
    State.settleChimes (n + 1) s = State.settleChimes n (s.serveWaiter d rest) := by
  rw [State.settleChimes, if_pos ⟨free, by simp [waiters]⟩, waiters]

/-- An IDLE player takes the head of its queue (R173). -/
theorem State.settleChimes_head {s : State} (n : Nat) {d : Display} {c : Chime} {rest : List Chime}
    (buffer : s.audio.buffer.free = true → s.audio.buffer.waiters = []) (pair : s.audio.idlePair = some d)
    (queue : (s.audio.chimes.get d).queue = c :: rest) :
    State.settleChimes (n + 1) s = State.settleChimes n (s.enterHead d c rest) := by
  rw [State.settleChimes, if_neg fun ⟨free, waiting⟩ => waiting (buffer free), pair]
  simp only [queue]

/-- Every player but that of a pair that does not become IDLE keeps what it has. -/
theorem players_put {s : State} (settled : s.ChimesSettled) {d : Display} {p : Player} (busy : p ≠ .idle) :
    ∀ e, ((s.audio.chimes.put d { s.audio.chimes.get d with player := p }).get e).player = .idle →
      ((s.audio.chimes.put d { s.audio.chimes.get d with player := p }).get e).queue = [] := by
  intro e idle
  by_cases same : e = d
  · subst same
    rw [PerDisplay.get_put_same] at idle
    exact absurd idle busy
  · rw [PerDisplay.get_put_other _ _ same] at idle ⊢
    exact settled.players e idle

/-- The first waiter claims the buffer for its clip (R179). -/
theorem State.serveWaiter_claims {s : State} {d : Display} {rest : List Display} {c : Chime} {clip : Clip}
    (starting : (s.audio.chimes.get d).player = .starting c) (known : s.audio.clips[c.clip]? = some clip) :
    s.serveWaiter d rest =
      State.claimBuffer { s with audio := { s.audio with buffer := { s.audio.buffer with waiters := rest } } } d c clip := by
  unfold State.serveWaiter
  simp only [starting, known]

/-- A clip that the buffer holds plays at once (R179). -/
theorem State.claimBuffer_held {s : State} {d : Display} {c : Chime} {clip : Clip}
    (held : s.audio.buffer.content = some c.clip) :
    s.claimBuffer d c clip =
      { s with
        audio := { s.audio with
          buffer := { s.audio.buffer with user := some d }
          chimes := s.audio.chimes.put d { s.audio.chimes.get d with player := .playing c .staging 0 } } } := by
  rw [State.claimBuffer, if_pos held]
  rfl

/-- A clip that the buffer does not hold is asked of the store (R47, R179). -/
theorem State.claimBuffer_asks {s : State} {d : Display} {c : Chime} {clip : Clip}
    (other : s.audio.buffer.content ≠ some c.clip) (stageable : s.store.unstageable clip.offset clip.length = false) :
    s.claimBuffer d c clip =
      State.acceptStaging
        { s with
          audio := { s.audio with
            buffer := { s.audio.buffer with user := some d, asked := some c.clip }
            chimes := s.audio.chimes.put d { s.audio.chimes.get d with player := .starting c } } }
        c.clip clip.offset clip.length := by
  rw [State.claimBuffer, if_neg other, if_neg (by simp [stageable])]
  rfl

theorem State.acceptStaging_idle {s : State} (idle : s.store.state = .idle) (clip offset length : Nat) :
    s.acceptStaging clip offset length =
      { s with
        store := { s.store with
          staging := some { clip := clip, offset := offset, length := length, phase := .running s.time }, state := .reading } } := by
  unfold State.acceptStaging
  simp only [idle]

theorem State.claimBuffer_asks_idle {s : State} {d : Display} {c : Chime} {clip : Clip}
    (other : s.audio.buffer.content ≠ some c.clip) (stageable : s.store.unstageable clip.offset clip.length = false)
    (idle : s.store.state = .idle) :
    s.claimBuffer d c clip =
      { s with
        audio := { s.audio with
          buffer := { s.audio.buffer with user := some d, asked := some c.clip }
          chimes := s.audio.chimes.put d { s.audio.chimes.get d with player := .starting c } }
        store := { s.store with
          staging := some { clip := c.clip, offset := clip.offset, length := clip.length, phase := .running s.time }
          state := .reading } } := by
  rw [State.claimBuffer_asks other stageable]
  exact State.acceptStaging_idle (by exact idle) _ _ _

/-! ### Suspension (R49) -/

theorem byPriority_store {arb : Arbiter} {waits : Client → Bool} (h : byPriority arb waits = some .store) :
    waits .store = true := by
  unfold byPriority at h
  split at h
  · next c firstA =>
    obtain rfl := Option.some.inj h
    exact (firstFrom_eq_some firstA).2.1
  · split at h
    · next c firstB =>
      obtain rfl := Option.some.inj h
      exact (firstFrom_eq_some firstB).2.1
    · split at h
      · exact nomatch h
      · split at h
        · next waits => exact waits
        · exact nomatch h

/-- The store receives a grant only while it waits, so none while it is suspended (R49, log 41). -/
theorem chooseClient_store_waits {arb : Arbiter} {waits : Client → Bool} (h : chooseClient arb waits = some .store) :
    waits .store = true := by
  unfold chooseClient at h
  split at h
  · next store => exact store.1
  · split at h
    · exact nomatch h
    · exact byPriority_store h

theorem StoreOp.mayAsk_iff (op : StoreOp) (now : Time) :
    op.mayAsk now = true ↔ ∀ t, op.lastResume = some t → 2000 ≤ elapsed now t := by
  unfold StoreOp.mayAsk
  cases op.lastResume <;> simp

theorem Store.suspendable_iff (st : Store) : st.suspendable = true ↔ st.state = .programming ∨ st.state = .erasing := by
  simp [Store.suspendable]

/-! ### The end of a staging (R48, R49, R179) -/

/-- The buffer once the store has answered "staged" (R179). -/
def State.stagedBuffer (s : State) (g : Staging) : StagingBuffer :=
  { s.audio.buffer with content := some g.clip, bytes := s.store.bytes g.offset g.length, asked := none }

theorem State.stagedAnswer_noUser {s : State} (none : s.audio.buffer.user = none) (g : Staging) :
    s.stagedAnswer g = { s with audio := { s.audio with buffer := s.stagedBuffer g } } := by
  unfold State.stagedAnswer
  rw [none]
  rfl

theorem State.stagedAnswer_starting {s : State} {d : Display} {c : Chime} (user : s.audio.buffer.user = some d)
    (starting : (s.audio.chimes.get d).player = .starting c) (g : Staging) :
    s.stagedAnswer g =
      { s with
        audio := { s.audio with
          buffer := s.stagedBuffer g
          chimes := s.audio.chimes.put d { s.audio.chimes.get d with player := .playing c .staging 0 } } } := by
  unfold State.stagedAnswer State.stagedBuffer
  simp only [user, starting]
  rfl

theorem exec_stagingComplete {s : State} {g : Staging} {since : Time} (staging : s.store.staging = some g)
    (running : g.phase = .running since) :
    exec .stagingComplete s =
      if 40 + 4 * ((g.length + 255) / 256) ≤ elapsed s.time since then .next ((s.stagedAnswer g).afterStaging).settle
      else .next s := by
  simp only [exec, execStagingComplete, staging, running]
  rfl

theorem State.afterStaging_suspended {s : State} {op : StoreOp} (running : s.store.op = some op)
    (suspended : s.store.state = .suspendedProgram ∨ s.store.state = .suspendedErase) :
    s.afterStaging = { s with store := s.store.resume op s.time } := by
  unfold State.afterStaging
  obtain program | erase := suspended
  · simp only [program, running]
  · simp only [erase, running]

theorem State.afterStaging_reading {s : State} (reading : s.store.state = .reading) :
    s.afterStaging = State.startQueued s.store.queue { s with store := { s.store with staging := none } } := by
  unfold State.afterStaging
  simp only [reading]

/-- With nothing queued the store is IDLE after a staging (R39). -/
theorem State.afterStaging_idle {s : State} (reading : s.store.state = .reading) (empty : s.store.queue = []) :
    s.afterStaging = { s with store := { s.store with staging := none, state := .idle } } := by
  rw [State.afterStaging_reading reading, empty, State.startQueued_nil]
  simp only [← empty]

theorem StagingBuffer.free_of_user {b : StagingBuffer} {d : Display} (user : b.user = some d) : b.free = false := by
  simp [StagingBuffer.free, user]

theorem Audio.emptiedBy_eq (a : Audio) (block : Nat) :
    a.emptiedBy block = { a with buffer := { a.buffer with content := (a.emptiedBy block).buffer.content } } := by
  unfold Audio.emptiedBy
  repeat' split
  all_goals rfl

/-- A clip that lies in other blocks stays in the buffer (R179). -/
theorem Audio.emptiedBy_apart {a : Audio} {k block : Nat} (content : a.buffer.content = some k)
    (apart : ∀ c, a.clips[k]? = some c → blockOf c.offset ≤ block → block ≤ blockOf (c.offset + c.length - 1) → False) :
    (a.emptiedBy block).buffer.content = some k := by
  unfold Audio.emptiedBy
  rw [content]
  cases known : a.clips[k]? with
  | none => simp [known, content]
  | some clip => 
    simp only [known]
    rw [if_neg fun ⟨low, high⟩ => apart clip known low high, content]

theorem Began.audio_eq {s t : State} {r : StoreRequest} (began : Began s t r) :
    t.audio = { s.audio with buffer := { s.audio.buffer with content := t.audio.buffer.content } } := by
  have audio := began.audio
  generalize t.audio = a at audio ⊢
  subst audio
  split
  · rfl
  · exact Audio.emptiedBy_eq _ _
  · exact Audio.emptiedBy_eq _ _
  · rfl

/-- Settles O37. -/
theorem stagingSuspendsAndResumes : Obligations.StagingSuspendsAndResumes := by
  refine ⟨fun s suspended chosen => ?_, fun s g staging => ⟨fun op running busy => ⟨fun waiting may => ?_,
    fun t resumed early => ?_, fun asked phase => ?_⟩, fun since running => ⟨fun early => ?_, fun ready settled => ?_⟩⟩⟩
  · have waits := chooseClient_store_waits chosen
    obtain program | erase := suspended
    · simp [State.waits, Store.suspended, program] at waits
    · simp [State.waits, Store.suspended, erase] at waits
  · have ask := (op.mayAsk_iff s.time).2 may
    simp [exec, execSuspensionAsk, running, staging, s.store.suspendable_iff.2 busy, waiting, ask]
  · have noAsk : op.mayAsk s.time = false := eq_false_of_ne_true fun may =>
      absurd ((op.mayAsk_iff s.time).1 may t resumed) (Nat.not_le.2 early)
    simp [exec, execSuspensionAsk, running, staging, noAsk]
  · simp only [exec, execSuspensionTakesEffect, running, staging, phase, s.store.suspendable_iff.2 busy, if_true]
    rfl
  · rw [exec_stagingComplete staging running, if_neg (Nat.not_le.2 early)]
  · have run := exec_stagingComplete staging running
    rw [if_pos ready] at run
    have done : ∀ {u v t : State}, s.stagedAnswer g = u → u.afterStaging = v → v.settle = t →
        exec .stagingComplete s = .next t := fun answer after settles => by rw [run, answer, after, settles]
    intro staged
    refine ⟨fun op d c inProgress suspended user starting => ?_, fun reading empty noUser noWaiter => ?_,
      fun d c reading empty user starting => ?_, fun next rest reading queue startable noUser noWaiter => ?_,
      fun d more c clip reading empty noUser waiters starting known => ⟨fun same => ?_, fun other stageable => ?_⟩⟩
    · refine done (State.stagedAnswer_starting user starting g) (State.afterStaging_suspended inProgress suspended)
        (State.settle_quiet (fun free => absurd free ?_) (players_put settled nofun))
      exact ne_true_of_eq_false (StagingBuffer.free_of_user (b := s.stagedBuffer g) user)
    · exact done (State.stagedAnswer_noUser noUser g) (State.afterStaging_idle reading empty)
        (State.settle_quiet (fun _ => noWaiter) settled.players)
    · refine done (State.stagedAnswer_starting user starting g) (State.afterStaging_idle reading empty)
        (State.settle_quiet (fun free => absurd free ?_) (players_put settled nofun))
      exact ne_true_of_eq_false (StagingBuffer.free_of_user (b := s.stagedBuffer g) user)
    · let u : State := { s with audio := { s.audio with buffer := s.stagedBuffer g } }
      obtain ⟨t, starts, began⟩ := State.startStore_began
        (s := { u with store := { u.store with staging := none, queue := rest } }) (r := next) startable
      have after : u.afterStaging = t := by
        refine (State.afterStaging_reading (s := u) reading).trans ?_
        refine (congrArg (fun q => State.startQueued q _) queue).trans ((State.startQueued_cons next rest _).trans ?_)
        change (if (State.startStore { u with store := { u.store with staging := none, queue := rest } } next).2 then _
          else (State.startStore { u with store := { u.store with staging := none, queue := rest } } next).1) = t
        rw [starts]
        rfl
      have audio : t.audio = { s.audio with buffer := { s.stagedBuffer g with content := t.audio.buffer.content } } :=
        began.audio_eq
      have quiet : t.settle = t := by
        refine State.settle_quiet (fun _ => ?_) fun e => ?_
        · rw [audio]
          exact noWaiter
        · rw [audio]
          exact settled.players e
      obtain ⟨sameQueue, cells, lockMark, noStaging⟩ := began.kept
      refine ⟨t, done (State.stagedAnswer_noUser noUser g) after quiet, noStaging, sameQueue, began.op, began.state, audio,
        fun clear => ?_, ?_⟩
      · have content := congrArg (fun a : Audio => a.buffer.content) began.audio
        refine content.trans ?_
        cases work : next.work with
        | read _ _ _ => rfl
        | program offset length source =>
          refine Audio.emptiedBy_apart (k := g.clip) rfl fun c known low high => ?_
          have apart := clear c known _ low high
          rw [work] at apart
          exact apart rfl
        | erase block =>
          refine Audio.emptiedBy_apart (k := g.clip) rfl fun c known low high => ?_
          have apart := clear c known _ low high
          rw [work] at apart
          exact apart rfl
        | lock => rfl
      · refine Within.trans (fun p hp => ?_) (began.within.mono (by decide))
        cases p <;> first | rfl | simp at hp
    · have free : (s.stagedBuffer g).free = true := by simp [StagingBuffer.free, State.stagedBuffer, noUser]
      let u : State := { s with
        audio := { s.audio with buffer := s.stagedBuffer g }, store := { s.store with staging := none, state := .idle } }
      have serves : u.settle = State.settleChimes 31 (u.serveWaiter d more) :=
        State.settleChimes_waiter (s := u) 31 free waiters
      have claims := State.serveWaiter_claims (s := u) (rest := more) starting known
      refine done (State.stagedAnswer_noUser noUser g) (State.afterStaging_idle reading empty) (serves.trans ?_)
      rw [claims, State.claimBuffer_held (congrArg some same.symm)]
      refine State.settleChimes_quiet _ (fun free => absurd free ?_) (players_put settled nofun)
      exact ne_true_of_eq_false (StagingBuffer.free_of_user (d := d) rfl)
    · have free : (s.stagedBuffer g).free = true := by simp [StagingBuffer.free, State.stagedBuffer, noUser]
      let u : State := { s with
        audio := { s.audio with buffer := s.stagedBuffer g }, store := { s.store with staging := none, state := .idle } }
      have serves : u.settle = State.settleChimes 31 (u.serveWaiter d more) :=
        State.settleChimes_waiter (s := u) 31 free waiters
      let v : State := { u with audio := { u.audio with buffer := { u.audio.buffer with waiters := more } } }
      have claims : u.serveWaiter d more = v.claimBuffer d c clip := State.serveWaiter_claims starting known
      have asks := State.claimBuffer_asks_idle (s := v) (d := d) (c := c) (clip := clip)
        (fun held => other (Option.some.inj held).symm) stageable rfl
      refine done (State.stagedAnswer_noUser noUser g) (State.afterStaging_idle reading empty) (serves.trans ?_)
      rw [claims, asks]
      have samePlayer : s.audio.chimes.put d { s.audio.chimes.get d with player := .starting c } = s.audio.chimes := by
        rw [← starting]
        exact PerDisplay.put_get _ _
      refine (State.settleChimes_quiet _ (fun free => absurd free ?_)
        (players_put (d := d) (p := .starting c) settled nofun)).trans ?_
      · exact ne_true_of_eq_false (StagingBuffer.free_of_user (d := d) rfl)
      · simp only [v, u, samePlayer]
        rfl

end Sys2Proof.Machine

end

/-! ## Proofs: chimes are offered, queued, preempted and removed (R173 to R180) -/
section

namespace Sys2Proof.Machine

/-! ### A fault's report reads the report writer, the roles, the link and the time only -/

theorem State.post_rw_congr {s t : State} (time : t.time = s.time) (link : t.link = s.link) (roles : t.roles = s.roles)
    (rw : t.rw = s.rw) (r : Report) : (t.post r).rw = (s.post r).rw := by
  have place : (t.placeReport r).rw = (s.placeReport r).rw := by
    unfold State.placeReport
    rw [roles, rw, time]
    cases s.roles with
    | none => exact rw
    | some _ => simp only [State.present, rw]
  simp only [State.post, link, rw]
  split
  · exact rw
  · split
    · exact place
    · rfl

theorem State.raise_rw_congr {s t : State} (time : t.time = s.time) (link : t.link = s.link) (roles : t.roles = s.roles)
    (rw : t.rw = s.rw) (k : FaultKind) (n : Nat) : (t.raise k n).rw = (s.raise k n).rw := by
  let after := s.rw.putFault k ((s.rw.fault k).occur n)
  simp only [State.raise, rw]
  split
  · exact State.post_rw_congr (s := { s with rw := after }) (t := { t with rw := after }) time link roles rfl _
  · rfl

theorem State.raise_withAudio (s : State) (a : Audio) (k : FaultKind) (n : Nat) :
    ({ s with audio := a } : State).raise k n = { s.raise k n with audio := a } := by
  have same : (({ s with audio := a } : State).raise k n).rw = (s.raise k n).rw :=
    State.raise_rw_congr (s := s) (t := { s with audio := a }) rfl rfl rfl rfl k n
  rw [State.raise_eq s k n, State.raise_eq { s with audio := a } k n, same]

/-! ### Pairs -/

theorem PerDisplay.put_comm {α : Type} (p : PerDisplay α) {d e : Display} (h : d ≠ e) (v w : α) :
    (p.put d v).put e w = (p.put e w).put d v := by
  cases d <;> cases e <;> first | rfl | exact absurd rfl h

/-- The queues, the player and the count of a pair, replaced as a whole. -/
def State.withPair (s : State) (d : Display) (p : PairChimes) : State :=
  { s with audio := { s.audio with chimes := s.audio.chimes.put d p } }

@[simp] theorem State.withPair_get (s : State) (d : Display) (p : PairChimes) :
    (s.withPair d p).audio.chimes.get d = p := PerDisplay.get_put_same _ _ _

theorem State.withPair_get_other (s : State) {d e : Display} (p : PairChimes) (h : e ≠ d) :
    (s.withPair d p).audio.chimes.get e = s.audio.chimes.get e := PerDisplay.get_put_other _ _ h

theorem State.withPair_updateChimes (s : State) (d : Display) (p : PairChimes) (f : PairChimes → PairChimes) :
    (s.withPair d p).updateChimes d f = s.withPair d (f p) := by
  change ({ s with audio := { s.audio with
    chimes := (s.audio.chimes.put d p).put d (f ((s.audio.chimes.put d p).get d)) } } : State) = _
  rw [PerDisplay.get_put_same, PerDisplay.put_put]
  rfl

theorem State.withPair_setPlayer (s : State) (d : Display) (p : PairChimes) (x : Player) :
    (s.withPair d p).setPlayer d x = s.withPair d { p with player := x } := s.withPair_updateChimes d p _

theorem State.updateChimes_eq (s : State) (d : Display) (f : PairChimes → PairChimes) :
    s.updateChimes d f = s.withPair d (f (s.audio.chimes.get d)) := rfl

theorem State.withPair_same (s : State) (d : Display) : s.withPair d (s.audio.chimes.get d) = s := by
  rw [State.withPair, PerDisplay.put_get]

theorem State.raise_withPair (s : State) (d : Display) (p : PairChimes) (k : FaultKind) (n : Nat) :
    (s.withPair d p).raise k n = (s.raise k n).withPair d p := by
  rw [State.withPair, State.raise_withAudio, State.withPair, State.raise_audio]

/-- No pair but `d` has an entry pending before an IDLE player (R173). -/
def State.OthersSettled (s : State) (d : Display) : Prop :=
  ∀ e, e ≠ d → (s.audio.chimes.get e).player = .idle → (s.audio.chimes.get e).queue = []

theorem State.ChimesSettled.others {s : State} (h : s.ChimesSettled) (d : Display) : s.OthersSettled d :=
  fun e _ => h.players e

theorem State.OthersSettled.of_withPair {s : State} {d : Display} (h : s.OthersSettled d) {p : PairChimes}
    (own : p.player = .idle → p.queue = []) :
    ∀ e, ((s.withPair d p).audio.chimes.get e).player = .idle → ((s.withPair d p).audio.chimes.get e).queue = [] := by
  intro e idle
  by_cases same : e = d
  · subst same
    rw [State.withPair_get] at idle ⊢
    exact own idle
  · rw [State.withPair_get_other s p same] at idle ⊢
    exact h e same idle

/-- A pair that moves no more leaves nothing to settle (R173, R179). -/
theorem State.settleChimes_withPair (m : Nat) {s : State} {d : Display} {p : PairChimes} (others : s.OthersSettled d)
    (own : p.player = .idle → p.queue = []) (buffer : s.audio.buffer.free = true → s.audio.buffer.waiters = []) :
    State.settleChimes m (s.withPair d p) = s.withPair d p :=
  State.settleChimes_quiet m (by exact buffer) (others.of_withPair own)

/-! ### The head of a queue enters the IDLE player (R173, R178) -/

section
variable {s : State} {d : Display} {c : Chime} {rest : List Chime} {count : Nat}

theorem State.settleChimes_enters (m : Nat) (others : s.OthersSettled d)
    (buffer : s.audio.buffer.free = true → s.audio.buffer.waiters = []) :
    State.settleChimes (m + 1) (s.withPair d { queue := c :: rest, arrivals := count, player := .idle }) =
      State.settleChimes m ((s.withPair d { queue := rest, arrivals := count, player := .idle }).startChime d c) := by
  have own := s.withPair_get d { queue := c :: rest, arrivals := count, player := .idle }
  have pair : (s.withPair d { queue := c :: rest, arrivals := count, player := .idle }).audio.idlePair = some d := by
    have only : ∀ e, (((s.withPair d { queue := c :: rest, arrivals := count, player := .idle }).audio.chimes.get e).player ==
        .idle && !((s.withPair d { queue := c :: rest, arrivals := count, player := .idle }).audio.chimes.get e).queue.isEmpty) =
        decide (e = d) := by
      intro e
      by_cases same : e = d
      · subst same
        simp [own]
      · rw [State.withPair_get_other s _ same, decide_eq_false same, Bool.eq_false_iff]
        intro idle
        rw [Bool.and_eq_true, beq_iff_eq] at idle
        simp [others e same idle.1] at idle
    rw [Audio.idlePair, funext only]
    cases d <;> rfl
  rw [State.settleChimes_head m (by exact buffer) pair (congrArg PairChimes.queue own), State.enterHead,
    State.withPair_updateChimes]

variable {clip : Clip} (known : s.audio.clips[c.clip]? = some clip) (others : s.OthersSettled d)
  (buffer : s.audio.buffer.free = true → s.audio.buffer.waiters = [])
include known others buffer

/-- A resident clip plays from the cache (R178). -/
theorem State.settleChimes_resident (m : Nat) (resident : clip.resident = true) :
    State.settleChimes (m + 1) (s.withPair d { queue := c :: rest, arrivals := count, player := .idle }) =
      s.withPair d { queue := rest, arrivals := count, player := .playing c .cache 0 } := by
  have known' : (s.withPair d { queue := rest, arrivals := count, player := .idle }).audio.clips[c.clip]? = some clip := known
  rw [State.settleChimes_enters m others buffer, State.startChime, known']
  simp only [resident, if_true, State.withPair_setPlayer]
  exact State.settleChimes_withPair m others nofun buffer

/-- A chime waits for a buffer in use (R179). -/
theorem State.settleChimes_waits (m : Nat) (absent : clip.resident = false) (busy : s.audio.buffer.free = false) :
    State.settleChimes (m + 1) (s.withPair d { queue := c :: rest, arrivals := count, player := .idle }) =
      State.withPair
        { s with audio := { s.audio with buffer := { s.audio.buffer with waiters := s.audio.buffer.waiters ++ [d] } } } d
        { queue := rest, arrivals := count, player := .starting c } := by
  have known' : (s.withPair d { queue := rest, arrivals := count, player := .idle }).audio.clips[c.clip]? = some clip := known
  have busy' : (s.withPair d { queue := rest, arrivals := count, player := .idle }).audio.buffer.free = false := busy
  rw [State.settleChimes_enters m others buffer, State.startChime, known']
  simp only [absent, busy', Bool.false_eq_true, if_false, State.withPair_setPlayer]
  refine State.settleChimes_withPair (s :=
    { s with audio := { s.audio with buffer := { s.audio.buffer with waiters := s.audio.buffer.waiters ++ [d] } } })
    m others nofun fun free => ?_
  exact absurd (show s.audio.buffer.free = true from free) (by simp [busy])

omit buffer in
theorem State.settleChimes_claims (m : Nat) (absent : clip.resident = false) (free : s.audio.buffer.free = true)
    (empty : s.audio.buffer.waiters = []) :
    State.settleChimes (m + 1) (s.withPair d { queue := c :: rest, arrivals := count, player := .idle }) =
      State.settleChimes m ((s.withPair d { queue := rest, arrivals := count, player := .idle }).claimBuffer d c clip) := by
  have known' : (s.withPair d { queue := rest, arrivals := count, player := .idle }).audio.clips[c.clip]? = some clip := known
  have free' : (s.withPair d { queue := rest, arrivals := count, player := .idle }).audio.buffer.free = true := free
  rw [State.settleChimes_enters m others fun _ => empty, State.startChime, known']
  simp only [absent, free', Bool.false_eq_true, if_false, if_true]

omit buffer in
/-- A clip that the free buffer holds plays from it (R179). -/
theorem State.settleChimes_held (m : Nat) (absent : clip.resident = false) (free : s.audio.buffer.free = true)
    (empty : s.audio.buffer.waiters = []) (held : s.audio.buffer.content = some c.clip) :
    State.settleChimes (m + 1) (s.withPair d { queue := c :: rest, arrivals := count, player := .idle }) =
      State.withPair { s with audio := { s.audio with buffer := { s.audio.buffer with user := some d } } } d
        { queue := rest, arrivals := count, player := .playing c .staging 0 } := by
  rw [State.settleChimes_claims known others m absent free empty, State.claimBuffer, if_pos (by exact held)]
  refine (congrArg (State.settleChimes m) (State.withPair_setPlayer
    { s with audio := { s.audio with buffer := { s.audio.buffer with user := some d } } } d _ _)).trans ?_
  refine State.settleChimes_withPair (s := { s with audio := { s.audio with buffer := { s.audio.buffer with user := some d } } })
    m others nofun fun free => absurd free ?_
  exact ne_true_of_eq_false (StagingBuffer.free_of_user (d := d) rfl)

omit buffer in
/-- A clip that the free buffer does not hold has its staging asked of the store (R47, R179). -/
theorem State.settleChimes_asks (m : Nat) (absent : clip.resident = false) (free : s.audio.buffer.free = true)
    (empty : s.audio.buffer.waiters = []) (other : s.audio.buffer.content ≠ some c.clip)
    (stageable : s.store.unstageable clip.offset clip.length = false) :
    State.settleChimes (m + 1) (s.withPair d { queue := c :: rest, arrivals := count, player := .idle }) =
      State.acceptStaging
        (State.withPair
          { s with audio := { s.audio with buffer := { s.audio.buffer with user := some d, asked := some c.clip } } } d
          { queue := rest, arrivals := count, player := .starting c })
        c.clip clip.offset clip.length := by
  have asks := State.claimBuffer_asks (s := s.withPair d { queue := rest, arrivals := count, player := .idle }) (d := d) (c := c)
    (clip := clip) other stageable
  have placed : State.claimBuffer (s.withPair d { queue := rest, arrivals := count, player := .idle }) d c clip =
      State.acceptStaging
        (State.withPair
          { s with audio := { s.audio with buffer := { s.audio.buffer with user := some d, asked := some c.clip } } } d
          { queue := rest, arrivals := count, player := .starting c })
        c.clip clip.offset clip.length := by
    rw [asks]
    refine congrArg (fun t => State.acceptStaging t c.clip clip.offset clip.length) ?_
    exact State.withPair_setPlayer
      { s with audio := { s.audio with buffer := { s.audio.buffer with user := some d, asked := some c.clip } } } d _ _
  rw [State.settleChimes_claims known others m absent free empty, placed]
  generalize made : State.withPair _ d _ = u
  have audio : (u.acceptStaging c.clip clip.offset clip.length).audio = u.audio :=
    State.acceptStaging_within u _ _ _ .audio (by decide)
  refine State.settleChimes_quiet m (fun free => absurd free ?_) fun e => ?_
  · rw [audio, ← made]
    exact ne_true_of_eq_false (StagingBuffer.free_of_user (d := d) rfl)
  · rw [audio, ← made]
    exact State.OthersSettled.of_withPair (s := { s with audio :=
      { s.audio with buffer := { s.audio.buffer with user := some d, asked := some c.clip } } }) (p := ⟨rest, count, .starting c⟩)
      others nofun e

omit buffer in
/-- A SYSTEM chime of an unstageable clip is discarded (R180). -/
theorem State.settleChimes_unstageable (m : Nat) (absent : clip.resident = false) (free : s.audio.buffer.free = true)
    (empty : s.audio.buffer.waiters = []) (other : s.audio.buffer.content ≠ some c.clip)
    (bad : s.store.unstageable clip.offset clip.length = true) (system : c.owner = .system) (last : rest = []) :
    State.settleChimes (m + 1) (s.withPair d { queue := c :: rest, arrivals := count, player := .idle }) =
      (s.raise .chimeUnavailable c.clip).withPair d { queue := rest, arrivals := count, player := .idle } := by
  rw [State.settleChimes_claims known others m absent free empty, State.claimBuffer, if_neg (by exact other),
    if_pos (by exact bad), State.unstageableAnswer, State.raise_withPair]
  simp only [system, State.withPair_setPlayer]
  refine State.settleChimes_withPair m (fun e => ?_) (fun _ => last) fun _ => ?_
  · rw [State.raise_audio]
    exact others e
  · rw [State.raise_audio]
    exact empty

end

/-! ### The queue takes an entry (R175) -/

theorem insertChime_eq (c : Chime) (q : List Chime) :
    insertChime c q = q.takeWhile (fun x => decide (c.priority ≤ x.priority)) ++
      c :: q.dropWhile (fun x => decide (c.priority ≤ x.priority)) := by
  induction q with
  | nil => rfl
  | cons x rest ih =>
    unfold insertChime
    by_cases low : x.priority < c.priority
    · rw [if_pos low, List.takeWhile_cons_of_neg (by simpa using low), List.dropWhile_cons_of_neg (by simpa using low)]
      rfl
    · rw [if_neg low, List.takeWhile_cons_of_pos (by simpa using low), List.dropWhile_cons_of_pos (by simpa using low), ih]
      rfl

theorem insertChime_first {c : Chime} {q : List Chime} (above : ∀ x ∈ q, x.priority < c.priority) :
    insertChime c q = c :: q := by
  cases q with
  | nil => rfl
  | cons x rest => rw [insertChime, if_pos (above x List.mem_cons_self)]

theorem foldl_min_le (q : List Chime) (m : Nat) :
    q.foldl (fun m c => min m c.priority) m ≤ m ∧ ∀ x ∈ q, q.foldl (fun m c => min m c.priority) m ≤ x.priority := by
  induction q generalizing m with
  | nil => exact ⟨Nat.le_refl _, nofun⟩
  | cons y rest ih =>
    obtain ⟨start, each⟩ := ih (min m y.priority)
    rw [List.foldl_cons]
    refine ⟨by omega, fun x mem => ?_⟩
    obtain rfl | later := List.mem_cons.1 mem
    · omega
    · exact each x later

theorem le_lowestPriority {q : List Chime} {p : Nat} (small : p ≤ 7) (each : ∀ x ∈ q, p ≤ x.priority) :
    p ≤ lowestPriority q := by
  have step : ∀ (q : List Chime) (m : Nat), p ≤ m → (∀ x ∈ q, p ≤ x.priority) →
      p ≤ q.foldl (fun m c => min m c.priority) m := by
    intro q
    induction q with
    | nil => exact fun m start _ => start
    | cons y rest ih =>
      intro m start each
      exact ih _ (le_min start (each y List.mem_cons_self)) fun x mem => each x (List.mem_cons_of_mem y mem)
  exact step q 7 small each

theorem lowestPriority_eq {before after : List Chime} {low : Chime} (small : low.priority ≤ 7)
    (above : ∀ x ∈ before, low.priority < x.priority) (least : ∀ x ∈ after, low.priority ≤ x.priority) :
    lowestPriority (before ++ low :: after) = low.priority := by
  refine Nat.le_antisymm ((foldl_min_le _ 7).2 low (by simp)) (le_lowestPriority small fun x mem => ?_)
  obtain inBefore | rfl | inAfter := by simpa using mem
  · exact Nat.le_of_lt (above x inBefore)
  · exact Nat.le_refl _
  · exact least x inAfter

/-- The queue takes a newcomer in the room that there is, or that its oldest entry of the lowest priority leaves (R175). -/
theorem PairChimes.take_of_room {p : PairChimes} {kept : List Chime} {priority : Nat}
    (room : MakesRoom p.queue kept priority) (small : priority ≤ 7) (clip : Nat) (owner : ChimeOwner) :
    p.take clip priority owner =
      some { p with
        queue := insertChime { clip := clip, priority := priority, owner := owner, arrival := p.arrivals } kept
        arrivals := p.arrivals + 1 } := by
  obtain ⟨few, rfl⟩ | ⟨full, before, low, after, whole, rfl, lower, above, least⟩ := room
  · exact if_pos few
  · have lowest : lowestPriority p.queue = low.priority := by
      rw [whole]
      exact lowestPriority_eq (by omega) above least
    have erased : p.queue.eraseP (fun q => q.priority == low.priority) = before ++ after := by
      rw [whole, List.eraseP_append_right _ fun x mem same => ?_, List.eraseP_cons_of_pos (by simp)]
      exact absurd (beq_iff_eq.1 same) (Nat.ne_of_gt (above x mem))
    rw [PairChimes.take, if_neg (by omega), lowest, if_pos lower, erased]

/-- A full queue refuses a newcomer that is above none of its entries (R175). -/
theorem PairChimes.take_refused {p : PairChimes} {priority : Nat} (full : p.queue.length = 4)
    (below : ∀ x ∈ p.queue, priority ≤ x.priority) (small : priority ≤ 7) (clip : Nat) (owner : ChimeOwner) :
    p.take clip priority owner = none := by
  have lowest := le_lowestPriority small below
  rw [PairChimes.take, if_neg (by omega), if_neg (by omega)]

end Sys2Proof.Machine

end

/-! ## Proofs: PLAY_CHIME and STOP_CHIMES (R173 to R180) -/
section

namespace Sys2Proof.Machine

/-! ### Offers to a pair (R173, R175, R176) -/

section
variable {s : State} {d : Display}

/-- An offer to an IDLE player goes straight to it (R173). -/
theorem State.offerChime_idle (empty : (s.audio.chimes.get d).queue = []) (idle : (s.audio.chimes.get d).player = .idle)
    (clip priority : Nat) (owner : ChimeOwner) :
    s.offerChime d clip priority owner =
      { state := (s.withPair d
          { queue := [{ clip := clip, priority := priority, owner := owner, arrival := (s.audio.chimes.get d).arrivals }]
            arrivals := (s.audio.chimes.get d).arrivals + 1, player := .idle }).settle
        taken := true, beepStopped := false } := by
  have takes : (s.audio.chimes.get d).take clip priority owner = some
      { queue := [{ clip := clip, priority := priority, owner := owner, arrival := (s.audio.chimes.get d).arrivals }]
        arrivals := (s.audio.chimes.get d).arrivals + 1, player := .idle } := by
    rw [PairChimes.take, if_pos (by simp [empty]), empty, idle]
    rfl
  simp [State.offerChime, idle, Player.chime, takes]
  rfl

variable {now : Chime}

/-- An offer that is not above the chime in the player is queued (R175). -/
theorem State.offerChime_queued (others : s.OthersSettled d)
    (buffer : s.audio.buffer.free = true → s.audio.buffer.waiters = [])
    (playing : (s.audio.chimes.get d).player.chime = some now) {priority : Nat} (below : priority ≤ now.priority) {kept : List Chime}
    (room : MakesRoom (s.audio.chimes.get d).queue kept priority) (small : priority ≤ 7) (clip : Nat) (owner : ChimeOwner) :
    s.offerChime d clip priority owner =
      { state := s.withPair d
          { s.audio.chimes.get d with
            queue := insertChime { clip := clip, priority := priority, owner := owner
                                   arrival := (s.audio.chimes.get d).arrivals } kept
            arrivals := (s.audio.chimes.get d).arrivals + 1 }
        taken := true, beepStopped := false } := by
  have busy : (s.audio.chimes.get d).player ≠ .idle := fun idle => by simp [idle, Player.chime] at playing
  have quiet := State.settleChimes_withPair 32 (s := s) (d := d) (p := { s.audio.chimes.get d with
    queue := insertChime { clip := clip, priority := priority, owner := owner, arrival := (s.audio.chimes.get d).arrivals } kept
    arrivals := (s.audio.chimes.get d).arrivals + 1 }) others (fun idle => absurd idle busy) buffer
  have low : ¬ now.priority < priority := Nat.not_lt.2 below
  unfold State.offerChime
  simp only [playing, low, decide_false, Bool.false_and, Bool.false_eq_true, if_false,
    PairChimes.take_of_room room small clip owner]
  exact congrArg (fun u => Offer.mk u true false) quiet

/-- A full queue refuses an offer that is above none of its entries (R175). -/
theorem State.offerChime_refused (settled : s.ChimesSettled) (playing : (s.audio.chimes.get d).player.chime = some now)
    {priority : Nat} (below : priority ≤ now.priority) (full : (s.audio.chimes.get d).queue.length = 4)
    (least : ∀ x ∈ (s.audio.chimes.get d).queue, priority ≤ x.priority) (small : priority ≤ 7) (clip : Nat)
    (owner : ChimeOwner) :
    s.offerChime d clip priority owner = { state := s, taken := false, beepStopped := false } := by
  have low : ¬ now.priority < priority := Nat.not_lt.2 below
  unfold State.offerChime
  simp only [playing, low, decide_false, Bool.false_and, Bool.false_eq_true, if_false,
    PairChimes.take_refused full least small clip owner]
  exact congrArg (fun u => Offer.mk u false false) (State.settle_quiet settled.served settled.players)

/-- An offer above the chime in the player stops that chime, which gives up the buffer (R176, R179). -/
theorem State.offerChime_preempts (playing : (s.audio.chimes.get d).player.chime = some now) {priority : Nat}
    (above : now.priority < priority) {kept : List Chime} (room : MakesRoom (s.audio.chimes.get d).queue kept priority)
    (first : ∀ x ∈ kept, x.priority < priority) (small : priority ≤ 7) (clip : Nat) (owner : ChimeOwner) :
    s.offerChime d clip priority owner =
      { state := (State.withPair { s with audio := { s.audio with buffer := s.audio.buffer.without d } } d
          { queue := { clip := clip, priority := priority, owner := owner, arrival := (s.audio.chimes.get d).arrivals } :: kept
            arrivals := (s.audio.chimes.get d).arrivals + 1, player := .idle }).settle
        taken := true, beepStopped := d == .front && now.isParkBeep } := by
  let left : State := { s with audio := { s.audio with buffer := s.audio.buffer.without d } }
  have leaves : s.leavePlayer d = left.withPair d { s.audio.chimes.get d with player := .idle } := rfl
  have takes := PairChimes.take_of_room (p := { s.audio.chimes.get d with player := .idle }) room small clip owner
  rw [insertChime_first (by exact first)] at takes
  unfold State.offerChime
  simp only [playing, above, decide_true, Bool.true_and, if_true, leaves, State.withPair_get, takes,
    State.withPair_updateChimes]
  rfl

end

theorem StagingBuffer.free_iff (b : StagingBuffer) : b.free = true ↔ b.user = none ∧ b.asked = none := by
  simp [StagingBuffer.free]

theorem StagingBuffer.free_eq_false {b : StagingBuffer} (busy : b.user ≠ none ∨ b.asked ≠ none) : b.free = false := by
  rw [Bool.eq_false_iff]
  intro free
  obtain ⟨noUser, noneAsked⟩ := b.free_iff.1 free
  exact busy.elim (absurd noUser) (absurd noneAsked)

/-! ### A staging is asked of a busy store (R48, R49) -/

theorem State.acceptStaging_reading {s : State} (reading : s.store.state = .reading) (clip offset length : Nat) :
    s.acceptStaging clip offset length =
      { s with
        store := { s.store with
          staging := some { clip := clip, offset := offset, length := length, phase := .waiting } } } := by
  unfold State.acceptStaging
  simp only [reading]

/-- Where a program or erase runs, its suspension is asked for unless it was resumed less than 2 ms ago (R49). -/
theorem State.acceptStaging_busy {s : State} {op : StoreOp} (busy : s.store.state = .programming ∨ s.store.state = .erasing)
    (running : s.store.op = some op) {phase : StagingPhase}
    (asks : (if op.mayAsk s.time = true then .asked s.time else .waiting) = phase) (clip offset length : Nat) :
    s.acceptStaging clip offset length =
      { s with
        store := { s.store with
          staging := some { clip := clip, offset := offset, length := length, phase := phase } } } := by
  subst asks
  unfold State.acceptStaging
  obtain programming | erasing := busy
  · simp only [programming, running]
    split <;> rfl
  · simp only [erasing, running]
    split <;> rfl

/-! ### PLAY_CHIME -/

theorem exec_playChime {s : State} {rec : List Byte} (arrives : Arrives s 14 rec) :
    exec .playChime s = .next ((ownPlayChime rec s).1.ended rec (ownPlayChime rec s).2) :=
  congrArg Host.Outcome.next (State.takeKind_of_arrives arrives ownPlayChime)

/-- PLAY_CHIME of a known clip offers it, at a priority of at most 3 (R174). -/
theorem exec_playChime_offers {s : State} {rec : List Byte} (arrives : Arrives s 14 rec) {d : Display} {clip : Clip}
    (display : displayField (byteAt rec 6) = some d) (known : s.audio.clips[byteAt rec 7]? = some clip)
    (clear : reservedClear rec [6, 7, 8] = true) {u : State} {taken : Bool}
    (offers : s.offerChime d (byteAt rec 7) (min (byteAt rec 8) 3) .system =
      { state := u, taken := taken, beepStopped := false }) :
    exec .playChime s = .next (u.ended rec (if taken = true then .done else .refused .queueFull)) := by
  rw [exec_playChime arrives, ownPlayChime, checkPair_eq_some display clear, known]
  simp only [State.offerAndTell, offers]
  cases taken <;> rfl

/-- Settles O28. -/
theorem playChimeStartsInIdlePlayer : Obligations.PlayChimeStartsInIdlePlayer := by
  intro s rec arrives settled
  refine ⟨fun refused => ?_, fun d clip display known clear idle => ?_⟩
  · rw [exec_playChime arrives]
    have refuses : ownPlayChime rec s = (s, .refused .badField) := by
      unfold ownPlayChime
      obtain far | unknown | reserved := refused
      · rw [checkPair_eq_none (.inl far)]
      · rw [List.getElem?_eq_none unknown]
        cases checkPair rec [6, 7, 8] <;> rfl
      · rw [checkPair_eq_none (.inr reserved)]
    rw [refuses]
  · intro c entered buffer asking
    have others := settled.others d
    let done : State → Host.Outcome State Fault Refusal := fun u => .next (u.ended rec .done)
    have run {u : State} (settles : (s.withPair d
        { queue := [c], arrivals := (s.audio.chimes.get d).arrivals + 1, player := .idle }).settle = u) :
        exec .playChime s = .next (u.ended rec .done) := by
      have offers := State.offerChime_idle (settled.players d idle) idle (byteAt rec 7) (min (byteAt rec 8) 3) .system
      exact exec_playChime_offers arrives display known clear
        (offers.trans (congrArg (fun u => Offer.mk u true false) settles))
    refine ⟨fun resident => run (State.settleChimes_resident known others settled.served 31 resident),
      fun absent busy => run (State.settleChimes_waits known others settled.served 31 absent ?_), fun absent noUser noneAsked => ?_⟩
    · exact StagingBuffer.free_eq_false busy
    · have free : s.audio.buffer.free = true := s.audio.buffer.free_iff.2 ⟨noUser, noneAsked⟩
      have empty := settled.served free
      have stages (other : buffer.content ≠ some (byteAt rec 7))
          (stageable : s.store.unstageable clip.offset clip.length = false) :=
        run (State.settleChimes_asks (rest := []) (count := (s.audio.chimes.get d).arrivals + 1) known others 31 absent free
          empty other stageable)
      refine ⟨fun held => run (State.settleChimes_held known others 31 absent free empty held),
        fun other stageable inIdle => ?_, fun other stageable reading => ?_,
        fun op other stageable busy running => ⟨fun mayAsk => ?_, fun t resumed early => ?_⟩, fun other bad => ?_⟩
      · rw [stages other stageable, State.acceptStaging_idle (by exact inIdle)]
        rfl
      · rw [stages other stageable, State.acceptStaging_reading (by exact reading), ← reading]
        rfl
      · exact (stages other stageable).trans (congrArg done
          (State.acceptStaging_busy (by exact busy) (by exact running) (by exact if_pos ((op.mayAsk_iff _).2 mayAsk)) _ _ _))
      · exact (stages other stageable).trans (congrArg done
          (State.acceptStaging_busy (by exact busy) (by exact running)
            (by exact if_neg fun mayAsk => absurd ((op.mayAsk_iff _).1 mayAsk t resumed) (Nat.not_le.2 early)) _ _ _))
      · have answer : entered (s.raise .chimeUnavailable (byteAt rec 7)) .idle =
            (s.raise .chimeUnavailable c.clip).withPair d
              { queue := [], arrivals := (s.audio.chimes.get d).arrivals + 1, player := .idle } := by
          change (s.raise .chimeUnavailable (byteAt rec 7)).updateChimes d _ = _
          rw [State.updateChimes_eq, State.raise_audio]
        rw [answer]
        exact run (State.settleChimes_unstageable (c := c) known others 31 absent free empty other bad rfl rfl)

end Sys2Proof.Machine

end

/-! ## Proofs: a busy player, and STOP_CHIMES (R175 to R179) -/
section

namespace Sys2Proof.Machine

theorem StagingBuffer.without_of_apart {b : StagingBuffer} {d : Display} (user : b.user ≠ some d) (waiters : d ∉ b.waiters) :
    b.without d = b := by
  have kept : b.waiters.filter (fun w => decide (w ≠ d)) = b.waiters :=
    List.filter_eq_self.2 fun w mem => decide_eq_true fun same => waiters (same ▸ mem)
  rw [StagingBuffer.without, if_neg user, kept]

theorem StagingBuffer.not_mem_without (b : StagingBuffer) (d : Display) : d ∉ (b.without d).waiters := fun mem => by
  simp [StagingBuffer.without] at mem

/-- No one waits for a buffer that is free once a pair has left it, where it was used or asked for by no other (R179). -/
theorem StagingBuffer.settled_of {b : StagingBuffer} (h : b.user ≠ none ∨ b.asked ≠ none ∨ b.waiters = []) :
    b.free = true → b.waiters = [] := by
  intro free
  obtain ⟨noUser, noneAsked⟩ := b.free_iff.1 free
  exact (h.resolve_left (absurd noUser)).resolve_left (absurd noneAsked)

theorem State.OthersSettled.withPair {s : State} {d : Display} (h : s.OthersSettled d) (w : Display) {p : PairChimes}
    (moves : p.player = .idle → p.queue = []) : (s.withPair w p).OthersSettled d := by
  intro e other idle
  by_cases same : e = w
  · subst same
    rw [State.withPair_get] at idle ⊢
    exact moves idle
  · rw [State.withPair_get_other s p same] at idle ⊢
    exact h e other idle

/-- A head that enters behind a chime in the buffer plays from the cache, or waits as the last (R178, R179). -/
theorem State.settleChimes_behind (m : Nat) {s : State} {d : Display} {c : Chime} {rest : List Chime} {count : Nat} {clip : Clip}
    (known : s.audio.clips[c.clip]? = some clip) (others : s.OthersSettled d) (busy : s.audio.buffer.free = false) :
    State.settleChimes (m + 1) (s.withPair d { queue := c :: rest, arrivals := count, player := .idle }) =
      State.withPair
        { s with audio := { s.audio with buffer := { s.audio.buffer with
            waiters := if clip.resident = true then s.audio.buffer.waiters else s.audio.buffer.waiters ++ [d] } } } d
        { queue := rest, arrivals := count
          player := if clip.resident = true then .playing c .cache 0 else .starting c } := by
  have buffer : s.audio.buffer.free = true → s.audio.buffer.waiters = [] :=
    fun free => absurd free (ne_true_of_eq_false busy)
  by_cases resident : clip.resident = true
  · rw [State.settleChimes_resident known others buffer m resident, if_pos resident, if_pos resident]
  · rw [State.settleChimes_waits known others buffer m (Bool.eq_false_iff.2 resident) busy, if_neg resident, if_neg resident]

/-! ### PLAY_CHIME on a busy player -/

section
variable {s : State} {d w : Display} {waiting : Chime} {k : Clip} {p : PairChimes} (apart : w ≠ d)
  {more : List Display} (starting : (s.audio.chimes.get w).player = .starting waiting)
  (known : s.audio.clips[waiting.clip]? = some k) (free : s.audio.buffer.free = true)
  (waiters : s.audio.buffer.waiters = w :: more)
include apart starting known free waiters

theorem State.settleChimes_serves (m : Nat) :
    State.settleChimes (m + 1) (s.withPair d p) =
      State.settleChimes m
        (State.claimBuffer
          (State.withPair { s with audio := { s.audio with buffer := { s.audio.buffer with waiters := more } } } d p) w waiting
          k) := by
  have waits : ((s.withPair d p).audio.chimes.get w).player = .starting waiting := by
    rw [State.withPair_get_other s p apart]
    exact starting
  rw [State.settleChimes_waiter m (by exact free) (by exact waiters), State.serveWaiter_claims waits (by exact known)]
  rfl

/-- The first waiter plays the clip held before any other pair moves on (R179, log 13). -/
theorem State.settleChimes_waiterHeld (m : Nat) (held : s.audio.buffer.content = some waiting.clip) :
    State.settleChimes (m + 1) (s.withPair d p) =
      State.settleChimes m
        (State.withPair
          (State.updateChimes
            { s with audio := { s.audio with buffer := { s.audio.buffer with user := some w, waiters := more } } } w
            fun x => { x with player := .playing waiting .staging 0 })
          d p) := by
  rw [State.settleChimes_serves apart starting known free waiters m]
  refine congrArg (State.settleChimes m) ((State.claimBuffer_held (by exact held)).trans ?_)
  simp only [State.updateChimes, State.withPair, PerDisplay.get_put_other _ _ apart]
  rw [PerDisplay.put_comm _ (Ne.symm apart)]

/-- The first waiter has its clip staged before any other pair moves on (R47, R179, log 13). -/
theorem State.settleChimes_waiterAsks (m : Nat) (other : s.audio.buffer.content ≠ some waiting.clip)
    (stageable : s.store.unstageable k.offset k.length = false) (idle : s.store.state = .idle) :
    State.settleChimes (m + 1) (s.withPair d p) =
      State.settleChimes m
        (State.withPair
          { s with
            audio := { s.audio with
              buffer := { s.audio.buffer with user := some w, asked := some waiting.clip, waiters := more } }
            store := { s.store with
              staging := some { clip := waiting.clip, offset := k.offset, length := k.length, phase := .running s.time }
              state := .reading } }
          d p) := by
  rw [State.settleChimes_serves apart starting known free waiters m]
  refine congrArg (State.settleChimes m)
    ((State.claimBuffer_asks_idle (by exact other) (by exact stageable) (by exact idle)).trans ?_)
  simp only [State.withPair, PerDisplay.get_put_other _ _ apart]
  rw [PerDisplay.put_comm _ (Ne.symm apart), ← starting, PerDisplay.put_get]

end

/-- PLAY_CHIME above the SYSTEM chime in the player stops that chime (R176). -/
theorem exec_playChime_preempts {s : State} {rec : List Byte} (arrives : Arrives s 14 rec) {d : Display} {clip : Clip}
    (display : displayField (byteAt rec 6) = some d) (known : s.audio.clips[byteAt rec 7]? = some clip)
    (clear : reservedClear rec [6, 7, 8] = true) {now : Chime} (playing : (s.audio.chimes.get d).player.chime = some now)
    (above : now.priority < min (byteAt rec 8) 3) (system : now.owner = .system) {kept : List Chime}
    (room : MakesRoom (s.audio.chimes.get d).queue kept (min (byteAt rec 8) 3))
    (first : ∀ x ∈ kept, x.priority < min (byteAt rec 8) 3) {u : State}
    (settles : (State.withPair { s with audio := { s.audio with buffer := s.audio.buffer.without d } } d
      { queue := { clip := byteAt rec 7, priority := min (byteAt rec 8) 3, owner := .system
                   arrival := (s.audio.chimes.get d).arrivals } :: kept
        arrivals := (s.audio.chimes.get d).arrivals + 1, player := .idle }).settle = u) :
    exec .playChime s = .next (u.ended rec .done) := by
  have noBeep : (d == .front && now.isParkBeep) = false := by simp [Chime.isParkBeep, system]
  have offers := State.offerChime_preempts playing above room first (by omega) (byteAt rec 7) .system
  rw [settles, noBeep] at offers
  exact exec_playChime_offers arrives display known clear offers

/-! ### Own chimes on FRONT (R108, R171, R173) -/

theorem Park.isContinuous_iff (p : Park) :
    p.isContinuous p.band = true ↔ ∃ i b, p.band = some i ∧ p.table[i]? = some b ∧ b.interval = none := by
  unfold Park.isContinuous
  cases band : p.band with
  | none => simp
  | some i => cases found : p.table[i]? <;> simp [found]

theorem any_isReverseTone_eq_false {q : List Chime} (none : ∀ x ∈ q, ¬ (x.owner = .part ∧ x.clip = 0)) :
    q.any Chime.isReverseTone = false :=
  List.any_eq_false.2 fun x mem => by simpa [Chime.isReverseTone] using none x mem

theorem any_isParkBeep_eq_false {q : List Chime} (none : ∀ x ∈ q, ¬ (x.owner = .part ∧ x.clip = 1)) :
    q.any Chime.isParkBeep = false :=
  List.any_eq_false.2 fun x mem => by simpa [Chime.isParkBeep] using none x mem

theorem any_isParkBeep_of {q : List Chime} (some : ∃ x ∈ q, x.owner = .part ∧ x.clip = 1) : q.any Chime.isParkBeep = true := by
  obtain ⟨x, mem, own, beep⟩ := some
  exact List.any_eq_true.2 ⟨x, mem, by simp [Chime.isParkBeep, own, beep]⟩

section
variable {s : State} {now : Chime} {kept : List Chime} (others : s.OthersSettled .front)
  (playing : s.audio.chimes.front.player.chime = some now)
include others playing

/-- An own chime of a resident clip above the chime on FRONT plays at once (R176, R178). -/
theorem State.offerChime_front {n priority : Nat} {clip : Clip} (above : now.priority < priority)
    (known : s.audio.clips[n]? = some clip) (resident : clip.resident = true)
    (room : MakesRoom s.audio.chimes.front.queue kept priority) (first : ∀ x ∈ kept, x.priority < priority)
    (small : priority ≤ 7)
    (left : (s.audio.buffer.without .front).free = true → (s.audio.buffer.without .front).waiters = []) :
    s.offerChime .front n priority .part =
      { state := { s with
          audio := { s.audio with
            buffer := s.audio.buffer.without .front
            chimes := { s.audio.chimes with
              front :=
                { queue := kept, arrivals := s.audio.chimes.front.arrivals + 1
                  player := .playing { clip := n, priority := priority, owner := .part
                                       arrival := s.audio.chimes.front.arrivals } .cache 0 } } } }
        taken := true, beepStopped := now.isParkBeep } := by
  refine (State.offerChime_preempts (d := .front) playing above room first small n .part).trans ?_
  have settles := State.settleChimes_resident
    (s := { s with audio := { s.audio with buffer := s.audio.buffer.without .front } }) (d := .front)
    (c := { clip := n, priority := priority, owner := .part, arrival := s.audio.chimes.front.arrivals }) (rest := kept)
    (count := s.audio.chimes.front.arrivals + 1) known others left 31 resident
  exact congrArg (fun u => Offer.mk u true now.isParkBeep) settles

/-- An own chime that is not above the chime on FRONT waits behind those of its priority (R175). -/
theorem State.offerChime_front_waits {n priority : Nat} (below : priority ≤ now.priority)
    (room : MakesRoom s.audio.chimes.front.queue kept priority) (small : priority ≤ 7)
    (buffer : s.audio.buffer.free = true → s.audio.buffer.waiters = []) :
    s.offerChime .front n priority .part =
      { state := { s with
          audio := { s.audio with
            chimes := { s.audio.chimes with
              front := { s.audio.chimes.front with
                arrivals := s.audio.chimes.front.arrivals + 1
                queue := kept.takeWhile (fun x => decide (priority ≤ x.priority)) ++
                  { clip := n, priority := priority, owner := .part, arrival := s.audio.chimes.front.arrivals } ::
                    kept.dropWhile fun x => decide (priority ≤ x.priority) } } } }
        taken := true, beepStopped := false } := by
  refine (State.offerChime_queued (d := .front) others buffer playing below room small n .part).trans ?_
  rw [insertChime_eq]
  rfl

end

/-- Settles O29. -/
theorem playChimeOnBusyPlayerQueuesOrPreempts : Obligations.PlayChimeOnBusyPlayerQueuesOrPreempts := by
  refine ⟨fun s rec d clip now arrives settled display known clear playing => ?_,
    fun s now clip kept settled playing above known resident noTone room first => ?_,
    fun s now kept settled playing => ?_⟩
  · intro q c placed
    have others := settled.others d
    have small : min (byteAt rec 8) 3 ≤ 7 := by omega
    have queues {kept : List Chime} (below : c.priority ≤ now.priority) (room : MakesRoom q kept c.priority) :
        exec .playChime s = .next
          ((s.updateChimes d fun x => { x with queue := placed kept, arrivals := x.arrivals + 1 }).ended rec .done) := by
      have offers := State.offerChime_queued others settled.served playing below room small (byteAt rec 7) .system
      rw [insertChime_eq] at offers
      exact exec_playChime_offers arrives display known clear offers
    refine ⟨fun below few => queues below (.inl ⟨few, rfl⟩), fun below full least => ?_,
      fun before low after below full whole lower above least =>
        queues below (.inr ⟨full, before, low, after, whole, rfl, lower, above, least⟩),
      fun above system few first resident notUser notWaiting => ?_, fun kept above system room first => ?_⟩
    · exact exec_playChime_offers arrives display known clear
        (State.offerChime_refused settled playing below full least small (byteAt rec 7) .system)
    · refine exec_playChime_preempts arrives display known clear playing above system (.inl ⟨few, rfl⟩) first ?_
      rw [StagingBuffer.without_of_apart notUser notWaiting]
      exact State.settleChimes_resident known others settled.served 31 resident
    · intro left holding asking enters
      have run {u : State} {p : Player} (settles : (State.withPair (holding left) d
          { queue := c :: kept, arrivals := (s.audio.chimes.get d).arrivals + 1, player := .idle }).settle =
            u.updateChimes d fun x => { queue := kept, arrivals := x.arrivals + 1, player := p }) : enters u p :=
        exec_playChime_preempts arrives display known clear playing above system room first settles
      refine ⟨fun resident gone => ?_, fun absent busy => ?_, fun absent noUser noneAsked noWaiter => ⟨fun held => ?_,
        fun other stageable idle => ?_, fun other bad last => ?_⟩,
        fun w more waiting k noUser noneAsked waiters starting knownWaiting => ⟨fun held => ?_, fun other stageable idle => ?_⟩⟩
      · exact run (State.settleChimes_resident (s := holding left) known others (StagingBuffer.settled_of gone) 31 resident)
      · have inUse := StagingBuffer.free_eq_false busy
        exact run (State.settleChimes_waits (s := holding left) known others
          (fun free => absurd free (ne_true_of_eq_false inUse)) 31 absent inUse)
      · exact run (State.settleChimes_held (s := holding left) known others 31 absent (left.free_iff.2 ⟨noUser, noneAsked⟩)
          noWaiter held)
      · refine run ((State.settleChimes_asks (s := holding left) known others 31 absent
          (left.free_iff.2 ⟨noUser, noneAsked⟩) noWaiter other stageable).trans ?_)
        exact State.acceptStaging_idle (by exact idle) _ _ _
      · refine run ((State.settleChimes_unstageable (s := holding left) (c := c) known others 31 absent
          (left.free_iff.2 ⟨noUser, noneAsked⟩) noWaiter other bad rfl last).trans ?_)
        rw [State.updateChimes_eq, State.raise_audio]
      · have apart : w ≠ d := fun same =>
          s.audio.buffer.not_mem_without d (same ▸ waiters ▸ List.mem_cons_self : d ∈ left.waiters)
        let serving : State := (holding { left with user := some w, waiters := more }).updateChimes w fun x =>
          { x with player := .playing waiting .staging 0 }
        have serves := State.settleChimes_waiterHeld (s := holding left)
          (p := { queue := c :: kept, arrivals := (s.audio.chimes.get d).arrivals + 1, player := .idle }) apart starting
          knownWaiting (left.free_iff.2 ⟨noUser, noneAsked⟩) waiters 31 held
        have othersServing : serving.OthersSettled d :=
          State.OthersSettled.withPair (s := holding { left with user := some w, waiters := more }) others w nofun
        have enters' := State.settleChimes_behind (s := serving) (c := c) (rest := kept)
          (count := (s.audio.chimes.get d).arrivals + 1) 30 known othersServing (StagingBuffer.free_of_user (d := w) rfl)
        refine run ((serves.trans enters').trans ?_)
        have count : serving.audio.chimes.get d = s.audio.chimes.get d := PerDisplay.get_put_other _ _ (Ne.symm apart)
        refine (congrArg (fun x : PairChimes => State.withPair _ d { queue := kept, arrivals := x.arrivals + 1, player := _ })
          count.symm)
      · have apart : w ≠ d := fun same =>
          s.audio.buffer.not_mem_without d (same ▸ waiters ▸ List.mem_cons_self : d ∈ left.waiters)
        let serving : State := asking (holding { left with user := some w, asked := some waiting.clip, waiters := more })
          waiting.clip k
        have serves := State.settleChimes_waiterAsks (s := holding left)
          (p := { queue := c :: kept, arrivals := (s.audio.chimes.get d).arrivals + 1, player := .idle }) apart starting
          knownWaiting (left.free_iff.2 ⟨noUser, noneAsked⟩) waiters 31 other stageable idle
        have enters' := State.settleChimes_behind (s := serving) (c := c) (rest := kept)
          (count := (s.audio.chimes.get d).arrivals + 1) 30 known others (StagingBuffer.free_of_user (d := w) rfl)
        exact run (serves.trans enters')
  · intro left arrivals toned beep continuous gone
    have others := settled.others .front
    have offers := State.offerChime_front others playing above known resident room first (by decide)
      (StagingBuffer.settled_of gone)
    have tone : s.offerTone = if now.isParkBeep = true then (toned kept (arrivals + 1)).beepStopped
        else toned kept (arrivals + 1) := by
      rw [State.offerTone, if_neg (ne_true_of_eq_false (any_isReverseTone_eq_false noTone)), State.offerAndTell, offers]
    refine ⟨fun other => ?_, fun own isBeep within => ⟨fun pending => ?_, fun rest noBeep makes => ?_⟩⟩
    · rw [tone]
      split
      · next stopped =>
        have own : now.owner = .part ∧ now.clip = 1 := by simpa [Chime.isParkBeep] using stopped
        refine if_neg fun ⟨active, within⟩ => other ⟨own.1, own.2, active, ?_⟩
        exact s.park.isContinuous_iff.1 within
      · rfl
    · have stopped : now.isParkBeep = true := by simp [Chime.isParkBeep, own, isBeep]
      rw [tone, if_pos stopped, State.beepStopped, if_pos ⟨within.1, s.park.isContinuous_iff.2 within.2⟩]
      exact if_pos (any_isParkBeep_of pending)
    · have stopped : now.isParkBeep = true := by simp [Chime.isParkBeep, own, isBeep]
      have othersToned : (toned kept (arrivals + 1)).OthersSettled .front :=
        State.OthersSettled.withPair (s := { s with audio := { s.audio with buffer := left } }) others .front nofun
      have queues := State.offerChime_front_waits (n := 1) othersToned rfl (Nat.le_succ 5) makes
        (by decide) (StagingBuffer.settled_of gone)
      rw [tone, if_pos stopped, State.beepStopped, if_pos ⟨within.1, s.park.isContinuous_iff.2 within.2⟩, State.offerBeep]
      rw [if_neg (ne_true_of_eq_false (any_isParkBeep_eq_false noBeep)), queues]
  · intro front waits beep
    have others := settled.others .front
    refine ⟨fun noTone below room => ?_, fun noBeep room => ⟨fun below => ?_,
      fun clip above known resident first gone => ?_⟩⟩
    · have offers := State.offerChime_front_waits (n := 0) others playing below room (by decide) settled.served
      rw [State.offerTone, if_neg (ne_true_of_eq_false (any_isReverseTone_eq_false noTone)), State.offerAndTell, offers]
      rfl
    · have offers := State.offerChime_front_waits (n := 1) others playing below room (by decide) settled.served
      rw [State.offerBeep, if_neg (ne_true_of_eq_false (any_isParkBeep_eq_false noBeep)), offers]
    · have offers := State.offerChime_front others playing above known resident room first (by decide)
        (StagingBuffer.settled_of gone)
      rw [State.offerBeep, if_neg (ne_true_of_eq_false (any_isParkBeep_eq_false noBeep)), offers]

/-! ### STOP_CHIMES (R177) -/

theorem exec_stopChimes {s : State} {rec : List Byte} (arrives : Arrives s 15 rec) :
    exec .stopChimes s = .next ((ownStopChimes rec s).1.ended rec (ownStopChimes rec s).2) :=
  congrArg Host.Outcome.next (State.takeKind_of_arrives arrives ownStopChimes)

theorem exec_stopChimes_settles {s : State} {rec : List Byte} (arrives : Arrives s 15 rec) {d : Display}
    (display : displayField (byteAt rec 6) = some d) (clear : reservedClear rec [6] = true) {u : State}
    (settles : (s.dropSystemChimes d).settle = u) : exec .stopChimes s = .next (u.ended rec .done) := by
  rw [exec_stopChimes arrives, ownStopChimes, checkPair_eq_some display clear]
  exact congrArg (fun u => Host.Outcome.next (State.ended u rec .done)) settles

section
variable {s : State} {d : Display}

/-- A pair's own chime in the player, or none, stays there (R177). -/
theorem State.dropSystemChimes_own (own : ∀ c, (s.audio.chimes.get d).player.chime = some c → c.owner = .part) :
    s.dropSystemChimes d =
      s.withPair d { s.audio.chimes.get d with
        queue := (s.audio.chimes.get d).queue.filter fun c => decide (c.owner = .part) } := by
  unfold State.dropSystemChimes
  cases playing : (s.audio.chimes.get d).player.chime with
  | none => rfl
  | some c =>
    have notSystem : c.owner ≠ .system := by simp [own c playing]
    exact if_neg notSystem

/-- The SYSTEM chime in the player leaves it, and gives up the buffer (R177, R179). -/
theorem State.dropSystemChimes_system {c : Chime} (playing : (s.audio.chimes.get d).player.chime = some c)
    (system : c.owner = .system) :
    s.dropSystemChimes d =
      State.withPair { s with audio := { s.audio with buffer := s.audio.buffer.without d } } d
        { s.audio.chimes.get d with
          queue := (s.audio.chimes.get d).queue.filter fun c => decide (c.owner = .part), player := .idle } := by
  unfold State.dropSystemChimes
  simp only [playing, if_pos system]
  rw [State.leavePlayer, State.updateChimes_eq s, State.withPair_updateChimes]
  rfl

end

/-- Settles O30. -/
theorem stopChimesRemovesSystemChimes : Obligations.StopChimesRemovesSystemChimes := by
  intro s rec arrives settled
  refine ⟨fun refused => ?_, fun d display clear => ?_⟩
  · rw [exec_stopChimes arrives, ownStopChimes, checkPair_eq_none refused]
  · intro p own
    have others := settled.others d
    refine ⟨fun kept => ?_, fun c playing system => ⟨fun noneOwn noWaiter => ?_,
      fun head rest clip heads known resident notUser notWaiting => ?_⟩⟩
    · refine exec_stopChimes_settles arrives display clear ?_
      rw [State.dropSystemChimes_own kept]
      refine State.settleChimes_withPair 32 others (fun idle => ?_) settled.served
      simp [settled.players d idle]
    · refine exec_stopChimes_settles arrives display clear ?_
      rw [State.dropSystemChimes_system playing system]
      have alone : (s.audio.buffer.without d).waiters = [] := noWaiter
      refine (State.settleChimes_withPair (s := { s with audio := { s.audio with buffer := s.audio.buffer.without d } }) 32
        others (fun _ => noneOwn) fun _ => alone).trans ?_
      have queue : (s.audio.chimes.get d).queue.filter (fun c => decide (c.owner = .part)) = [] := noneOwn
      rw [State.withPair, StagingBuffer.without, noWaiter, queue]
    · refine exec_stopChimes_settles arrives display clear ?_
      rw [State.dropSystemChimes_system playing system, StagingBuffer.without_of_apart notUser notWaiting]
      have queue : (s.audio.chimes.get d).queue.filter (fun c => decide (c.owner = .part)) = head :: rest := heads
      rw [queue]
      exact State.settleChimes_resident known others settled.served 31 resident

end Sys2Proof.Machine

end

/-! ## Proofs: the camera receiver hears packets, opens frames and watches its timer (5.2, 5.3) -/
section

namespace Sys2Proof.Machine

/-! ### A report leaves the camera as it is -/

theorem State.post_withCamera (s : State) (c : Camera) (r : Report) :
    ({ s with camera := c } : State).post r = { s.post r with camera := c } := by
  have same : (({ s with camera := c } : State).post r).rw = (s.post r).rw :=
    State.post_rw_congr (s := s) (t := { s with camera := c }) rfl rfl rfl rfl r
  rw [State.post_eq s r, State.post_eq { s with camera := c } r, same]

theorem State.raise_withCamera (s : State) (c : Camera) (k : FaultKind) (n : Nat) :
    ({ s with camera := c } : State).raise k n = { s.raise k n with camera := c } := by
  have same : (({ s with camera := c } : State).raise k n).rw = (s.raise k n).rw :=
    State.raise_rw_congr (s := s) (t := { s with camera := c }) rfl rfl rfl rfl k n
  rw [State.raise_eq s k n, State.raise_eq { s with camera := c } k n, same]

theorem State.toAlign_eq (s : State) (a : Alignment) :
    s.toAlign a = { s.post (.camera a) with camera := { s.camera with align := a } } := State.post_withCamera s _ _

theorem State.closeErrored_eq (s : State) (number : Byte) :
    s.closeErrored number =
      { s.raise .cameraErrored number.toNat with camera := { s.camera with frame := none, writing := none } } :=
  State.raise_withCamera s _ _ _

theorem State.post_camera_eq (s : State) (c : Camera) (r : Report) : { s.post r with camera := c } =
    ({ s with camera := c } : State).post r := (State.post_withCamera s c r).symm

/-! ### A packet is heard (R65, R67) -/

theorem State.hearPacket_aligned {s : State} (aligned : s.camera.align ≠ .noSignal) :
    s.hearPacket = { s with camera := { s.camera with timer := some (later s.time 20000) } } := by
  rw [State.hearPacket, if_neg aligned]
  rfl

theorem State.hearPacket_noSignal {s : State} (silent : s.camera.align = .noSignal) :
    s.hearPacket =
      { s.post (.camera .search) with
        camera := { s.camera with align := .search, timer := some (later s.time 20000), candidate := none } } := by
  rw [State.hearPacket, if_pos silent, State.toAlign_eq, State.post_withCamera]
  simp only [State.startSignalTimer, State.post_time]

/-- What hearing a packet leaves of the camera (R65, R67). -/
theorem State.hearPacket_camera (s : State) :
    s.hearPacket.camera =
      { s.camera with
        timer := some (later s.time 20000)
        align := if s.camera.align = .noSignal then .search else s.camera.align
        candidate := if s.camera.align = .noSignal then none else s.camera.candidate } := by
  by_cases silent : s.camera.align = .noSignal
  · rw [State.hearPacket_noSignal silent, if_pos silent, if_pos silent]
  · rw [State.hearPacket_aligned silent, if_neg silent, if_neg silent]

theorem State.hearPacket_deferred (s : State) : s.hearPacket.camera.deferred = s.camera.deferred := by
  rw [State.hearPacket_camera]

theorem State.hearPacket_completing (s : State) : s.hearPacket.camera.completing = s.camera.completing := by
  rw [State.hearPacket_camera]

theorem State.hearPacket_frame (s : State) : s.hearPacket.camera.frame = s.camera.frame := by
  rw [State.hearPacket_camera]

theorem State.heard_eq (s : State) (waiting : List CameraPacket) :
    s.heard waiting =
      { s.hearPacket with camera := { s.hearPacket.camera with deferred := s.camera.deferred ++ waiting } } := by
  by_cases silent : s.camera.align = .noSignal
  · rw [State.heard, if_pos silent, State.hearPacket_noSignal silent, State.post_withCamera]
  · rw [State.heard, if_neg silent, State.hearPacket_aligned silent]

theorem State.heard_nil (s : State) : s.heard [] = s.hearPacket := by
  rw [State.heard_eq, List.append_nil, ← s.hearPacket_deferred]

section
variable {s : State} {p : CameraPacket}

/-- Before the receiver starts a packet is not received (R65). -/
theorem State.packetArrives_off (off : s.camera.running = false) : s.packetArrives p = s := if_pos off

/-- Behind packets that wait, or at a FRAME_START behind a capture, a packet waits (R79). -/
theorem State.packetArrives_waits (on : s.camera.running = true)
    (behind : s.camera.deferred ≠ [] ∨ (s.camera.completing.isSome = true ∧ p.isStart = true)) :
    s.packetArrives p = s.heard [p] := by
  rw [State.packetArrives, if_neg (by simp [on]), State.heard_eq]
  exact (if_pos (by rw [s.hearPacket_deferred, s.hearPacket_completing]; exact behind)).trans (by rw [s.hearPacket_deferred])

/-- With no packet waiting a packet is taken at once, but for a FRAME_START behind a capture (R79). -/
theorem State.packetArrives_taken (on : s.camera.running = true) (none : s.camera.deferred = [])
    (free : s.camera.completing = Option.none ∨ p.isStart = false) : s.packetArrives p = s.hearPacket.takeAligned p := by
  rw [State.packetArrives, if_neg (by simp [on])]
  refine if_neg ?_
  rw [s.hearPacket_deferred, s.hearPacket_completing, none]
  rintro (waiting | ⟨capture, start⟩)
  · exact waiting rfl
  · obtain done | notStart := free
    · simp [done] at capture
    · simp [notStart] at start

end

theorem State.closeErrored_heard (s : State) (aligned : s.camera.align ≠ .noSignal) (number : Byte) :
    s.hearPacket.closeErrored number =
      { s.raise .cameraErrored number.toNat with
        camera := { s.camera with timer := some (later s.time 20000), frame := none, writing := none } } := by
  rw [State.closeErrored_eq, State.hearPacket_aligned aligned, State.raise_withCamera]

/-! ### A frame opens (R68, R71, R78) -/

theorem Camera.freeBuffer_eq {c : Camera} {k : Fin 3} (free : ¬ (c.newest.map Prod.fst = some k ∨ c.displaying = some k))
    (lowest : ∀ j, j < k → c.newest.map Prod.fst = some j ∨ c.displaying = some j) : c.freeBuffer = k := by
  have isFree (j : Fin 3) : decide (c.newest.map Prod.fst = some j ∨ c.displaying = some j) = false ↔
      ¬ (c.newest.map Prod.fst = some j ∨ c.displaying = some j) := decide_eq_false_iff_not
  unfold Camera.freeBuffer
  match k, free, lowest with
  | 0, free, _ => exact if_pos ((isFree 0).2 free)
  | 1, free, lowest =>
    exact (if_neg fun other => (isFree 0).1 other (lowest 0 (by decide))).trans (if_pos ((isFree 1).2 free))
  | 2, _, lowest =>
    exact (if_neg fun other => (isFree 0).1 other (lowest 0 (by decide))).trans
      (if_neg fun other => (isFree 1).1 other (lowest 1 (by decide)))

/-- The camera as a FRAME_START that is taken opens its frame in buffer `k` (R68, R78). -/
def Camera.opened (c : Camera) (number : Byte) (k : Fin 3) : Camera :=
  { c with
    writing := some k, previous := some number
    frame := some
      { number := number, expected := 0, concealed := 0, inOrder := true, lumaSum := 0
        jumped := match c.previous with
          | none => false
          | some p => decide (number ≠ p + 1)
        rowAbove := none } }

theorem Camera.openFrame_eq {c : Camera} {k : Fin 3} (free : c.freeBuffer = k) (number : Byte) :
    c.openFrame number = c.opened number k := by
  rw [Camera.openFrame, free]
  rfl

section
variable {s : State} (number : Byte)

theorem State.takeFrameStart_ofAligned (none : s.camera.frame = none) (aligned : s.camera.align ≠ .search) :
    s.takeFrameStart number = { s with camera := s.camera.openFrame number } := by
  simp only [State.takeFrameStart, State.endOpenFrame, none, if_neg aligned]

theorem State.takeFrameStart_ofSearch (none : s.camera.frame = none) (search : s.camera.align = .search) :
    s.takeFrameStart number =
      { s.post (.camera .verify) with
        camera := Camera.openFrame { s.camera with align := .verify, goodRun := 0 } number } := by
  simp only [State.takeFrameStart, State.endOpenFrame, none, search, if_true, State.toAlign_eq, State.post_withCamera]

/-- A frame still open is ended as errored before the next one opens (R68, R71). -/
theorem State.takeFrameStart_ofOpen {f : OpenFrame} (isOpen : s.camera.frame = some f)
    (aligned : ((s.closeErrored f.number).countErrored).camera.align ≠ .search) :
    s.takeFrameStart number =
      { (s.closeErrored f.number).countErrored with
        camera := (s.closeErrored f.number).countErrored.camera.openFrame number } := by
  simp only [State.takeFrameStart, State.endOpenFrame, isOpen, if_neg aligned]

theorem State.takeFrameStart_ofOpenFourth {f : OpenFrame} (isOpen : s.camera.frame = some f)
    (search : ((s.closeErrored f.number).countErrored).camera.align = .search) :
    s.takeFrameStart number =
      { ((s.closeErrored f.number).countErrored).post (.camera .verify) with
        camera := Camera.openFrame
          { (s.closeErrored f.number).countErrored.camera with align := .verify, goodRun := 0 } number } := by
  simp only [State.takeFrameStart, State.endOpenFrame, isOpen, search, if_true, State.toAlign_eq, State.post_withCamera]

end

/-! ### Errored frames count (R72, R73, R86) -/

theorem State.countErrored_verify {s : State} (verify : s.camera.align = .verify) :
    s.countErrored = { s with camera := { s.camera with goodRun := 0 } } := by
  simp only [State.countErrored, verify]

theorem State.countErrored_locked {s : State} (locked : s.camera.align = .locked) (few : s.camera.erroredRun < 3) :
    s.countErrored = { s with camera := { s.camera with erroredRun := s.camera.erroredRun + 1, candidate := none } } := by
  have notFour : ¬ 4 ≤ s.camera.erroredRun + 1 := by omega
  simp only [State.countErrored, locked, if_neg notFour]

theorem State.countErrored_fourth {s : State} (locked : s.camera.align = .locked) (three : 3 ≤ s.camera.erroredRun) :
    s.countErrored =
      { s.post (.camera .search) with
        camera :=
          { s.camera with align := .search, previous := none, goodRun := 0, erroredRun := 0, candidate := none } } := by
  have four : 4 ≤ s.camera.erroredRun + 1 := by omega
  simp only [State.countErrored, locked, if_pos four, State.toAlign_eq, State.post_withCamera]
  rfl

/-! ### FRAME_START -/

theorem FaultRaised.of_rw {s t u : State} {k : FaultKind} {detail : Nat} (h : FaultRaised k detail s u) (rw : t.rw = u.rw) :
    FaultRaised k detail s t := by
  rw [FaultRaised, rw]
  exact h

/-- Settles O38. -/
theorem frameStartOpensFrame : Obligations.FrameStartOpensFrame := by
  intro s number on noneWaits timer opened used
  have run : exec (.frameStart number) s = .next (s.packetArrives (.frameStart number)) := rfl
  have waits (capture : s.camera.completing ≠ none) :
      exec (.frameStart number) s = .next (s.heard [.frameStart number]) := by
    rw [run, State.packetArrives_waits on (.inr ⟨Option.isSome_iff_ne_none.2 capture, rfl⟩)]
  refine ⟨fun aligned capture => ?_, fun silent capture => ?_, fun k free lowest noCapture => ?_⟩
  · rw [waits capture, State.heard, if_neg aligned, noneWaits]
    rfl
  · rw [waits capture, State.heard, if_pos silent, noneWaits]
    rfl
  · have taken : exec (.frameStart number) s = .next (s.hearPacket.takeFrameStart number) :=
      run.trans (congrArg Host.Outcome.next (State.packetArrives_taken on noneWaits (.inl noCapture)))
    have within : Within [.camera, .rw] s (s.hearPacket.takeFrameStart number) := by
      have all := s.packetArrives_within (.frameStart number)
      rw [State.packetArrives_taken on noneWaits (.inl noCapture)] at all
      exact all
    have lowestFree {c : Camera} (newest : c.newest = s.camera.newest) (displaying : c.displaying = s.camera.displaying) :
        c.openFrame number = opened c k := by
      refine Camera.openFrame_eq (Camera.freeBuffer_eq ?_ ?_) number
      · rw [newest, displaying]
        exact free
      · rw [newest, displaying]
        exact lowest
    refine ⟨fun noFrame aligned => ?_, fun noFrame unaligned => ?_, fun f isOpen aligned => ?_, fun f isOpen locked three => ?_⟩
    · have heard := State.hearPacket_aligned (s := s) (by obtain a | a := aligned <;> simp [a])
      rw [taken, heard, State.takeFrameStart_ofAligned number (by exact noFrame) (by obtain a | a := aligned <;> simp [a])]
      exact congrArg (fun c => Host.Outcome.next { s with camera := c })
        (lowestFree (c := { s.camera with timer := timer }) rfl rfl)
    · have frame : s.hearPacket.camera.frame = none := s.hearPacket_frame.trans noFrame
      have search : s.hearPacket.camera.align = .search := by
        rw [State.hearPacket_camera]
        obtain a | a := unaligned <;> simp [a]
      have opens := State.takeFrameStart_ofSearch number frame search
      refine ⟨_, taken, ?_, ?_, within⟩
      · rw [opens, State.hearPacket_camera]
        exact lowestFree rfl rfl
      · rw [opens]
        obtain a | a := unaligned
        · rw [if_pos a, State.hearPacket_aligned (by simp [a]), State.post_withCamera]
        · rw [if_neg (by simp [a]), State.hearPacket_noSignal a, State.post_withCamera]
    · have notSilent : s.camera.align ≠ .noSignal := by obtain a | ⟨a, -⟩ := aligned <;> simp [a]
      have frame : s.hearPacket.camera.frame = some f := s.hearPacket_frame.trans isOpen
      have closes := s.closeErrored_heard notSilent f.number
      have raised := s.raise_faultRaised .cameraErrored f.number.toNat
      obtain verify | ⟨locked, few⟩ := aligned
      · have counts := State.countErrored_verify (congrArg (fun u : State => u.camera.align) closes |>.trans verify)
        have opens := State.takeFrameStart_ofOpen number frame (by rw [counts, closes]; simp [verify])
        refine ⟨_, taken, ?_, raised.of_rw ?_, within⟩
        · rw [opens, counts, closes, if_pos verify, if_pos verify, if_pos verify]
          exact lowestFree rfl rfl
        · rw [opens, counts, closes]
      · have counts := State.countErrored_locked (congrArg (fun u : State => u.camera.align) closes |>.trans locked)
          (by rw [closes]; exact few)
        have opens := State.takeFrameStart_ofOpen number frame (by rw [counts, closes]; simp [locked])
        have notVerify : s.camera.align ≠ .verify := by simp [locked]
        refine ⟨_, taken, ?_, raised.of_rw ?_, within⟩
        · rw [opens, counts, closes, if_neg notVerify, if_neg notVerify, if_neg notVerify]
          exact lowestFree rfl rfl
        · rw [opens, counts, closes]
    · have frame : s.hearPacket.camera.frame = some f := s.hearPacket_frame.trans isOpen
      have closes := s.closeErrored_heard (by simp [locked]) f.number
      have counts := State.countErrored_fourth (congrArg (fun u : State => u.camera.align) closes |>.trans locked)
        (by rw [closes]; exact three)
      have opens := State.takeFrameStart_ofOpenFourth number frame (by rw [counts])
      refine ⟨_, taken, ?_, ?_, within⟩
      · rw [opens, counts, closes]
        exact lowestFree rfl rfl
      · rw [opens, counts, closes]
        simp only [State.post_withCamera]

end Sys2Proof.Machine

end

/-! ## Proofs: the signal timer, and level control (5.3, 5.8) -/
section

namespace Sys2Proof.Machine

/-! ### The signal timer (R65, R67) -/

theorem exec_signalTimerExpiry_early {s : State} {deadline : Time} (timer : s.camera.timer = some deadline)
    (early : (s.time - deadline).toInt < 0) : exec .signalTimerExpiry s = .next s := by
  have notDue : dueNow s.time s.camera.timer ≠ true := by
    rw [timer]
    simpa [dueNow, reached] using early
  exact if_neg fun ⟨_, _, due⟩ => notDue due

section
variable {s : State} {deadline : Time} (on : s.camera.running = true) (aligned : s.camera.align ≠ .noSignal)
  (timer : s.camera.timer = some deadline) (due : 0 ≤ (s.time - deadline).toInt)
include on aligned timer due

/-- 20 ms of silence give NO_SIGNAL, an open frame being ended as errored (R67, R71). -/
theorem exec_signalTimerExpiry_due {u : State}
    (closed : (match s.camera.frame with
      | none => s
      | some f => s.closeErrored f.number) = u) :
    exec .signalTimerExpiry s =
      .next { u.post (.camera .noSignal) with
        camera := { u.camera with
          align := .noSignal, timer := none, previous := none, goodRun := 0, erroredRun := 0, candidate := none } } := by
  have isDue : dueNow s.time s.camera.timer = true := by
    rw [timer]
    simpa [dueNow, reached] using due
  subst closed
  have run : exec .signalTimerExpiry s = _ := if_pos ⟨on, aligned, isDue⟩
  rw [run, State.toAlign_eq, State.post_withCamera]
  rfl

end

/-- Settles O41. -/
theorem signalTimerWatchesPackets : Obligations.SignalTimerWatchesPackets := by
  refine ⟨fun s bytes on none other => ?_, fun s bytes notOther => ?_, fun s deadline on aligned timer => ?_⟩
  · have run : exec (.otherCameraPacket bytes) s = .next s.hearPacket :=
      (if_pos other).trans (congrArg Host.Outcome.next (State.packetArrives_taken on none (.inr rfl)))
    refine ⟨fun aligned => ?_, fun silent => ?_⟩
    · rw [run, State.hearPacket_aligned aligned]
    · rw [run, State.hearPacket_noSignal silent]
      exact congrArg Host.Outcome.next (State.post_withCamera s _ _).symm
  · exact if_neg (by simp [notOther])
  · refine ⟨exec_signalTimerExpiry_early timer, fun due noFrame => ?_, fun f due isOpen => ?_⟩
    · have run := exec_signalTimerExpiry_due on aligned timer due (u := s) (by simp only [noFrame])
      rw [run]
      refine congrArg Host.Outcome.next ((State.post_withCamera s _ _).symm.trans ?_)
      simp only [noFrame]
    · have run := exec_signalTimerExpiry_due on aligned timer due (u := s.closeErrored f.number) (by simp only [isOpen])
      refine ⟨_, run, ?_, ?_, ?_⟩
      · rw [State.closeErrored_eq]
      · rw [State.closeErrored_eq, State.post_withCamera]
      · exact ((s.closeErrored_within f.number).trans ((State.post_within _ _).mono (by decide))).trans
          ((within_camera _ _).mono (by decide))

/-! ### Level control (R83 to R86) -/

theorem clampInt_eq (lo hi v : Int) (ordered : lo ≤ hi) : clampInt lo hi v = min hi (max lo v) := by
  unfold clampInt
  split
  · omega
  · split <;> omega

theorem clampNat_eq (lo hi v : Nat) (ordered : lo ≤ hi) : clampNat lo hi v = max lo (min hi v) := by
  unfold clampNat
  split
  · omega
  · split <;> omega

theorem predictedMean_eq (mean : Int) (gain : Nat) :
    predictedMean mean gain = min 235 (max 16 (16 + ((mean - 16) * gain + 8) / 16)) := clampInt_eq _ _ _ (by decide)

section
variable {cfg : CameraConfig} {fresh : Bool} {gain : Nat} {candidate : Option Direction} {mean : Nat}

theorem levelAfter_fast
    (fast : fresh = true ∨ predictedMean mean gain < cfg.dLo ∨ (cfg.dHi : Int) < predictedMean mean gain) :
    levelAfter cfg fresh gain candidate mean = (fastGain cfg mean, none) := if_pos fast

variable (slow : ¬ (fresh = true ∨ predictedMean mean gain < cfg.dLo ∨ (cfg.dHi : Int) < predictedMean mean gain))
include slow

theorem levelAfter_up (below : predictedMean mean gain < cfg.tLo) :
    levelAfter cfg fresh gain candidate mean = deltaLevel gain candidate .up := (if_neg slow).trans (if_pos below)

theorem levelAfter_down (inside : (cfg.tLo : Int) ≤ predictedMean mean gain) (above : (cfg.tHi : Int) < predictedMean mean gain) :
    levelAfter cfg fresh gain candidate mean = deltaLevel gain candidate .down :=
  (if_neg slow).trans ((if_neg (Int.not_lt.2 inside)).trans (if_pos above))

theorem levelAfter_held (inside : (cfg.tLo : Int) ≤ predictedMean mean gain) (within : predictedMean mean gain ≤ cfg.tHi) :
    levelAfter cfg fresh gain candidate mean = (gain, none) :=
  (if_neg slow).trans ((if_neg (Int.not_lt.2 inside)).trans (if_neg (Int.not_lt.2 within)))

end

/-! ### A capture completes (R79) -/

/-- A capture whose writes are granted completes, and the packets that waited for it are taken (R79). -/
theorem exec_captureComplete {s : State} {lumaSum : Nat} (completing : s.camera.completing = some lumaSum)
    (granted : s.camera.queue = []) :
    exec .captureComplete s =
      .next (State.takeDeferred s.camera.deferred
        { s with camera := { s.camera.complete s.time lumaSum with deferred := [] } }) := by
  change execCaptureComplete s = _
  unfold execCaptureComplete
  simp only [completing, granted, if_true]

/-- With no packet waiting a capture that completes is newest and sets the gain (R79, R83). -/
theorem exec_captureComplete_level {s : State} {lumaSum : Nat} (completing : s.camera.completing = some lumaSum)
    (granted : s.camera.queue = []) (none : s.camera.deferred = []) {gain : Nat} {candidate : Option Direction}
    (level : levelAfter s.camera.config s.camera.freshLock s.camera.gain s.camera.candidate (lumaSum / 230400) =
      (gain, candidate)) :
    exec .captureComplete s =
      .next { s with
        camera := { s.camera with
          newest := s.camera.writing.map fun k => (k, s.time), writing := Option.none, completing := Option.none
          gain := gain, candidate := candidate, freshLock := false } } := by
  have level' : s.camera.complete s.time lumaSum =
      { s.camera with
        newest := s.camera.writing.map fun k => (k, s.time), writing := Option.none, completing := Option.none
        gain := gain, candidate := candidate, freshLock := false } := by
    rw [Camera.complete, Camera.level]
    simp only [level]
  rw [exec_captureComplete completing granted, none, level']
  simp only [none]
  rfl

/-- Settles O42. -/
theorem captureCompletesAndSetsGain : Obligations.CaptureCompletesAndSetsGain := by
  intro s lumaSum completing
  refine ⟨fun waits => ?_, fun granted none low high => ?_, fun number u k granted deferred noFrame run => ?_⟩
  · change execCaptureComplete s = _
    unfold execCaptureComplete
    simp only [completing, waits, if_false]
  · intro mean cfg aim predicted fast after
    have prediction : predictedMean mean s.camera.gain = predicted := predictedMean_eq _ _
    have isFast : fast ↔ (s.camera.freshLock = true ∨ predictedMean mean s.camera.gain < cfg.dLo ∨
        (cfg.dHi : Int) < predictedMean mean s.camera.gain) := by rw [prediction]
    have run {gain : Nat} {candidate : Option Direction}
        (level : levelAfter cfg s.camera.freshLock s.camera.gain s.camera.candidate mean = (gain, candidate)) :
        exec .captureComplete s = .next (after gain candidate) :=
      exec_captureComplete_level completing granted none level
    refine ⟨fun quick dark => run ?_, fun quick light => run ?_, fun slow below => ?_, fun slow inside above => ?_,
      fun slow inside within => run (levelAfter_held (fun f => slow (isFast.2 f)) (by rwa [prediction]) (by rwa [prediction]))⟩
    · rw [levelAfter_fast (isFast.1 quick), fastGain, if_pos dark]
    · rw [levelAfter_fast (isFast.1 quick), fastGain, if_neg (Nat.not_le.2 light), clampNat_eq _ _ _ (by decide)]
    · have up := levelAfter_up (candidate := s.camera.candidate) (fun f => slow (isFast.2 f)) (by rwa [prediction])
      have step : clampNat 16 63 (s.camera.gain + 1) = min 63 (s.camera.gain + 1) := by
        rw [clampNat_eq _ _ _ (by decide)]
        omega
      rw [deltaLevel, stepGain, step] at up
      split
      · next second => exact run (up.trans (if_pos second))
      · next first => exact run (up.trans (if_neg first))
    · have down := levelAfter_down (candidate := s.camera.candidate) (fun f => slow (isFast.2 f)) (by rwa [prediction])
        (by rwa [prediction])
      have step : clampNat 16 63 (s.camera.gain - 1) = max 16 (s.camera.gain - 1) := by
        rw [clampNat_eq _ _ _ (by decide)]
        omega
      rw [deltaLevel, stepGain, step] at down
      split
      · next second => exact run (down.trans (if_pos second))
      · next first => exact run (down.trans (if_neg first))
  · have completed : u = { s with camera := { s.camera.complete s.time lumaSum with deferred := [] } } := by
      have alone := exec_captureComplete (s := { s with camera := { s.camera with deferred := [] } }) completing granted
      rw [alone] at run
      exact (Host.Outcome.next.inj run).symm
    have taken : exec .captureComplete s = .next (u.takePacket (.frameStart number)) := by
      rw [exec_captureComplete completing granted, deferred, completed]
      rfl
    have noFrame' : u.camera.frame = none := by
      rw [completed]
      exact noFrame
    have align : u.camera.align = s.camera.align := by rw [completed]; rfl
    have time : u.time = s.time := by rw [completed]
    have within : Within [.camera, .rw] s (u.takePacket (.frameStart number)) := by
      have all := execCaptureComplete_within s
      change NextWithin _ s (exec .captureComplete s) at all
      rw [taken] at all
      exact all _ rfl
    intro used free lowest opened
    have lowestFree {c : Camera} (newest : c.newest = u.camera.newest) (displaying : c.displaying = u.camera.displaying) :
        c.openFrame number = opened c := by
      refine Camera.openFrame_eq (Camera.freeBuffer_eq ?_ ?_) number
      · rw [newest, displaying]
        exact free
      · rw [newest, displaying]
        exact lowest
    refine ⟨fun aligned => ?_, fun search => ?_, fun silent => ?_⟩
    · have notSilent : u.camera.align ≠ .noSignal := by rw [align]; obtain a | a := aligned <;> simp [a]
      have notSearch : u.camera.align ≠ .search := by rw [align]; obtain a | a := aligned <;> simp [a]
      rw [taken, State.takePacket, if_neg notSilent]
      refine congrArg Host.Outcome.next ((State.takeFrameStart_ofAligned number noFrame' notSearch).trans ?_)
      exact congrArg (fun c => { u with camera := c }) (lowestFree (c := u.camera) rfl rfl)
    · have notSilent : u.camera.align ≠ .noSignal := by rw [align]; simp [search]
      have opens : u.takePacket (.frameStart number) = _ :=
        (if_neg notSilent).trans (State.takeFrameStart_ofSearch number noFrame' (align.trans search))
      refine ⟨_, taken, ?_, ?_, within⟩
      · rw [opens]
        exact lowestFree rfl rfl
      · rw [opens]
    · have opens : u.takePacket (.frameStart number) = _ :=
        (if_pos (align.trans silent)).trans
          (State.takeFrameStart_ofSearch number (u.hearPacket_frame.trans noFrame')
            (by rw [State.hearPacket_noSignal (align.trans silent)]))
      refine ⟨_, taken, ?_, ?_, within⟩
      · rw [opens, State.hearPacket_noSignal (align.trans silent), time]
        exact lowestFree rfl rfl
      · rw [opens, State.hearPacket_noSignal (align.trans silent), State.post_withCamera]

end Sys2Proof.Machine

end

/-! ## Proofs: lines of a camera frame are taken and concealed (5.3, 5.4) -/
section

namespace Sys2Proof.Machine

/-! ### What a row adds to the luma sum (R77) -/

theorem lumaSumOf_eq (bytes : List Byte) (k : Nat) (short : bytes.length ≤ 2 * k) :
    lumaSumOf bytes = ((List.range k).map fun i => if 2 * i + 1 < bytes.length then byteAt bytes (2 * i) else 0).sum := by
  induction k generalizing bytes with
  | zero =>
    obtain rfl := List.eq_nil_of_length_eq_zero (Nat.le_zero.1 short)
    rfl
  | succ k ih =>
    rw [List.range_succ_eq_map, List.map_cons, List.sum_cons, List.map_map]
    match bytes, short with
    | [], _ => simp [lumaSumOf, Function.comp_def]
    | [y], _ =>
      have nothing : ∀ i ∈ List.range k,
          ((fun i => if 2 * i + 1 < [y].length then byteAt [y] (2 * i) else 0) ∘ Nat.succ) i = 0 := fun i _ => by
        simp
      rw [List.map_congr_left nothing]
      simp [lumaSumOf]
    | y :: u :: rest, short =>
      have later : ∀ i ∈ List.range k,
          ((fun i => if 2 * i + 1 < (y :: u :: rest).length then byteAt (y :: u :: rest) (2 * i) else 0) ∘ Nat.succ) i =
            if 2 * i + 1 < rest.length then byteAt rest (2 * i) else 0 := fun i _ => by
        have index : 2 * Nat.succ i = 2 * i + 1 + 1 := by omega
        simp [index, byteAt]
      rw [List.map_congr_left later, lumaSumOf, ih rest (by simp at short; omega)]
      simp [byteAt]

theorem measuredLuma_eq (row : Nat) (out : List Byte) : measuredLuma row out = rowLuma row out := by
  unfold measuredLuma rowLuma
  split
  · rw [lumaSumOf_eq _ 640 (by simp)]
    refine congrArg List.sum (List.map_congr_left fun i mem => ?_)
    have inRow := List.mem_range.1 mem
    have same : (2 * i + 1 < ((out.drop 640).take 1280).length) = (641 + 2 * i < out.length) := by
      simp only [List.length_take, List.length_drop, eq_iff_iff]
      omega
    rw [if_congr (iff_of_eq same) rfl rfl]
    refine if_congr Iff.rfl ?_ rfl
    simp only [byteAt, List.getD_eq_getElem?_getD]
    rw [List.getElem?_take_of_lt (by omega), List.getElem?_drop]
  · rfl

/-! ### The rows of a gap (R75, R76) -/

theorem CameraConfig.rowsOf_eq (c : CameraConfig) (first n : Nat) :
    c.rowsOf first (first + n) =
      ((List.range' first n).filter fun i => decide (c.cropRow ≤ i ∧ i < c.cropRow + 720)).map fun i => i - c.cropRow := by
  have early : (List.range first).filter (fun i => decide (first ≤ i ∧ c.cropRow ≤ i ∧ i < c.cropRow + 720)) = [] :=
    List.filter_eq_nil_iff.2 fun i mem => by
      have := List.mem_range.1 mem
      simp
      omega
  have late : (List.range' first n).filter (fun i => decide (first ≤ i ∧ c.cropRow ≤ i ∧ i < c.cropRow + 720)) =
      (List.range' first n).filter fun i => decide (c.cropRow ≤ i ∧ i < c.cropRow + 720) :=
    List.filter_congr fun i mem => by
      have := (List.mem_range'_1.1 mem).1
      simp [this]
  have split : List.range (first + n) = List.range first ++ List.range' first n := by
    rw [List.range_eq_range', List.range_eq_range', ← List.range'_append_1]
    simp
  rw [CameraConfig.rowsOf, split, List.filter_append, early, late]
  rfl

theorem CameraConfig.rowsOf_of_le (c : CameraConfig) {first last : Nat} (h : last ≤ first) : c.rowsOf first last = [] := by
  have none : (List.range last).filter (fun i => decide (first ≤ i ∧ c.cropRow ≤ i ∧ i < c.cropRow + 720)) = [] :=
    List.filter_eq_nil_iff.2 fun i mem => by
      have := List.mem_range.1 mem
      simp
      omega
  rw [CameraConfig.rowsOf, none]
  rfl

theorem CameraConfig.rowsOf_inCrop (c : CameraConfig) {e : Nat} (inCrop : c.cropRow ≤ e ∧ e < c.cropRow + 720) (n : Nat) :
    c.rowsOf e (e + (n + 1)) = (e - c.cropRow) :: c.rowsOf (e + 1) (e + 1 + n) := by
  rw [c.rowsOf_eq, c.rowsOf_eq, List.range'_succ, List.filter_cons_of_pos (by simpa using inCrop)]
  rfl

theorem CameraConfig.rowsOf_outside (c : CameraConfig) {e : Nat} (outside : ¬ (c.cropRow ≤ e ∧ e < c.cropRow + 720)) (n : Nat) :
    c.rowsOf e (e + (n + 1)) = c.rowsOf (e + 1) (e + 1 + n) := by
  rw [c.rowsOf_eq, c.rowsOf_eq, List.range'_succ, List.filter_cons_of_neg (by simpa using outside)]

/-! ### A line is put into the capture buffer (R75 to R77) -/

/-- The camera is in the middle of the capture that `s` holds: area, buffer and configuration are those of `s`. -/
structure Camera.CapturesFor (c : Camera) (s : State) : Prop where
  config : c.config = s.camera.config
  writing : c.writing = s.camera.writing

theorem Camera.CapturesFor.of_eq {c : Camera} {s : State} (h : c.CapturesFor s) (q : List DeviceWrite) (f : Option OpenFrame) :
    Camera.CapturesFor { c with queue := q, frame := f } s := ⟨h.config, h.writing⟩

theorem Camera.putLine_inCrop {c : Camera} {s : State} (h : c.CapturesFor s) (f : OpenFrame) {raw : Nat}
    (inCrop : s.camera.config.cropRow ≤ raw ∧ raw < s.camera.config.cropRow + 720) (bytes : Option (List Byte)) {out : List Byte}
    (written : (match bytes with
      | some payload => s.camera.config.cropRowBytes payload
      | none => f.above) = out) :
    c.putLine s.cameraArea f raw bytes =
      { c with
        queue := c.queue ++ s.rowWrites (raw - s.camera.config.cropRow) out
        frame := some
          { f with lumaSum := f.lumaSum + rowLuma (raw - s.camera.config.cropRow) out, rowAbove := some out } } := by
  subst written
  unfold Camera.putLine State.rowWrites
  rw [h.config, if_pos inCrop, h.writing]
  simp only [← measuredLuma_eq]
  cases bytes <;> rfl

theorem Camera.putLine_outside {c : Camera} {s : State} (h : c.CapturesFor s) (f : OpenFrame) {raw : Nat}
    (outside : ¬ (s.camera.config.cropRow ≤ raw ∧ raw < s.camera.config.cropRow + 720)) (bytes : Option (List Byte)) :
    c.putLine s.cameraArea f raw bytes = { c with frame := some f } := by
  unfold Camera.putLine
  rw [h.config, if_neg outside]

/-! ### Lines are concealed (R69, R76) -/

theorem OpenFrame.concealedTo_same (f : OpenFrame) (cfg : CameraConfig) : f.concealedTo cfg f.expected = f := by
  simp [OpenFrame.concealedTo, cfg.rowsOf_of_le (Nat.le_refl _)]

theorem State.concealing_same (s : State) (f : OpenFrame) : s.concealing f f.expected = [] := by
  rw [State.concealing, CameraConfig.rowsOf_of_le _ (Nat.le_refl _)]
  rfl

/-- Concealing the lines of a gap writes the row above it, or black, into each of their rows (R76). -/
theorem Camera.concealLines_eq (s : State) (n : Nat) {c : Camera} (captures : c.CapturesFor s) {f : OpenFrame}
    (frame : c.frame = some f) :
    Camera.concealLines n s.cameraArea f.expected c =
      { c with
        queue := c.queue ++ s.concealing f (f.expected + n)
        frame := some (f.concealedTo s.camera.config (f.expected + n)) } := by
  induction n generalizing c f with
  | zero =>
    rw [Nat.add_zero, State.concealing_same, OpenFrame.concealedTo_same, List.append_nil, ← frame]
    rfl
  | succ n ih =>
    have next : Camera.concealLines (n + 1) s.cameraArea f.expected c = Camera.concealLines n s.cameraArea (f.expected + 1)
        (c.putLine s.cameraArea { f with concealed := f.concealed + 1, expected := f.expected + 1 } f.expected none) := by
      rw [Camera.concealLines, frame]
    have count : f.concealed + 1 + (f.expected + 1 + n - (f.expected + 1)) =
        f.concealed + (f.expected + (n + 1) - f.expected) := by omega
    have last : f.expected + 1 + n = f.expected + (n + 1) := by omega
    have steps {g : OpenFrame} {w : List DeviceWrite} (expected : g.expected = f.expected + 1)
        (puts : c.putLine s.cameraArea { f with concealed := f.concealed + 1, expected := f.expected + 1 } f.expected none =
          { c with queue := c.queue ++ w, frame := some g })
        (writes : s.concealing f (f.expected + (n + 1)) = w ++ s.concealing g (g.expected + n))
        (frames : f.concealedTo s.camera.config (f.expected + (n + 1)) = g.concealedTo s.camera.config (g.expected + n)) :
        Camera.concealLines (n + 1) s.cameraArea f.expected c =
          { c with
            queue := c.queue ++ s.concealing f (f.expected + (n + 1))
            frame := some (f.concealedTo s.camera.config (f.expected + (n + 1))) } := by
      rw [next, puts, writes, frames, ← expected, ← List.append_assoc]
      exact ih (captures.of_eq _ _) rfl
    by_cases inCrop : s.camera.config.cropRow ≤ f.expected ∧ f.expected < s.camera.config.cropRow + 720
    · let g : OpenFrame :=
        { f with
          concealed := f.concealed + 1, expected := f.expected + 1
          lumaSum := f.lumaSum + rowLuma (f.expected - s.camera.config.cropRow) f.above, rowAbove := some f.above }
      have rows := s.camera.config.rowsOf_inCrop inCrop n
      refine steps (g := g) rfl (Camera.putLine_inCrop captures _ inCrop none rfl) ?_ ?_
      · rw [State.concealing, State.concealing, rows]
        rfl
      · simp only [OpenFrame.concealedTo, rows, g, OpenFrame.mk.injEq, List.map_cons, List.sum_cons, true_and]
        refine ⟨last.symm, count.symm, (Nat.add_assoc _ _ _).symm, ?_⟩
        split
        · next none => exact absurd none (List.cons_ne_nil _ _)
        · split <;> rfl
    · let g : OpenFrame := { f with concealed := f.concealed + 1, expected := f.expected + 1 }
      have rows := s.camera.config.rowsOf_outside inCrop n
      refine steps (g := g) (w := []) rfl ?_ ?_ ?_
      · rw [Camera.putLine_outside captures _ inCrop none, List.append_nil]
      · rw [State.concealing, State.concealing, rows]
        rfl
      · simp only [OpenFrame.concealedTo, rows, g, OpenFrame.mk.injEq, true_and]
        exact ⟨last.symm, count.symm, rfl, rfl⟩

end Sys2Proof.Machine

end

/-! ## Proofs: LINE and FRAME_END (5.3, 5.4) -/
section

namespace Sys2Proof.Machine

/-! ### The output row of a raw line (R75) -/

theorem mirrorPairs_append (cut acc : List Byte) : mirrorPairs acc cut = mirrorPairs [] cut ++ acc := by
  match cut with
  | [] | [_] | [_, _] | [_, _, _] => simp [mirrorPairs]
  | y0 :: u :: y1 :: v :: rest =>
    rw [mirrorPairs, mirrorPairs, mirrorPairs_append rest, mirrorPairs_append rest [y1, u, y0, v], List.append_assoc]
    rfl
termination_by cut.length

theorem length_mirrorPairs (m : Nat) {cut : List Byte} (length : cut.length = 4 * m) : (mirrorPairs [] cut).length = 4 * m := by
  induction m generalizing cut with
  | zero =>
    obtain rfl := List.eq_nil_of_length_eq_zero length
    rfl
  | succ m ih =>
    match cut, length with
    | y0 :: u :: y1 :: v :: rest, length =>
      rw [mirrorPairs, mirrorPairs_append, List.length_append, ih (by simp at length; omega)]
      rfl

/-- Mirroring reverses the pairs and exchanges the two luma bytes of each (R75). -/
theorem getD_mirrorPairs (m : Nat) {cut : List Byte} (length : cut.length = 4 * m) {i : Nat} (inRow : i < 4 * m) :
    (mirrorPairs [] cut).getD i 0 =
      cut.getD (4 * (m - 1 - i / 4) + (if i % 4 = 0 then 2 else if i % 4 = 2 then 0 else i % 4)) 0 := by
  induction m generalizing cut i with
  | zero => omega
  | succ m ih =>
    match cut, length with
    | y0 :: u :: y1 :: v :: rest, length =>
      have restLength : rest.length = 4 * m := by simp at length; omega
      rw [mirrorPairs, mirrorPairs_append]
      by_cases early : i < 4 * m
      · rw [List.getD_append _ _ _ _ (by rwa [length_mirrorPairs m restLength]), ih restLength early]
        have index : 4 * (m + 1 - 1 - i / 4) = 4 * (m - 1 - i / 4) + 4 := by omega
        rw [index, show ∀ a b, a + 4 + b = a + b + 1 + 1 + 1 + 1 by intros; omega]
        rfl
      · rw [List.getD_append_right _ _ _ _ (by rw [length_mirrorPairs m restLength]; omega), length_mirrorPairs m restLength]
        obtain ⟨j, rfl⟩ := Nat.exists_eq_add_of_le (Nat.not_lt.1 early)
        have last : 4 * (m + 1 - 1 - (4 * m + j) / 4) = 0 := by omega
        have place : (4 * m + j) % 4 = j := by omega
        rw [last, place, Nat.add_sub_cancel_left, Nat.zero_add]
        match j, (by omega : j < 4) with
        | 0, _ | 1, _ | 2, _ | 3, _ => rfl

/-- The row of a raw line is cut out of it, and mirrored where the configuration says so (R75). -/
theorem CameraConfig.cropRowBytes_spec (c : CameraConfig) (col : c.cropCol ≤ 64) {payload : List Byte}
    (length : payload.length = 2688) :
    (c.cropRowBytes payload).length = 2560 ∧ ∀ i, i < 2560 → (c.cropRowBytes payload).getD i 0 =
      if c.mirror then
        payload.getD (2 * c.cropCol + 4 * (639 - i / 4) + (if i % 4 = 0 then 2 else if i % 4 = 2 then 0 else i % 4)) 0
      else payload.getD (2 * c.cropCol + i) 0 := by
  have cutLength : ((payload.drop (2 * c.cropCol)).take 2560).length = 4 * 640 := by
    simp [length]
    omega
  have cut {j : Nat} (inRow : j < 2560) : ((payload.drop (2 * c.cropCol)).take 2560).getD j 0 = payload.getD (2 * c.cropCol + j) 0 := by
    simp only [List.getD_eq_getElem?_getD]
    rw [List.getElem?_take_of_lt inRow, List.getElem?_drop]
  unfold CameraConfig.cropRowBytes
  cases c.mirror with
  | false => exact ⟨cutLength, fun i inRow => cut inRow⟩
  | true =>
    refine ⟨length_mirrorPairs 640 cutLength, fun i inRow => ?_⟩
    simp only [if_true]
    rw [getD_mirrorPairs 640 cutLength inRow, cut (by split <;> [skip; split] <;> omega), Nat.add_assoc]

/-! ### A LINE in an open frame (R69) -/

theorem Camera.concealLines_noFrame {c : Camera} (none : c.frame = none) (area : Option Nat) (n e : Nat) :
    Camera.concealLines n area e c = c := by
  cases n with
  | zero => rfl
  | succ n => rw [Camera.concealLines, none]

theorem Camera.concealLines_add (c : Camera) (area : Option Nat) (a b e : Nat) :
    Camera.concealLines (a + b) area e c = Camera.concealLines b area (e + a) (Camera.concealLines a area e c) := by
  induction a generalizing e c with
  | zero => rw [Nat.zero_add]; rfl
  | succ a ih =>
    cases frame : c.frame with
    | none => simp only [Camera.concealLines_noFrame frame]
    | some f =>
      have step (k : Nat) : Camera.concealLines (k + 1) area e c = Camera.concealLines k area (e + 1)
          (c.putLine area { f with concealed := f.concealed + 1, expected := e + 1 } e none) := by
        rw [Camera.concealLines, frame]
      have sum : a + 1 + b = a + b + 1 := by omega
      have place : e + (a + 1) = e + 1 + a := by omega
      rw [sum, place, step, step, ih]

section
variable {s : State} {c : Camera} {f : OpenFrame} {n : Nat} {rest : List Byte}

theorem Camera.takeLine_misplaced (misplaced : n < f.expected ∨ 759 < n) :
    c.takeLine s.cameraArea f n rest = { c with frame := some { f with inOrder := false } } := if_pos misplaced.symm

variable (captures : c.CapturesFor s) (frame : c.frame = some f) (due : f.expected ≤ n) (inFrame : n ≤ 759)
include captures frame due inFrame

/-- A good line goes behind the rows of the lines missing before it (R69, R76). -/
theorem Camera.takeLine_good {payload : List Byte} (good : linePayload n rest = some payload) :
    c.takeLine s.cameraArea f n rest =
      Camera.putLine
        { c with
          queue := c.queue ++ s.concealing f n, frame := some (f.concealedTo s.camera.config n) } s.cameraArea
        { f.concealedTo s.camera.config n with expected := n + 1 } n (some payload) := by
  have placed : ¬ (n > 759 ∨ n < f.expected) := by omega
  rw [Camera.takeLine, if_neg placed, Camera.concealLines_eq s _ captures frame, Nat.add_sub_cancel' due, good]

/-- A bad line is concealed like a missing one (R69, R76). -/
theorem Camera.takeLine_bad (bad : linePayload n rest = none) :
    c.takeLine s.cameraArea f n rest =
      { c with
        queue := c.queue ++ s.concealing f (n + 1), frame := some (f.concealedTo s.camera.config (n + 1)) } := by
  have placed : ¬ (n > 759 ∨ n < f.expected) := by omega
  have whole := Camera.concealLines_eq s (n + 1 - f.expected) captures frame
  have parts : Camera.concealLines (n + 1 - f.expected) s.cameraArea f.expected c =
      Camera.concealLines 1 s.cameraArea n (Camera.concealLines (n - f.expected) s.cameraArea f.expected c) := by
    have split := c.concealLines_add s.cameraArea (n - f.expected) 1 f.expected
    rwa [Nat.add_sub_cancel' due, ← Nat.sub_add_comm due] at split
  have gap := Camera.concealLines_eq s (n - f.expected) captures frame
  rw [Nat.add_sub_cancel' (by omega), parts] at whole
  rw [Camera.takeLine, if_neg placed, ← whole]
  simp only [bad, gap]

end

theorem linePayload_right {n : Nat} {rest : List Byte} (right : rest.length = 2690 ∧
    crc16 (bytesOf 2 n ++ rest.take 2688) = BitVec.ofNat 16 (256 * byteAt rest 2688 + byteAt rest 2689)) :
    linePayload n rest = some (rest.take 2688) := if_pos right

theorem linePayload_wrong {n : Nat} {rest : List Byte} (wrong : ¬ (rest.length = 2690 ∧
    crc16 (bytesOf 2 n ++ rest.take 2688) = BitVec.ofNat 16 (256 * byteAt rest 2688 + byteAt rest 2689))) :
    linePayload n rest = none := if_neg wrong

/-- Settles O39. -/
theorem lineIsTakenOrConcealed : Obligations.LineIsTakenOrConcealed := by
  intro s n rest
  have run : exec (.line n rest) s = .next (s.packetArrives (.line n.toNat rest)) := rfl
  have taken (on : s.camera.running = true) (none : s.camera.deferred = []) :
      exec (.line n rest) s = .next (s.hearPacket.takeAligned (.line n.toNat rest)) :=
    run.trans (congrArg Host.Outcome.next (State.packetArrives_taken on none (.inr rfl)))
  refine ⟨fun off => ?_, fun on none noFrame => ?_, fun on waits => ?_, fun f on none aligned frame => ?_⟩
  · rw [run, State.packetArrives_off off]
  · rw [taken on none, State.takeAligned, s.hearPacket_frame, noFrame, s.heard_nil]
  · rw [run, State.packetArrives_waits on (.inl waits)]
  · intro cfg timed payload right inCrop row g gap
    have notSilent : s.camera.align ≠ .noSignal := by obtain a | a := aligned <;> simp [a]
    have takes : exec (.line n rest) s = .next
        { s with camera := Camera.takeLine timed s.cameraArea f n.toNat rest } := by
      rw [taken on none, State.takeAligned, s.hearPacket_frame, frame, State.hearPacket_aligned notSilent]
      rfl
    have captures : timed.CapturesFor s := ⟨rfl, rfl⟩
    have done {c : Camera} (gives : timed.takeLine s.cameraArea f n.toNat rest = c) :
        exec (.line n rest) s = .next { s with camera := c } :=
      takes.trans (congrArg (fun c => Host.Outcome.next { s with camera := c }) gives)
    refine ⟨fun misplaced => done (Camera.takeLine_misplaced misplaced), fun due inFrame good inside col => ?_,
      fun due inFrame good outside => ?_, fun due inFrame bad =>
        done (Camera.takeLine_bad captures frame due inFrame (linePayload_wrong bad))⟩
    · have whole : payload.length = 2688 := by simp [payload, good.1]
      obtain ⟨length, bytes⟩ := cfg.cropRowBytes_spec col whole
      refine ⟨cfg.cropRowBytes payload, length, bytes, done ?_⟩
      rw [Camera.takeLine_good captures frame due inFrame (linePayload_right good)]
      refine (Camera.putLine_inCrop (captures.of_eq _ _) _ inside (some payload) rfl).trans ?_
      rw [← List.append_assoc]
    · refine done ?_
      rw [Camera.takeLine_good captures frame due inFrame (linePayload_right good)]
      exact Camera.putLine_outside (captures.of_eq _ _) _ outside (some payload)

/-! ### FRAME_END (R70) -/

/-- `g` is the frame `f` at its end, but for the line expected (R70, R76). -/
structure OpenFrame.EndsAs (f : OpenFrame) (cfg : CameraConfig) (g : OpenFrame) : Prop where
  number : g.number = f.number
  concealed : g.concealed = (f.concealedTo cfg 760).concealed
  inOrder : g.inOrder = f.inOrder
  lumaSum : g.lumaSum = (f.concealedTo cfg 760).lumaSum
  jumped : g.jumped = f.jumped

/-- Concealing to the end of the frame, whatever line is expected (R70, R76). -/
theorem Camera.concealLines_rest {s : State} {c : Camera} (captures : c.CapturesFor s) {f : OpenFrame}
    (frame : c.frame = some f) :
    ∃ g : OpenFrame, Camera.concealLines (760 - f.expected) s.cameraArea f.expected c =
        { c with queue := c.queue ++ s.concealing f 760, frame := some g } ∧
      f.EndsAs s.camera.config g := by
  by_cases due : f.expected ≤ 760
  · have gap := Camera.concealLines_eq s (760 - f.expected) captures frame
    rw [Nat.add_sub_cancel' due] at gap
    exact ⟨_, gap, rfl, rfl, rfl, rfl, rfl⟩
  · have past : 760 - f.expected = 0 := by omega
    have rows : s.camera.config.rowsOf f.expected 760 = [] := CameraConfig.rowsOf_of_le _ (by omega)
    refine ⟨f, ?_, rfl, ?_, rfl, ?_, rfl⟩
    · rw [past, State.concealing, rows, List.flatMap_nil, List.append_nil, ← frame]
      rfl
    · rw [OpenFrame.concealedTo, past]
      rfl
    · rw [OpenFrame.concealedTo, rows]
      rfl

/-- The camera at the end of the frame `f`: heard, its missing lines concealed, no frame open (R65, R70). -/
def State.cameraClosed (s : State) (f : OpenFrame) : Camera :=
  { s.camera with
    timer := some (later s.time 20000), frame := none, queue := s.camera.queue ++ s.concealing f 760 }

section
variable {s : State} {f : OpenFrame} {number : Byte} {count : BitVec 16}

theorem usable_iff {g : OpenFrame} (ends : f.EndsAs s.camera.config g) :
    g.usable number count.toNat = true ↔ number = f.number ∧ count = 760 ∧ f.jumped = false ∧
      (f.concealedTo s.camera.config 760).concealed ≤ 16 := by
  have same : count = 760 ↔ count.toNat = 760 := BitVec.toNat_inj.symm
  rw [OpenFrame.usable, decide_eq_true_eq, ends.number, ends.jumped, ends.concealed, same]

theorem good_iff {g : OpenFrame} (ends : f.EndsAs s.camera.config g) :
    g.good number count.toNat = true ↔ g.usable number count.toNat = true ∧
      (f.concealedTo s.camera.config 760).concealed = 0 ∧ f.inOrder = true := by
  rw [OpenFrame.good, Bool.and_eq_true, Bool.and_eq_true, decide_eq_true_eq, and_assoc, ends.concealed, ends.inOrder]

/-- FRAME_END with a frame open closes it as usable or as errored (R70). -/
theorem exec_frameEnd_closes (on : s.camera.running = true) (none : s.camera.deferred = []) (frame : s.camera.frame = some f)
    (aligned : s.camera.align ≠ .noSignal) :
    ∃ g : OpenFrame, f.EndsAs s.camera.config g ∧
      exec (.frameEnd number count) s = .next
        (if g.usable number count.toNat = true then
          State.closeUsable { s with camera := { s.cameraClosed f with frame := some g } } g (g.good number count.toNat)
        else
          (State.closeErrored { s with camera := { s.cameraClosed f with frame := some g } } f.number).countErrored) := by
  have captures : Camera.CapturesFor { s.camera with timer := some (later s.time 20000) } s := ⟨rfl, rfl⟩
  obtain ⟨g, gap, ends⟩ := Camera.concealLines_rest captures frame
  refine ⟨g, ends, ?_⟩
  have taken : exec (.frameEnd number count) s = .next (s.hearPacket.takeAligned (.frameEnd number count.toNat)) :=
    congrArg Host.Outcome.next (State.packetArrives_taken on none (.inr rfl))
  rw [taken, State.takeAligned, s.hearPacket_frame, frame, State.hearPacket_aligned aligned]
  refine congrArg Host.Outcome.next ?_
  simp only [State.takeFrameEnd, State.cameraArea] at gap ⊢
  rw [gap, ← ends.number]
  rfl

end

/-! ### The class of a frame drives the alignment (R72, R73) -/

section
variable {s : State} (g : OpenFrame)

theorem State.closeUsable_locked (locked : s.camera.align = .locked) (good : Bool) :
    s.closeUsable g good =
      { s with camera := { s.camera with frame := none, erroredRun := 0, completing := some g.lumaSum } } := by
  simp only [State.closeUsable, locked]

variable (verify : s.camera.align = .verify)
include verify

theorem State.closeUsable_fair :
    s.closeUsable g false = { s with camera := { s.camera with frame := none, writing := none, goodRun := 0 } } := by
  simp only [State.closeUsable, verify, if_true]

theorem State.closeUsable_first (first : s.camera.goodRun = 0) :
    s.closeUsable g true = { s with camera := { s.camera with frame := none, writing := none, goodRun := 1 } } := by
  simp [State.closeUsable, verify, first]

theorem State.closeUsable_second (second : s.camera.goodRun = 1) :
    s.closeUsable g true =
      State.post
        { s with
          camera := { s.camera with
            frame := none, writing := none, goodRun := 2, erroredRun := 0, freshLock := true, align := .locked } }
        (.camera .locked) := by
  simp [State.closeUsable, verify, second]
  rfl

end

/-- Settles O40. -/
theorem frameEndClassifiesFrame : Obligations.FrameEndClassifiesFrame := by
  intro s number count
  have run : exec (.frameEnd number count) s = .next (s.packetArrives (.frameEnd number count.toNat)) := rfl
  refine ⟨fun off => ?_, fun on none noFrame => ?_, fun on waits => ?_, fun f on none frame => ?_⟩
  · rw [run, State.packetArrives_off off]
  · rw [run, State.packetArrives_taken on none (.inr rfl), State.takeAligned, s.hearPacket_frame, noFrame, s.heard_nil]
  · rw [run, State.packetArrives_waits on (.inl waits)]
  · intro g closed freed usable good errored
    have closes (aligned : s.camera.align ≠ .noSignal) :=
      exec_frameEnd_closes (number := number) (count := count) on none frame aligned
    have fair (aligned : s.camera.align ≠ .noSignal) (isUsable : usable) : ∃ h : OpenFrame, h.lumaSum = g.lumaSum ∧
        (h.good number count.toNat = true ↔ good) ∧ exec (.frameEnd number count) s = .next
          (State.closeUsable { s with camera := { closed with frame := some h } } h (h.good number count.toNat)) := by
      obtain ⟨h, ends, run⟩ := closes aligned
      have used := (usable_iff ends).2 isUsable
      rw [if_pos used] at run
      refine ⟨h, ends.lumaSum, (good_iff ends).trans ⟨fun ⟨_, whole⟩ => ⟨isUsable, whole⟩, fun ⟨_, whole⟩ => ⟨used, whole⟩⟩,
        run⟩
    have bad (aligned : s.camera.align ≠ .noSignal) (notUsable : ¬ usable) : exec (.frameEnd number count) s = .next
        (State.countErrored { s.raise .cameraErrored f.number.toNat with camera := freed }) := by
      obtain ⟨h, ends, run⟩ := closes aligned
      rw [run, if_neg fun used => notUsable ((usable_iff ends).1 used), State.closeErrored_eq, State.raise_withCamera]
      rfl
    refine ⟨fun locked isUsable => ?_, fun verify isGood first => ?_, fun verify isGood second => ?_,
      fun verify isUsable notGood => ?_, fun verify notUsable => ?_, fun locked notUsable few => ?_,
      fun locked notUsable three => ?_⟩
    · obtain ⟨h, sum, -, run⟩ := fair (by simp [locked]) isUsable
      rw [run, State.closeUsable_locked _ (by exact locked), sum]
    · obtain ⟨h, -, whole, run⟩ := fair (by simp [verify]) isGood.1
      rw [run, whole.2 isGood, State.closeUsable_first _ (by exact verify) (by exact first)]
    · obtain ⟨h, -, whole, run⟩ := fair (by simp [verify]) isGood.1
      rw [run, whole.2 isGood, State.closeUsable_second _ (by exact verify) (by exact second)]
    · obtain ⟨h, -, whole, run⟩ := fair (by simp [verify]) isUsable
      rw [run, Bool.eq_false_iff.2 fun w => notGood (whole.1 w), State.closeUsable_fair _ (by exact verify)]
    · rw [bad (by simp [verify]) notUsable, State.countErrored_verify (by exact verify)]
      exact congrArg Host.Outcome.next (State.raise_withCamera s _ _ _).symm
    · rw [bad (by simp [locked]) notUsable, State.countErrored_locked (by exact locked) (by exact few)]
      exact congrArg Host.Outcome.next (State.raise_withCamera s _ _ _).symm
    · rw [bad (by simp [locked]) notUsable, State.countErrored_fourth (by exact locked) (by exact three)]
      refine congrArg Host.Outcome.next (Eq.symm ?_)
      refine (congrArg (fun u => State.post u (.camera .search)) (State.raise_withCamera s _ _ _)).trans ?_
      rw [State.post_withCamera, State.post_withCamera (s.raise .cameraErrored f.number.toNat) freed]

end Sys2Proof.Machine

end

/-! ## Proofs: the park beep pattern and signals that go stale (6.2, 6.4) -/
section

namespace Sys2Proof.Machine

/-! ### Own chimes in an IDLE FRONT player (R108, R173) -/

/-- FRONT with its one own chime just started from the cache. -/
def State.frontPlays (s : State) (n priority : Nat) : State :=
  { s with
    audio := { s.audio with
      chimes := { s.audio.chimes with
        front :=
          { queue := [], arrivals := s.audio.chimes.front.arrivals + 1
            player := .playing { clip := n, priority := priority, owner := .part, arrival := s.audio.chimes.front.arrivals }
              .cache 0 } } } }

section
variable {s : State} (others : s.OthersSettled .front)
  (buffer : s.audio.buffer.free = true → s.audio.buffer.waiters = []) (idle : s.audio.chimes.front.player = .idle)
  (empty : s.audio.chimes.front.queue = []) {clip : Clip}
include others buffer idle empty

theorem State.offerChime_frontIdle {n : Nat} (priority : Nat) (known : s.audio.clips[n]? = some clip)
    (resident : clip.resident = true) :
    s.offerChime .front n priority .part = { state := s.frontPlays n priority, taken := true, beepStopped := false } := by
  refine (State.offerChime_idle (d := .front) empty idle n priority .part).trans ?_
  exact congrArg (fun u => Offer.mk u true false)
    (State.settleChimes_resident (d := .front) (rest := []) known others buffer 31 resident)

/-- A beep offered to an IDLE player plays (R108). -/
theorem State.offerBeep_plays (known : s.audio.clips[1]? = some clip) (resident : clip.resident = true) :
    s.offerBeep = s.frontPlays 1 5 := by
  have none : ∀ x ∈ s.audio.chimes.front.queue, ¬ (x.owner = .part ∧ x.clip = 1) := by simp [empty]
  rw [State.offerBeep, if_neg (ne_true_of_eq_false (any_isParkBeep_eq_false none)),
    State.offerChime_frontIdle others buffer idle empty 5 known resident]

end

/-- A beep is dropped where one is pending (R108). -/
theorem State.offerBeep_dropped {s : State} (pending : ∃ c ∈ s.audio.chimes.front.queue, c.owner = .part ∧ c.clip = 1) :
    s.offerBeep = s := if_pos (any_isParkBeep_of pending)

/-! ### Bands (R107) -/

theorem Park.intervalOf_none (p : Park) : p.intervalOf none = none := rfl

theorem Park.intervalOf_some {p : Park} {i : Nat} {b : Band} (found : p.table[i]? = some b) :
    p.intervalOf (some i) = b.interval := by
  rw [Park.intervalOf, Option.bind_some, found, Option.bind_some]

theorem State.currentBand_fresh {s : State} (active : s.park.active = true)
    (fresh : s.vehicle.records.parkDistance.state = .fresh) :
    s.currentBand = s.park.table.findIdx? fun b => decide (s.vehicle.records.parkDistance.value ≤ b.limit) :=
  if_pos ⟨active, fresh⟩

theorem State.currentBand_notFresh {s : State} (notFresh : s.vehicle.records.parkDistance.state ≠ .fresh) :
    s.currentBand = none := if_neg fun ⟨_, fresh⟩ => notFresh fresh

section
variable {s : State}

theorem State.chooseBand_none (none : s.currentBand = none) :
    s.chooseBand = { s with park := { s.park with band := Option.none, nextOffer := Option.none } } := by
  unfold State.chooseBand
  simp only [none]

theorem State.chooseBand_same {i : Nat} (band : s.currentBand = some i) (same : s.park.band = some i) : s.chooseBand = s := by
  unfold State.chooseBand
  simp only [band, same, if_true]

variable {i : Nat} {b : Band} (band : s.currentBand = some i) (found : s.park.table[i]? = some b)
  (other : s.park.band ≠ some i)
include band found other

/-- The CONTINUOUS band offers a beep at once (R107). -/
theorem State.chooseBand_continuous (continuous : b.interval = none) :
    s.chooseBand = State.offerBeep { s with park := { s.park with band := some i, nextOffer := none } } := by
  unfold State.chooseBand
  simp only [band, if_neg other, Park.intervalOf_some found, continuous]

/-- An interval band that is entered from none or from CONTINUOUS offers a beep at once (R107). -/
theorem State.chooseBand_enters {ms : Nat} (interval : b.interval = some ms) (old : s.park.intervalOf s.park.band = none) :
    s.chooseBand = s.enterInterval i ms := by
  unfold State.chooseBand
  simp only [band, if_neg other, Park.intervalOf_some found, interval, old]

/-- Another interval band keeps the last offer, and offers a beep only where its next offer has passed (R107). -/
theorem State.chooseBand_moves {ms old : Nat} {last : Time} (interval : b.interval = some ms)
    (former : s.park.intervalOf s.park.band = some old) (offered : s.park.lastOffer = some last) :
    s.chooseBand =
      if 0 < (s.time - later last (1000 * ms)).toInt then s.enterInterval i ms
      else { s with park := { s.park with band := some i, nextOffer := some (later last (1000 * ms)) } } := by
  unfold State.chooseBand
  simp only [band, if_neg other, Park.intervalOf_some found, interval, former, offered, passed, decide_eq_true_eq]

end

/-! ### PARK_OFFER_TIME (R108) -/

theorem exec_parkOfferTime {s : State} {i ms : Nat} {b : Band} {next : Time} (active : s.park.active = true)
    (band : s.park.band = some i) (found : s.park.table[i]? = some b) (interval : b.interval = some ms)
    (nextOffer : s.park.nextOffer = some next) :
    exec .parkOfferTime s =
      if 0 ≤ (s.time - next).toInt then
        .next (State.offerBeep
          { s with park := { s.park with lastOffer := some next, nextOffer := some (later next (1000 * ms)) } })
      else .next s := by
  change execParkOfferTime s = _
  unfold execParkOfferTime
  simp only [band, Park.intervalOf_some found, interval, nextOffer, active, reached, decide_eq_true_eq, true_and]

/-- Settles O47. -/
theorem parkPatternOffersBeeps : Obligations.ParkPatternOffersBeeps := by
  refine ⟨fun s ms next i b active band found interval nextOffer => ?_, fun s active fresh => ?_,
    fun s i b c src pos clip active band found continuous settled playing ended own isBeep empty noWaiter known resident => ?_⟩
  · intro moved
    have run := exec_parkOfferTime active band found interval nextOffer
    refine ⟨fun early => by rw [run, if_neg (Int.not_le.2 early)], fun due => ⟨fun pending => ?_,
      fun clip settled idle known resident => ?_⟩⟩
    · rw [run, if_pos due]
      exact congrArg Host.Outcome.next (State.offerBeep_dropped (s := { s with park := moved }) pending)
    · rw [run, if_pos due]
      exact congrArg Host.Outcome.next (State.offerBeep_plays (s := { s with park := moved }) (settled.others .front)
        settled.served idle (settled.players .front idle) known resident)
  · intro t band offered
    have current : s.currentBand = band := State.currentBand_fresh active fresh
    have offers {p : Park} (made : t = State.offerBeep { s with park := p }) : offered p := by
      have within : Within [.audio, .store, .rw] { s with park := p } t := made ▸ State.offerBeep_within _
      refine ⟨within .park (by decide), ((within_park s p).mono (by decide)).trans (within.mono (by decide)),
        fun pending => made.trans (State.offerBeep_dropped (s := { s with park := p }) pending),
        fun clip settled idle known resident => made.trans ?_⟩
      exact State.offerBeep_plays (s := { s with park := p }) (settled.others .front) settled.served idle
        (settled.players .front idle) known resident
    refine ⟨fun none => State.chooseBand_none (current.trans none), fun same some => ?_, fun i b isBand found other =>
      ⟨fun continuous => ?_, fun ms interval => ⟨fun old => ?_, fun j c old last former known formerly lastOffer =>
        ⟨fun inTime => ?_, fun late => ?_⟩⟩⟩⟩
    · obtain ⟨i, isBand⟩ := Option.ne_none_iff_exists'.1 some
      exact State.chooseBand_same (current.trans isBand) (same.trans isBand)
    · exact offers (State.chooseBand_continuous (current.trans isBand) found (isBand ▸ other) continuous)
    · have noInterval : s.park.intervalOf s.park.band = none := by
        obtain none | ⟨j, c, former, known, continuous⟩ := old
        · rw [none, Park.intervalOf_none]
        · rw [former, Park.intervalOf_some known, continuous]
      exact offers (State.chooseBand_enters (current.trans isBand) found (isBand ▸ other) interval noInterval)
    · have moves := State.chooseBand_moves (current.trans isBand) found (isBand ▸ other) interval
        (by rw [former, Park.intervalOf_some known, formerly]) lastOffer
      exact moves.trans (if_neg (Int.not_lt.2 inTime))
    · have moves := State.chooseBand_moves (current.trans isBand) found (isBand ▸ other) interval
        (by rw [former, Park.intervalOf_some known, formerly]) lastOffer
      exact offers (moves.trans (if_pos late))
  · have run : exec (.chimeEnd .front) s = .next (s.endChime .front c) := by
      change execChimeEnd .front s = _
      unfold execChimeEnd
      simp only [PerDisplay.get, playing, if_pos ended]
    have given : s.audio.buffer.without .front =
        { s.audio.buffer with user := if s.audio.buffer.user = some .front then none else s.audio.buffer.user } := by
      simp [StagingBuffer.without, noWaiter]
    let left : State := { s with audio := { s.audio with
      buffer := { s.audio.buffer with user := if s.audio.buffer.user = some .front then none else s.audio.buffer.user } } }
    have leaves : s.leavePlayer .front = left.withPair .front { s.audio.chimes.front with player := .idle } := by
      change State.withPair { s with audio := { s.audio with buffer := s.audio.buffer.without .front } } .front _ = _
      rw [given]
      rfl
    have noneWaits : left.audio.buffer.waiters = [] := noWaiter
    have quiet : (s.leavePlayer .front).settle = left.withPair .front { s.audio.chimes.front with player := .idle } := by
      rw [leaves]
      exact State.settleChimes_withPair 32 (s := left) (settled.others .front) (fun _ => empty) fun _ => noneWaits
    have tells : s.endChime .front c = (left.withPair .front { s.audio.chimes.front with player := .idle }).beepStopped := by
      rw [State.endChime, quiet, if_pos ⟨rfl, by simp [Chime.isParkBeep, own, isBeep]⟩]
    have offers : (left.withPair .front { s.audio.chimes.front with player := .idle }).beepStopped =
        (left.withPair .front { s.audio.chimes.front with player := .idle }).offerBeep :=
      if_pos ⟨active, s.park.isContinuous_iff.2 ⟨i, b, band, found, continuous⟩⟩
    have othersLeft : (left.withPair .front { s.audio.chimes.front with player := .idle }).OthersSettled .front :=
      State.OthersSettled.withPair (s := left) (settled.others .front) .front fun _ => empty
    rw [run, tells, offers, State.offerBeep_plays othersLeft (fun _ => noneWaits) rfl empty known resident]
    rfl

end Sys2Proof.Machine

end

/-! ## Proofs: stale signals, the reverse pin and the hold-off (6.2, 6.3) -/
section

namespace Sys2Proof.Machine

theorem State.post_withDisplays (s : State) (x : PerDisplay DisplayState) (r : Report) :
    ({ s with displays := x } : State).post r = { s.post r with displays := x } := by
  have same : (({ s with displays := x } : State).post r).rw = (s.post r).rw :=
    State.post_rw_congr (s := s) (t := { s with displays := x }) rfl rfl rfl rfl r
  rw [State.post_eq s r, State.post_eq { s with displays := x } r, same]

/-! ### A record goes STALE (R93) -/

theorem exec_freshnessExpiry {s : State} {g : Signal} {deadline : Time} (fresh : (s.vehicle.records.get g).state = .fresh)
    (due : (s.vehicle.records.get g).deadline = some deadline) :
    exec (.freshnessExpiry g) s =
      if 0 ≤ (s.time - deadline).toInt then .next (s.expire g deadline) else .next s := by
  change execFreshnessExpiry g s = _
  unfold execFreshnessExpiry
  simp only [fresh, due, reached, decide_eq_true_eq]

theorem State.raise_withVehicle (s : State) (v : Vehicle) (k : FaultKind) (n : Nat) :
    ({ s with vehicle := v } : State).raise k n = { s.raise k n with vehicle := v } := by
  have same : (({ s with vehicle := v } : State).raise k n).rw = (s.raise k n).rw :=
    State.raise_rw_congr (s := s) (t := { s with vehicle := v }) rfl rfl rfl rfl k n
  rw [State.raise_eq s k n, State.raise_eq { s with vehicle := v } k n, same]

theorem Guide.straighten_eq (g : Guide) :
    g.straighten = if g.config ≠ none then { g with kappa := 0, flags := { g.flags with isStatic := true } } else g := by
  unfold Guide.straighten
  cases config : g.config <;> simp

/-- The vehicle input once the record of `g` is STALE: its value is kept, REVERSE loses its candidate (R93). -/
def Vehicle.staled (v : Vehicle) (g : Signal) (deadline : Time) : Vehicle :=
  { v with
    records := v.records.put g
      { value := (v.records.get g).value, state := .stale, deadline := none, staleSince := some deadline }
    candidate := if g = .reverse then none else v.candidate
    stalePeriodOver := if g = .reverse then false else v.stalePeriodOver }

/-- What a record that goes STALE does, and what the blocks that read it do (R93, R107, R115). -/
theorem State.expire_eq (s : State) (g : Signal) (deadline : Time) :
    s.expire g deadline =
      { s.raise .signalStale (signalNumber g) with
        vehicle := s.vehicle.staled g deadline
        guide := if g = .steering then s.guide.straighten else s.guide
        park := if g = .parkDistance ∧ s.park.active = true then { s.park with band := none, nextOffer := none }
          else s.park } := by
  let stale : SignalRecord :=
    { s.vehicle.records.get g with state := .stale, deadline := none, staleSince := some deadline }
  have raised : State.raise { s with vehicle := { s.vehicle with records := s.vehicle.records.put g stale } } .signalStale
      (signalNumber g) = { s.raise .signalStale (signalNumber g) with
        vehicle := { s.vehicle with records := s.vehicle.records.put g stale } } := s.raise_withVehicle _ _ _
  cases g with
  | reverse =>
    refine (congrArg (fun u : State =>
      { u with vehicle := { u.vehicle with candidate := none, stalePeriodOver := false } }) raised).trans ?_
    simp [Vehicle.staled, stale]
  | steering =>
    refine (congrArg (fun u : State => { u with guide := u.guide.straighten }) raised).trans ?_
    simp [Vehicle.staled, stale]
  | speed =>
    refine raised.trans ?_
    simp [Vehicle.staled, stale]
  | parkDistance =>
    refine (congrArg (fun u : State => if u.park.active = true then u.chooseBand else u) raised).trans ?_
    by_cases active : s.park.active = true
    · simp only [State.raise_park, if_pos active]
      rw [State.chooseBand_none (State.currentBand_notFresh (by simp [PerSignal.put, stale]))]
      simp [Vehicle.staled, active, stale]
    · simp [Vehicle.staled, active, stale]

/-- Settles O44. -/
theorem signalGoesStale : Obligations.SignalGoesStale := by
  refine ⟨fun s g deadline fresh due => ?_, fun s since stale asserted stopped notOver => ?_⟩
  · have run := exec_freshnessExpiry fresh due
    refine ⟨fun early => by rw [run, if_neg (Int.not_le.2 early)], fun ready => ?_⟩
    rw [if_pos ready] at run
    rw [State.expire_eq] at run
    refine ⟨_, run, (s.raise_faultRaised .signalStale (signalNumber g)).of_rw rfl, rfl, ?_, rfl, ?_⟩
    · change (if g = .steering then s.guide.straighten else s.guide) = _
      rw [Guide.straighten_eq, ite_and]
    · refine Within.trans ((s.raise_within .signalStale (signalNumber g)).mono (by decide)) fun p hp => ?_
      cases p <;> first | rfl | simp at hp
  · have run : exec .stalePeriodEnd s =
        if 0 ≤ (s.time - (since + 2000000)).toInt then
          .next (({ s with vehicle := { s.vehicle with stalePeriodOver := true } } : State).evaluateReverse)
        else .next s := by
      change execStalePeriodEnd s = _
      unfold execStalePeriodEnd
      have asserted' : s.vehicle.records.reverse.value ≠ 0 := asserted
      simp only [stopped, stale, asserted', notOver, reached, decide_eq_true_eq, true_and, ne_eq, not_false_eq_true]
      rfl
    exact ⟨fun early => by rw [run, if_neg (Int.not_le.2 early)], fun ready => by rw [run, if_pos ready]⟩

/-! ### The reverse pin (R96) and asserted reverse (R95, R97) -/

theorem Vehicle.busReverse_iff (v : Vehicle) :
    v.busReverse = true ↔ v.records.reverse.value ≠ 0 ∧
      (v.records.reverse.state = .fresh ∨ (v.records.reverse.state = .stale ∧ v.stalePeriodOver = false)) := by
  simp [Vehicle.busReverse]

section
variable {s : State}

theorem State.assertedReverse_pin (source : s.reverse.source = .pin) : s.assertedReverse = s.vehicle.pinAccepted := by
  rw [State.assertedReverse, source]

theorem State.assertedReverse_bus (source : s.reverse.source = .bus) : s.assertedReverse = s.vehicle.busReverse := by
  rw [State.assertedReverse, source]

theorem State.assertedReverse_either (source : s.reverse.source = .either) :
    s.assertedReverse = (s.vehicle.pinAccepted || s.vehicle.busReverse) := by
  rw [State.assertedReverse, source]

end

/-- Settles O45. -/
theorem reversePinAndHoldOffTimers : Obligations.ReversePinAndHoldOffTimers := by
  refine ⟨⟨fun s high changed => if_neg changed, fun s differs => ⟨fun early => ?_, fun kept => if_pos ⟨differs, kept⟩⟩,
    fun s => ⟨fun source => ?_, fun source => ?_, fun source => ?_⟩⟩, fun s deadline timer => ⟨fun notYet => ?_,
      fun below cam above due holdOff holds camera system => ?_⟩⟩
  · exact if_neg fun ⟨_, kept⟩ => Nat.not_le.2 early kept
  · rw [State.assertedReverse_pin source]
  · rw [State.assertedReverse_bus source, Vehicle.busReverse_iff]
  · rw [State.assertedReverse_either source, Bool.or_eq_true, Vehicle.busReverse_iff]
  · refine if_neg fun ⟨holdOff, due⟩ => ?_
    obtain early | other := notYet
    · rw [timer] at due
      exact absurd (of_decide_eq_true due) (Int.not_le.2 early)
    · exact other holdOff
  · have ready : dueNow s.time s.reverse.timer = true := by
      rw [timer]
      exact decide_eq_true due
    have run : exec .holdOffExpiry s = .next s.cameraOff := if_pos ⟨holdOff, ready⟩
    rw [run, State.cameraOff, holds, dropCamera_middle camera system]
    rfl

end Sys2Proof.Machine

end

/-! ## Proofs: the reverse controller (6.3) -/
section

namespace Sys2Proof.Machine

/-! ### Chimes raise no fault but CHIME_UNAVAILABLE (R171, R180) -/

/-- No record of a fault but that of CHIME_UNAVAILABLE has changed. -/
def OtherFaultsKept (s t : State) : Prop := ∀ k, k ≠ .chimeUnavailable → t.rw.fault k = s.rw.fault k

theorem OtherFaultsKept.refl (s : State) : OtherFaultsKept s s := fun _ _ => rfl

theorem OtherFaultsKept.trans {s t u : State} (h : OtherFaultsKept s t) (g : OtherFaultsKept t u) : OtherFaultsKept s u :=
  fun k hk => (g k hk).trans (h k hk)

theorem OtherFaultsKept.of_rw {s t : State} (h : t.rw = s.rw) : OtherFaultsKept s t := fun _ _ => by rw [h]

theorem State.raise_otherFaults (s : State) (n : Nat) : OtherFaultsKept s (s.raise .chimeUnavailable n) :=
  (s.raise_faultRaised .chimeUnavailable n).2

theorem State.claimBuffer_otherFaults (s : State) (d : Display) (c : Chime) (k : Clip) : OtherFaultsKept s (s.claimBuffer d c k) := by
  unfold State.claimBuffer
  split
  · exact .of_rw rfl
  · split
    · unfold State.unstageableAnswer
      split <;> exact (s.raise_otherFaults _).trans (.of_rw rfl)
    · exact OtherFaultsKept.trans (.of_rw rfl) (.of_rw (State.acceptStaging_within _ _ _ _ .rw (by decide)))

theorem State.startChime_otherFaults (s : State) (d : Display) (c : Chime) : OtherFaultsKept s (s.startChime d c) := by
  unfold State.startChime
  split
  · exact (s.raise_otherFaults _).trans (.of_rw rfl)
  · split
    · exact .of_rw rfl
    · split
      · exact s.claimBuffer_otherFaults d c _
      · exact .of_rw rfl

theorem State.serveWaiter_otherFaults (s : State) (d : Display) (rest : List Display) :
    OtherFaultsKept s (s.serveWaiter d rest) := by
  unfold State.serveWaiter
  extract_lets audio buffer s1
  have left : OtherFaultsKept s s1 := .of_rw rfl
  split
  · split
    · exact left.trans (s1.claimBuffer_otherFaults d _ _)
    · exact left
  · exact left
  · exact left

theorem State.settleChimes_otherFaults (n : Nat) (s : State) : OtherFaultsKept s (State.settleChimes n s) := by
  induction n generalizing s with
  | zero => exact .refl s
  | succ n ih =>
    unfold State.settleChimes
    split
    · split
      · exact .refl s
      · exact (s.serveWaiter_otherFaults _ _).trans (ih _)
    · split
      · exact .refl s
      · split
        · exact .refl s
        · refine OtherFaultsKept.trans (OtherFaultsKept.trans ?_ (State.startChime_otherFaults _ _ _)) (ih _)
          exact .of_rw rfl

theorem State.offerChime_otherFaults (s : State) (d : Display) (n p : Nat) (o : ChimeOwner) :
    OtherFaultsKept s (s.offerChime d n p o).state := by
  unfold State.offerChime
  extract_lets inPlayer preempts stopped s1
  have left : OtherFaultsKept s s1 := by
    unfold s1
    split
    · exact .of_rw rfl
    · exact .refl s
  split
  · exact left.trans (State.settleChimes_otherFaults _ _)
  · exact (left.trans (.of_rw rfl)).trans (State.settleChimes_otherFaults _ _)

theorem State.offerBeep_otherFaults (s : State) : OtherFaultsKept s s.offerBeep := by
  unfold State.offerBeep
  split
  · exact .refl s
  · exact s.offerChime_otherFaults _ _ _ _

theorem State.offerTone_otherFaults (s : State) : OtherFaultsKept s s.offerTone := by
  unfold State.offerTone State.offerAndTell
  split
  · exact .refl s
  · extract_lets o
    have offered : OtherFaultsKept s o.state := s.offerChime_otherFaults _ _ _ _
    dsimp only
    split
    · unfold State.beepStopped
      split
      · exact offered.trans o.state.offerBeep_otherFaults
      · exact offered
    · exact offered

theorem State.chooseBand_otherFaults (s : State) : OtherFaultsKept s s.chooseBand := by
  have enters (p : Park) : OtherFaultsKept s (State.offerBeep { s with park := p }) :=
    OtherFaultsKept.trans (.of_rw rfl) (State.offerBeep_otherFaults _)
  unfold State.chooseBand
  extract_lets old
  split
  · exact .of_rw rfl
  · split
    · exact .refl s
    · split
      · exact enters _
      · split
        · dsimp only
          split
          · exact enters _
          · exact .of_rw rfl
        · exact enters _

/-! ### Asserted reverse is evaluated (R97) -/

section
variable {s : State}

theorem State.evaluateReverse_same (h : s.reverse.running = false ∨ (s.assertedReverse = true ↔ s.reverse.state = .engaged)) :
    s.evaluateReverse = s := by
  unfold State.evaluateReverse
  obtain off | same := h
  · rw [if_neg (by simp [off])]
  · split
    · rw [if_neg fun ⟨asserted, other⟩ => other (same.1 asserted)]
      exact if_neg fun ⟨released, engaged⟩ => absurd (same.2 engaged) (ne_true_of_eq_false released)
    · rfl

theorem State.evaluateReverse_asserted (running : s.reverse.running = true) (asserted : s.assertedReverse = true)
    (other : s.reverse.state ≠ .engaged) : s.evaluateReverse = s.reverseAsserted :=
  (if_pos running).trans (if_pos ⟨asserted, other⟩)

theorem State.evaluateReverse_released (running : s.reverse.running = true) (released : s.assertedReverse = false)
    (engaged : s.reverse.state = .engaged) : s.evaluateReverse = s.reverseReleased :=
  (if_pos running).trans ((if_neg fun ⟨asserted, _⟩ => ne_true_of_eq_false released asserted).trans (if_pos ⟨released, engaged⟩))

end

/-! ### The forced push and the promotion (R98, R104) -/

theorem State.raise_withDisplays (s : State) (x : PerDisplay DisplayState) (k : FaultKind) (n : Nat) :
    ({ s with displays := x } : State).raise k n = { s.raise k n with displays := x } := by
  have same : (({ s with displays := x } : State).raise k n).rw = (s.raise k n).rw :=
    State.raise_rw_congr (s := s) (t := { s with displays := x }) rfl rfl rfl rfl k n
  rw [State.raise_eq s k n, State.raise_eq { s with displays := x } k n, same]

theorem State.setStack_setStack (s : State) (d : Display) (a b : List View) : (s.setStack d a).setStack d b = s.setStack d b := by
  simp only [State.setStack, State.updateDisplay, PerDisplay.get_put_same, PerDisplay.put_put]

theorem State.raise_setStack (s : State) (d : Display) (a : List View) (k : FaultKind) (n : Nat) :
    (s.setStack d a).raise k n = (s.raise k n).setStack d a := by
  refine (s.raise_withDisplays _ k n).trans ?_
  rw [State.setStack, State.updateDisplay, State.raise_displays]

theorem State.forcedPush_room {s : State} (room : (s.stack .front).length < 4) :
    s.forcedPush = s.setStack .front (s.stack .front ++ [cameraViewOf 0 true]) := by
  have notFull : ¬ stackFull (s.stack .front) = true := by simpa [stackFull] using room
  exact if_neg notFull

theorem State.forcedPush_full {s : State} {bottom : View} {rest : List View} (holds : s.stack .front = bottom :: rest)
    (system : bottom.owner = .system) (full : 3 ≤ rest.length) :
    s.forcedPush = (s.raise .viewOverflow 0).setStack .front (rest ++ [cameraViewOf 0 true]) := by
  have isFull : stackFull (s.stack .front) = true := by simp [stackFull, holds, full]
  have drops : dropBottomSystem (s.stack .front) = rest := by
    rw [holds, dropBottomSystem, List.eraseP_cons_of_pos (by simp [system])]
  have stack : ((s.raise .viewOverflow 0).setStack .front rest).stack .front = rest := by
    simp only [State.stack, State.setStack, State.updateDisplay, PerDisplay.get_put_same]
  unfold State.forcedPush
  simp only [if_pos isFull, drops, displayNumber, State.raise_setStack, stack, State.setStack_setStack]
  rfl

/-- The one CAMERA view of a stack is promoted to the top and pinned (R104). -/
theorem promoteCamera_middle {below above : List View} {old : View} (camera : old.owner = .camera)
    (system : AllSystem (below ++ above)) :
    promoteCamera (below ++ old :: above) = below ++ above ++ [{ old with pinned := true }] := by
  have found : cameraView (below ++ old :: above) = some old := by
    rw [cameraView, List.find?_append, List.find?_eq_none.2 fun v mem => by simp [system v (by simp [mem])]]
    simp [camera]
  simp only [promoteCamera, found, dropCamera_middle camera system]

/-! ### The tone and the pattern on entering ENGAGED (R98, R109) -/

theorem State.offerTone_dropped {s : State} (pending : ∃ c ∈ s.audio.chimes.front.queue, c.owner = .part ∧ c.clip = 0) :
    s.offerTone = s := by
  obtain ⟨x, mem, own, tone⟩ := pending
  exact if_pos (List.any_eq_true.2 ⟨x, mem, by simp [Chime.isReverseTone, own, tone]⟩)

/-- A tone offered to an IDLE player goes straight to it (R173). -/
theorem State.offerTone_idle {s : State} (empty : s.audio.chimes.front.queue = [])
    (idle : s.audio.chimes.front.player = .idle) :
    s.offerTone =
      (s.withPair .front
        { queue := [{ clip := 0, priority := 6, owner := .part, arrival := s.audio.chimes.front.arrivals }]
          arrivals := s.audio.chimes.front.arrivals + 1, player := .idle }).settle := by
  have none : ∀ x ∈ s.audio.chimes.front.queue, ¬ (x.owner = .part ∧ x.clip = 0) := by simp [empty]
  have offers := State.offerChime_idle (d := .front) empty idle 0 6 .part
  rw [State.offerTone, if_neg (ne_true_of_eq_false (any_isReverseTone_eq_false none))]
  simp only [State.offerAndTell, offers]
  rfl

section
variable {s : State} (others : s.OthersSettled .front)
  (buffer : s.audio.buffer.free = true → s.audio.buffer.waiters = []) (idle : s.audio.chimes.front.player = .idle)
  (empty : s.audio.chimes.front.queue = [])
include others buffer idle empty

theorem State.offerTone_plays {clip : Clip} (known : s.audio.clips[0]? = some clip) (resident : clip.resident = true) :
    s.offerTone = s.frontPlays 0 6 :=
  (State.offerTone_idle empty idle).trans
    (State.settleChimes_resident (d := .front) (rest := []) known others buffer 31 resident)

/-- With its clip absent from the table a REVERSE_TONE is the substitute tone (R171). -/
theorem State.offerTone_substitute (absent : s.audio.clips[0]? = none) :
    s.offerTone =
      (s.raise .chimeUnavailable 0).withPair .front
        { queue := [], arrivals := s.audio.chimes.front.arrivals + 1
          player := .playing { clip := 0, priority := 6, owner := .part, arrival := s.audio.chimes.front.arrivals }
            (.tone 24000 64) 0 } := by
  have absent' (p : PairChimes) : (s.withPair .front p).audio.clips[0]? = none := absent
  refine (State.offerTone_idle empty idle).trans
    ((State.settleChimes_enters (d := .front) (rest := []) 31 others buffer).trans ?_)
  rw [State.startChime]
  simp only [absent', State.raise_withPair, State.withPair_setPlayer]
  refine (State.settleChimes_withPair (s := s.raise .chimeUnavailable 0) 31 (fun e => ?_) ?_ fun free => ?_).trans rfl
  · rw [State.raise_audio]
    exact others e
  · exact nofun
  · rw [State.raise_audio] at free ⊢
    exact buffer free

end

theorem Vehicle.hasPark_iff (v : Vehicle) : v.hasPark = true ↔ ∃ e ∈ v.table, e.signal = .parkDistance := by
  simp [Vehicle.hasPark]

/-- The pattern starts where the table has a PARK_DISTANCE entry (R109). -/
theorem State.startPattern_eq (s : State) {table : List AcceptEntry} (same : s.vehicle.table = table)
    [Decidable (∃ e ∈ table, e.signal = .parkDistance)] :
    s.startPattern =
      if ∃ e ∈ table, e.signal = .parkDistance then
        ({ s with park := { s.park with active := true, band := none, nextOffer := none } } : State).chooseBand
      else s := by
  subst same
  by_cases has : ∃ e ∈ s.vehicle.table, e.signal = .parkDistance
  · rw [if_pos has]
    exact if_pos (s.vehicle.hasPark_iff.2 has)
  · rw [if_neg has]
    exact if_neg fun park => has (s.vehicle.hasPark_iff.1 park)

theorem State.chooseBand_active (s : State) : s.chooseBand.park.active = s.park.active := by
  have offers (p : Park) : (State.offerBeep { s with park := p }).park = p := State.offerBeep_within _ .park (by decide)
  unfold State.chooseBand State.enterInterval
  extract_lets old
  split
  · rfl
  · split
    · rfl
    · split
      · rw [offers]
      · split
        · dsimp only
          split
          · rw [offers]
          · rfl
        · rw [offers]

theorem State.startPattern_active (s : State) :
    s.startPattern.park.active = true ↔ s.park.active = true ∨ ∃ e ∈ s.vehicle.table, e.signal = .parkDistance := by
  rw [← s.vehicle.hasPark_iff]
  unfold State.startPattern
  split
  · next has => simp [State.chooseBand_active, has]
  · next none => simp [none]

theorem State.startPattern_otherFaults (s : State) : OtherFaultsKept s s.startPattern := by
  unfold State.startPattern
  split
  · exact OtherFaultsKept.trans (.of_rw rfl) (State.chooseBand_otherFaults _)
  · exact .refl s

/-- Without a PARK_DISTANCE entry the pattern does not start (R109). -/
theorem State.startPattern_none {s : State} (none : ∀ e ∈ s.vehicle.table, e.signal ≠ .parkDistance) : s.startPattern = s :=
  if_neg fun has => by
    obtain ⟨e, mem, park⟩ := s.vehicle.hasPark_iff.1 has
    exact none e mem park

theorem State.setStack_displays (s : State) (d : Display) (st : List View) {u : State} (same : u.displays = s.displays) :
    (u.setStack d st).displays = (s.setStack d st).displays := by
  simp only [State.setStack, State.updateDisplay, same]

/-- Settles O46. -/
theorem reverseControllerFollowsAssertion : Obligations.ReverseControllerFollowsAssertion := by
  intro s cam t engaged started told
  have starts {u : State} (same : u.vehicle = s.vehicle) : u.startPattern = started u :=
    u.startPattern_eq (congrArg Vehicle.table same)
  have tells (u : State) (same : u.reverse = s.reverse) (stack : List View) :
      (u.setStack .front stack).toReverse .engaged = told u stack := by
    change State.post { u.setStack .front stack with reverse := { u.reverse with state := .engaged } } _ = _
    rw [same]
  have toneVehicle (u : State) : u.offerTone.vehicle = u.vehicle := u.offerTone_within .vehicle (by decide)
  have entered (u : State) : Within [.park, .audio, .store, .rw] u u.offerTone.startPattern :=
    (u.offerTone_within.mono (by decide)).trans (State.startPattern_within _)
  refine ⟨State.evaluateReverse_same, fun running asserted off system => ?_,
    fun below old above running asserted manual holds camera system => ?_, fun running asserted holdOff => ?_,
    fun notFresh => State.chooseBand_none (State.currentBand_notFresh notFresh), State.offerTone_dropped,
    fun settled idle => ⟨fun clip known resident => ?_, fun noClips => ?_⟩, fun running released isEngaged => ?_⟩
  · let pushed := s.forcedPush.toReverse .engaged
    have made : t = pushed.offerTone.startPattern := by
      refine (State.evaluateReverse_asserted running asserted (by simp [off])).trans ?_
      simp only [State.reverseAsserted, off]
      rfl
    have toPushed : Within [.displays, .reverse, .rw] s pushed :=
      (s.forcedPush_within.mono (by decide)).trans ((State.toReverse_within _ _).mono (by decide))
    have fromPushed : Within [.park, .audio, .store, .rw] pushed t := made ▸ entered pushed
    have reverse : pushed.reverse = engaged := by
      have same : s.forcedPush.reverse = s.reverse := s.forcedPush_within .reverse (by decide)
      change (State.post { s.forcedPush with reverse := { s.forcedPush.reverse with state := .engaged } } _).reverse = _
      rw [State.post_reverse, same]
    have audio : pushed.audio = s.audio := toPushed .audio (by decide)
    have vehicle : pushed.offerTone.vehicle = s.vehicle := (toneVehicle pushed).trans (toPushed .vehicle (by decide))
    refine ⟨(fromPushed .reverse (by decide)).trans reverse, (toPushed.mono (by decide)).trans (fromPushed.mono (by decide)),
      fun room => ?_, fun bottom rest holds full => ?_, ?_, fun clip settled idle known resident noPark => ?_⟩
    · have isTold : pushed = told s (s.stack .front ++ [cam]) :=
        (congrArg (fun u => State.toReverse u .engaged) (State.forcedPush_room room)).trans (tells s rfl _)
      refine ⟨?_, ?_⟩
      · rw [fromPushed .displays (by decide), isTold]
        exact State.post_displays _ _
      · rw [made, ← isTold, starts vehicle]
    · have isTold : pushed = told (s.raise .viewOverflow 0) (rest ++ [cam]) :=
        (congrArg (fun u => State.toReverse u .engaged)
          (State.forcedPush_full holds (system bottom (by simp [holds])) full)).trans (tells _ (State.raise_reverse _ _ _) _)
      refine ⟨?_, ?_, ?_⟩
      · rw [fromPushed .displays (by decide), isTold]
        exact (State.post_displays _ _).trans (s.setStack_displays .front _ (State.raise_displays _ _ _))
      · rw [made, ← isTold, starts vehicle]
      · have kept := (pushed.offerTone_otherFaults.trans (State.startPattern_otherFaults _)) .viewOverflow (by decide)
        rw [made, kept, isTold, ← (s.raise_faultRaised .viewOverflow 0).1]
        exact ReportWriter.fault_congr (State.post_faults_consumer _ _).1 _
    · have park : pushed.offerTone.park = s.park :=
        (pushed.offerTone_within .park (by decide)).trans (toPushed .park (by decide))
      rw [made, State.startPattern_active, park, vehicle]
    · have plays := State.offerTone_plays (s := pushed) (clip := clip) (by rw [State.OthersSettled, audio]; exact settled.others .front)
        (by rw [audio]; exact settled.served) (by rw [audio]; exact idle)
        (by rw [audio]; exact settled.players .front idle) (by rw [audio]; exact known) resident
      rw [made, State.startPattern_none (by rw [vehicle]; exact noPark), plays, State.frontPlays, audio]
  · have made : t = (told s (below ++ above ++ [{ old with pinned := true }])).offerTone.startPattern := by
      refine (State.evaluateReverse_asserted running asserted (by simp [manual])).trans ?_
      simp only [State.reverseAsserted, manual, holds, promoteCamera_middle camera system]
      rw [tells s rfl]
    have toTold : Within [.displays, .reverse, .rw] s (told s (below ++ above ++ [{ old with pinned := true }])) := by
      rw [← tells s rfl]
      exact ((within_displays s _).mono (by decide)).trans ((State.toReverse_within _ _).mono (by decide))
    have fromTold := entered (told s (below ++ above ++ [{ old with pinned := true }]))
    rw [← made] at fromTold
    refine ⟨?_, ?_, ?_, (toTold.mono (by decide)).trans (fromTold.mono (by decide))⟩
    · rw [fromTold .reverse (by decide)]
      exact State.post_reverse _ _
    · rw [fromTold .displays (by decide)]
      exact State.post_displays _ _
    · rw [made, starts ((toneVehicle _).trans (toTold .vehicle (by decide)))]
  · have made : t = (State.startPattern { s with reverse := { engaged with timer := none } }).post (.reverse .engaged) := by
      refine (State.evaluateReverse_asserted running asserted (by simp [holdOff])).trans ?_
      simp only [State.reverseAsserted, holdOff]
      rfl
    have within : Within [.reverse, .park, .audio, .store, .rw] s t := by
      rw [made]
      exact (((within_reverse s _).mono (by decide)).trans ((State.startPattern_within _).mono (by decide))).trans
        ((State.post_within _ _).mono (by decide))
    refine ⟨?_, within, ?_, fun noPark => ?_⟩
    · rw [made, State.post_reverse]
      exact State.startPattern_within _ .reverse (by decide)
    · exact made.trans (congrArg (fun u => State.post u (.reverse .engaged)) (starts rfl))
    · exact made.trans (congrArg (fun u => State.post u (.reverse .engaged)) (State.startPattern_none noPark))
  · exact State.offerTone_plays (settled.others .front) settled.served idle (settled.players .front idle) known resident
  · rw [State.offerTone_substitute (settled.others .front) settled.served idle (settled.players .front idle) (by simp [noClips])]
    rfl
  · have made : t = s.reverseReleased := State.evaluateReverse_released running released isEngaged
    intro holding
    have stopped : (State.toReverse
        { s.stopPattern with reverse := { s.reverse with timer := some (later s.time (1000 * s.reverse.holdOffMs)) } }
        .holdOff) = holding := rfl
    refine ⟨fun long => ?_, fun below atOnce holds system => ?_⟩
    · rw [made]
      simp only [State.reverseReleased, isEngaged]
      exact if_neg (Nat.ne_of_gt long)
    · rw [made]
      simp only [State.reverseReleased, isEngaged]
      refine (if_pos atOnce).trans ?_
      have stack : holding.stack .front = below ++ [cam] := by
        rw [← holds]
        exact congrArg (fun x : PerDisplay DisplayState => (x.get .front).stack) (State.post_displays _ _)
      have drops : dropCamera (below ++ [cam]) = below := by
        rw [dropCamera_middle rfl (by simpa [AllSystem] using system), List.append_nil]
      have reverse : holding.reverse =
          { s.reverse with state := .holdOff, timer := some (later s.time (1000 * s.reverse.holdOffMs)) } :=
        State.post_reverse _ _
      refine (congrArg State.cameraOff stopped).trans ?_
      rw [State.cameraOff, State.toReverse, stack, drops]
      have rest : (holding.setStack .front below).reverse = holding.reverse := rfl
      simp only [rest, reverse]

end Sys2Proof.Machine

end

/-! ## Proofs: CAN reception (6.1, 6.2) -/
section

namespace Sys2Proof.Machine

/-! ### The field of an entry (R90) -/

/-- The unsigned field of an entry in a frame's data. -/
def AcceptEntry.field (e : AcceptEntry) (data : List Byte) : Nat :=
  if e.width = 1 then byteAt data e.startByte else 256 * byteAt data e.startByte + byteAt data (e.startByte + 1)

/-- The value of an entry's field, two's complement where the entry is signed. -/
def AcceptEntry.reads (e : AcceptEntry) (data : List Byte) : Int :=
  if e.signed = true ∧ (if e.width = 1 then 128 else 32768) ≤ e.field data then
    (e.field data : Int) - (if e.width = 1 then 256 else 65536)
  else (e.field data : Int)

section
variable {e : AcceptEntry} {data : List Byte}

theorem AcceptEntry.fieldValue_of_long (long : e.startByte + e.width ≤ data.length) : e.fieldValue data = some (e.field data) := by
  rw [AcceptEntry.fieldValue, if_neg (Nat.not_lt.2 long), AcceptEntry.field]
  split <;> rfl

theorem signedOf_reads (width : e.width = 1 ∨ e.width = 2) (signed : e.signed = true) :
    signedOf (8 * e.width) (e.field data) = e.reads data := by
  unfold signedOf AcceptEntry.reads
  obtain one | two := width
  · simp only [one, signed, if_true, true_and]
    by_cases low : e.field data < 128
    · rw [if_pos (by simpa using low), if_neg (by omega)]
    · rw [if_neg (by simpa using low), if_pos (by omega)]
      rfl
  · simp only [two, signed, true_and]
    by_cases low : e.field data < 32768
    · rw [if_pos (by simpa using low), if_neg (by simpa using low)]
    · rw [if_neg (by simpa using low), if_pos (by simpa using low)]
      rfl

/-- A frame that is too short, or that carries the invalid marker, does not refresh the signal (R90). -/
theorem AcceptEntry.value_none (h : data.length < e.startByte + e.width ∨ e.marker = some (e.field data)) :
    e.value data = none := by
  by_cases long : e.startByte + e.width ≤ data.length
  · have marked := h.resolve_left (Nat.not_lt.2 long)
    simp only [AcceptEntry.value, AcceptEntry.fieldValue_of_long long, if_pos marked]
  · have short : e.fieldValue data = none := if_pos (Nat.lt_of_not_le long)
    simp only [AcceptEntry.value, short]

theorem AcceptEntry.value_some (width : e.width = 1 ∨ e.width = 2) (long : e.startByte + e.width ≤ data.length)
    (valid : e.marker ≠ some (e.field data)) : e.value data = some (e.reads data) := by
  simp only [AcceptEntry.value, AcceptEntry.fieldValue_of_long long, if_neg valid]
  by_cases signed : e.signed = true
  · rw [if_pos signed, signedOf_reads width signed]
  · rw [if_neg signed, AcceptEntry.reads, if_neg fun h => signed h.1]

end

/-! ### A frame is offered to the table (R89, R90) -/

section
variable {s : State} {ident : Nat} {data : List Byte}

theorem State.offerFrame_other {e : AcceptEntry} (other : e.ident ≠ ident) : s.offerFrame ident data e = s := if_neg other

theorem State.offerFrame_none {e : AcceptEntry} (none : e.value data = Option.none) : s.offerFrame ident data e = s := by
  unfold State.offerFrame
  split
  · rw [none]
  · rfl

theorem State.offerFrame_some {e : AcceptEntry} (named : e.ident = ident) {v : Int} (value : e.value data = some v) :
    s.offerFrame ident data e = s.refresh e v := by
  simp only [State.offerFrame, if_pos named, value]

theorem State.foldl_offerFrame_others (table : List AcceptEntry) (others : ∀ e ∈ table, e.ident ≠ ident) (s : State) :
    table.foldl (State.offerFrame ident data) s = s := by
  induction table with
  | nil => rfl
  | cons e rest ih =>
    rw [List.foldl_cons, State.offerFrame_other (others e List.mem_cons_self)]
    exact ih fun x mem => others x (List.mem_cons_of_mem e mem)

theorem State.foldl_offerFrame (table : List AcceptEntry) (widths : ∀ e ∈ table, e.width = 1 ∨ e.width = 2) (s : State) :
    table.foldl (State.offerFrame ident data) s =
      (table.filter fun e =>
        decide (e.ident = ident ∧ e.startByte + e.width ≤ data.length ∧ e.marker ≠ some (e.field data))).foldl
          (fun u e => u.refresh e (e.reads data)) s := by
  induction table generalizing s with
  | nil => rfl
  | cons e rest ih =>
    have tail := ih fun x mem => widths x (List.mem_cons_of_mem e mem)
    rw [List.foldl_cons, tail]
    by_cases taken : e.ident = ident ∧ e.startByte + e.width ≤ data.length ∧ e.marker ≠ some (e.field data)
    · obtain ⟨named, long, valid⟩ := taken
      rw [List.filter_cons_of_pos (by simpa using ⟨named, long, valid⟩), List.foldl_cons,
        State.offerFrame_some named (AcceptEntry.value_some (widths e List.mem_cons_self) long valid)]
    · rw [List.filter_cons_of_neg (by simpa using taken)]
      by_cases named : e.ident = ident
      · rw [State.offerFrame_none (AcceptEntry.value_none ?_)]
        by_cases long : e.startByte + e.width ≤ data.length
        · exact .inr (by_contra fun valid => taken ⟨named, long, valid⟩)
        · exact .inl (Nat.lt_of_not_le long)
      · rw [State.offerFrame_other named]

end

theorem exec_canFrame {s : State} {ident : BitVec 11} {dlc : BitVec 4} {data : List Byte}
    (fits : data.length = min dlc.toNat 8) (receiving : s.vehicle.receiving = true) :
    exec (.canFrame ident dlc data) s = .next (s.vehicle.table.foldl (State.offerFrame ident.toNat data) s) :=
  (if_pos (decide_eq_true fits)).trans (if_pos receiving)

/-- A frame that one entry alone names is offered to that entry. -/
theorem exec_canFrame_one {s : State} {ident : BitVec 11} {dlc : BitVec 4} {data : List Byte}
    (fits : data.length = min dlc.toNat 8) (receiving : s.vehicle.receiving = true) {before after : List AcceptEntry}
    {e : AcceptEntry} (table : s.vehicle.table = before ++ e :: after)
    (others : ∀ x ∈ before ++ after, x.ident ≠ ident.toNat) :
    exec (.canFrame ident dlc data) s = .next (s.offerFrame ident.toNat data e) := by
  rw [exec_canFrame fits receiving, table, List.foldl_append, List.foldl_cons,
    State.foldl_offerFrame_others before (fun x mem => others x (List.mem_append_left _ mem)),
    State.foldl_offerFrame_others after fun x mem => others x (List.mem_append_right _ mem)]

/-- Settles O43. -/
theorem canFrameRefreshesSignal : Obligations.CanFrameRefreshesSignal := by
  refine ⟨fun s ident dlc data fits nothing => ?_, fun s ident dlc data misfit => if_neg (by simpa [Instr.WellFormed] using misfit),
    fun s ident dlc data fits receiving widths => ?_,
    fun s ident dlc data before after e fits receiving table named others width => ?_⟩
  · obtain off | unnamed := nothing
    · exact (if_pos (decide_eq_true fits)).trans (if_neg (by simp [off]))
    · by_cases receiving : s.vehicle.receiving = true
      · rw [exec_canFrame fits receiving, State.foldl_offerFrame_others _ unnamed]
      · exact (if_pos (decide_eq_true fits)).trans (if_neg receiving)
  · rw [exec_canFrame fits receiving]
    exact congrArg Host.Outcome.next (State.foldl_offerFrame _ widths s)
  · intro field v fresh recorded
    have run := exec_canFrame_one fits receiving table others
    refine ⟨fun unread => ?_, fun long valid => ?_⟩
    · rw [run, State.offerFrame_none (AcceptEntry.value_none unread)]
    · rw [State.offerFrame_some named (AcceptEntry.value_some width long valid)] at run
      change exec (.canFrame ident dlc data) s = .next (s.refresh e v) at run
      refine ⟨fun c steering config => ?_, fun steering config => ?_, fun speed running fast view => ?_,
        fun speed slow => ?_, fun park inactive => ?_, fun park active => ?_, fun reverse => ?_⟩
      · rw [run, State.refresh, steering]
        simp only [Guide.steer, config]
        rfl
      · rw [run, State.refresh, steering]
        simp only [Guide.steer, config]
        rfl
      · rw [run, State.refresh, speed]
        exact congrArg Host.Outcome.next (if_pos ⟨running, fast, view⟩)
      · rw [run, State.refresh, speed]
        refine congrArg Host.Outcome.next (if_neg fun ⟨_, fast, view⟩ => ?_)
        obtain low | off | engaged := slow
        · exact absurd fast (Int.not_lt.2 low)
        · obtain other | other := view <;> exact absurd (off.symm.trans other) nofun
        · obtain other | other := view <;> exact absurd (engaged.symm.trans other) nofun
      · rw [run, State.refresh, park]
        exact congrArg Host.Outcome.next (if_neg (by exact ne_true_of_eq_false inactive))
      · rw [run, State.refresh, park]
        exact congrArg Host.Outcome.next (if_pos active)
      · intro old said kept
        have refreshes {value : Int} {candidate : Option Bool} (debounced : debounce old s.vehicle.candidate said = (value, candidate)) :
            exec (.canFrame ident dlc data) s = .next (kept value candidate).evaluateReverse := by
          have isSaid : decide (v ≠ 0) = said := rfl
          have isOld : s.vehicle.records.reverse.value = old := rfl
          rw [run, State.refresh, reverse]
          simp only [isSaid, isOld, debounced]
          rfl
        refine ⟨fun agrees => refreshes (if_pos agrees.symm), fun differs again => refreshes ?_,
          fun differs once => refreshes ?_⟩
        · exact (if_neg (Ne.symm differs)).trans (if_pos again)
        · exact (if_neg (Ne.symm differs)).trans (if_neg once)

end Sys2Proof.Machine

end

/-! ## Proofs: rounding, curvature, blending and conversion (5.8, 7.2, 9.4) -/
section

namespace Sys2Proof.Machine

/-! ### Rounding (R113) -/

/-- The magnitude of a rounded quotient. -/
def rndMagnitude (p q : Int) : Nat := (2 * p.natAbs + q.natAbs) / (2 * q.natAbs)

theorem rndMagnitude_bounds {p q : Int} (nonzero : q ≠ 0) :
    2 * (q.natAbs * rndMagnitude p q) ≤ 2 * p.natAbs + q.natAbs ∧
      2 * p.natAbs < 2 * (q.natAbs * rndMagnitude p q) + q.natAbs := by
  have positive : 0 < q.natAbs := Int.natAbs_pos.2 nonzero
  have low := Nat.div_mul_le_self (2 * p.natAbs + q.natAbs) (2 * q.natAbs)
  have high := Nat.lt_div_mul_add (a := 2 * p.natAbs + q.natAbs) (b := 2 * q.natAbs) (by omega)
  have product : rndMagnitude p q * (2 * q.natAbs) = 2 * (q.natAbs * rndMagnitude p q) := by ring
  rw [← rndMagnitude, product] at low high
  omega

theorem rndDiv_zero (q : Int) : rndDiv 0 q = 0 := by
  have small : q.natAbs / (2 * q.natAbs) = 0 := by
    by_cases zero : q.natAbs = 0
    · rw [zero]
    · exact Nat.div_eq_of_lt (by omega)
  simp [rndDiv, small]

/-- The product of the divisor and the rounded quotient has the magnitude of the rounded one and the sign of the dividend. -/
theorem mul_rndDiv {p q : Int} (dividend : p ≠ 0) (nonzero : q ≠ 0) :
    q * rndDiv p q = if 0 < p then (q.natAbs * rndMagnitude p q : Int) else -(q.natAbs * rndMagnitude p q : Int) := by
  rw [rndDiv, ← rndMagnitude]
  obtain up | down := lt_or_gt_of_ne (Ne.symm nonzero)
  · have size : (q.natAbs : Int) = q := Int.natAbs_of_nonneg up.le
    rw [size]
    obtain positive | negative := lt_or_gt_of_ne (Ne.symm dividend)
    · rw [if_pos (mul_pos positive up).le, if_pos positive]
    · rw [if_neg (Int.not_le.2 (mul_neg_of_neg_of_pos negative up)), if_neg (Int.not_lt.2 negative.le), mul_neg]
  · have size : (q.natAbs : Int) = -q := Int.ofNat_natAbs_of_nonpos down.le
    rw [size]
    obtain positive | negative := lt_or_gt_of_ne (Ne.symm dividend)
    · rw [if_neg (Int.not_le.2 (mul_neg_of_pos_of_neg positive down)), if_pos positive, mul_neg, neg_mul]
    · rw [if_pos (mul_pos_of_neg_of_neg negative down).le, if_neg (Int.not_lt.2 negative.le), neg_mul, neg_neg]

/-- The rounded quotient is the nearest integer, halves going away from zero (R113). -/
theorem rndDiv_nearest {p q : Int} (nonzero : q ≠ 0) : 2 * |q * rndDiv p q - p| ≤ |q| ∧
    (2 * |q * rndDiv p q - p| = |q| → |p| < |q * rndDiv p q|) := by
  by_cases zero : p = 0
  · subst zero
    rw [rndDiv_zero]
    simp only [mul_zero, sub_zero, abs_zero]
    exact ⟨abs_nonneg q, fun half => absurd half.symm (abs_pos.2 nonzero).ne'⟩
  · obtain ⟨low, high⟩ := rndMagnitude_bounds (p := p) nonzero
    rw [mul_rndDiv zero nonzero]
    have bound : 0 < q.natAbs := Int.natAbs_pos.2 nonzero
    rw [← Nat.cast_mul]
    generalize q.natAbs * rndMagnitude p q = k at *
    split
    · simp only [Int.abs_eq_natAbs]
      omega
    · simp only [Int.abs_eq_natAbs]
      omega

/-- The part of a change that a part of a run gives lies between none and all of it (R114). -/
theorem rndDiv_between {change part run : Int} (start : 0 ≤ part) (inside : part < run) :
    min 0 change ≤ rndDiv (change * part) run ∧ rndDiv (change * part) run ≤ max 0 change := by
  have positive : 0 < run := by omega
  obtain ⟨near, -⟩ := rndDiv_nearest (p := change * part) (q := run) (by omega)
  rw [abs_of_pos positive] at near
  obtain ⟨low, high⟩ := abs_le.1 (show |run * rndDiv (change * part) run - change * part| ≤ run / 2 by omega)
  generalize rndDiv (change * part) run = r at *
  have half : 2 * (run / 2) ≤ run := by omega
  have least : run * min 0 change ≤ change * part := by
    obtain up | down := Int.le_total 0 change
    · rw [min_eq_left up, mul_zero]
      exact mul_nonneg up start
    · rw [min_eq_right down, mul_comm]
      exact mul_le_mul_of_nonpos_left inside.le down
  have most : change * part ≤ run * max 0 change := by
    obtain up | down := Int.le_total 0 change
    · rw [max_eq_right up, mul_comm run]
      exact mul_le_mul_of_nonneg_left inside.le up
    · rw [max_eq_left down, mul_zero]
      exact mul_nonpos_of_nonpos_of_nonneg down start
  constructor
  · by_contra less
    have below : run * r ≤ run * (min 0 change - 1) := mul_le_mul_of_nonneg_left (by omega) positive.le
    rw [mul_sub, mul_one] at below
    omega
  · by_contra more
    have above : run * (max 0 change + 1) ≤ run * r := mul_le_mul_of_nonneg_left (by omega) positive.le
    rw [mul_add, mul_one] at above
    omega

/-! ### Curvature (R114) -/

theorem curveFrom_last (a : Int) (p : Int × Int) (table : List (Int × Int)) {q : Int × Int}
    (last : (p :: table).getLast? = some q) (past : q.1 ≤ a) (ascending : ((p :: table).map Prod.fst).Pairwise (· < ·)) :
    curveFrom a p table = q.2 := by
  induction table generalizing p with
  | nil =>
    obtain rfl := Option.some.inj last
    rfl
  | cons x rest ih =>
    have last' : (x :: rest).getLast? = some q := by rwa [List.getLast?_cons_cons] at last
    have ordered : ((x :: rest).map Prod.fst).Pairwise (· < ·) := (List.pairwise_cons.1 ascending).2
    have upTo : x.1 ≤ q.1 := by
      have member := List.mem_of_getLast? last'
      obtain rfl | later := List.mem_cons.1 member
      · exact le_refl _
      · exact ((List.pairwise_cons.1 ordered).1 _ (List.mem_map_of_mem later)).le
    rw [curveFrom, if_neg (by omega)]
    exact ih x last' ordered

theorem curveFrom_segment (a : Int) (p : Int × Int) (before : List (Int × Int)) {x y : Int × Int} {after : List (Int × Int)}
    {table : List (Int × Int)} (whole : p :: table = before ++ x :: y :: after)
    (ascending : ((p :: table).map Prod.fst).Pairwise (· < ·)) (low : x.1 ≤ a) (high : a < y.1) :
    curveFrom a p table = curveBetween x.1 x.2 y.1 y.2 a := by
  induction before generalizing p table with
  | nil =>
    obtain ⟨rfl, rfl⟩ := List.cons.inj whole
    rw [curveFrom, if_pos high]
  | cons b before ih =>
    obtain ⟨rfl, rest⟩ := List.cons.inj whole
    have ordered : (table.map Prod.fst).Pairwise (· < ·) := (List.pairwise_cons.1 ascending).2
    cases table with
    | nil => simp at rest
    | cons c table =>
      have upTo : c.1 ≤ x.1 := by
        cases before with
        | nil => exact (congrArg Prod.fst (List.cons.inj rest).1).le
        | cons d before =>
          obtain ⟨rfl, tail⟩ := List.cons.inj rest
          refine ((List.pairwise_cons.1 ordered).1 x.1 (List.mem_map_of_mem ?_)).le
          rw [tail]
          simp
      rw [curveFrom, if_neg (by omega)]
      exact ih c rest ordered

theorem curvature_head {table : List (Int × Int)} {p : Int × Int} {a : Int} (head : table.head? = some p) (low : a ≤ p.1) :
    curvature table a = p.2 := by
  cases table with
  | nil => simp at head
  | cons x rest =>
    obtain rfl := Option.some.inj head
    exact if_pos low

theorem curvature_last {table : List (Int × Int)} {p : Int × Int} {a : Int}
    (ascending : (table.map Prod.fst).Pairwise (· < ·)) (last : table.getLast? = some p) (high : p.1 ≤ a) :
    curvature table a = p.2 := by
  cases table with
  | nil => simp at last
  | cons x rest =>
    by_cases low : a ≤ x.1
    · have same : p = x := by
        obtain rfl | later := List.mem_cons.1 (List.mem_of_getLast? last)
        · rfl
        · have := (List.pairwise_cons.1 ascending).1 _ (List.mem_map_of_mem later)
          omega
      rw [same]
      exact if_pos low
    · exact (if_neg low).trans (curveFrom_last a x rest last high ascending)

theorem curvature_segment {before after : List (Int × Int)} {p q : Int × Int} {a : Int}
    (ascending : ((before ++ p :: q :: after).map Prod.fst).Pairwise (· < ·)) (low : p.1 ≤ a) (high : a < q.1) :
    curvature (before ++ p :: q :: after) a = p.2 + rndDiv ((q.2 - p.2) * (a - p.1)) (q.1 - p.1) := by
  generalize whole : before ++ p :: q :: after = table at *
  cases table with
  | nil => simp at whole
  | cons x rest =>
    by_cases start : a ≤ x.1
    · cases before with
      | nil =>
        obtain ⟨rfl, rfl⟩ := List.cons.inj whole
        have same : a - p.1 = 0 := by omega
        rw [same, mul_zero, rndDiv_zero, add_zero]
        exact if_pos start
      | cons b before =>
        obtain ⟨rfl, tail⟩ := List.cons.inj whole
        have := (List.pairwise_cons.1 ascending).1 p.1 (List.mem_map_of_mem (by rw [← tail]; simp))
        omega
    · exact (if_neg start).trans (curveFrom_segment a x before whole.symm ascending low high)

/-! ### Pixels (R87, R159, R160) -/

theorem blendChannel_full (fg bg : Nat) : blendChannel 255 fg bg = fg := by
  unfold blendChannel
  omega

theorem blendChannel_none (fg bg : Nat) : blendChannel 0 fg bg = bg := by
  unfold blendChannel
  omega

theorem toNat_clampInt {v : Int} : ((clampInt 0 255 v).toNat : Int) = min 255 (max 0 v) := by
  rw [clampInt_eq _ _ _ (by decide)]
  omega

theorem gainedLuma_eq (y g : Int) : gainedLuma y g = min 235 (max 16 (16 + ((y - 16) * g + 8) / 16)) :=
  clampInt_eq _ _ _ (by decide)

/-- Settles O48. -/
theorem curvatureAndPixelsAreExact : Obligations.CurvatureAndPixelsAreExact := by
  refine ⟨⟨fun p q nonzero => rndDiv_nearest nonzero, fun table a ascending => ⟨fun p head low => curvature_head head low,
      fun p last high => curvature_last ascending last high, fun before p q after whole low high => ?_⟩⟩,
    fun p ga bg alpha global => ?_, fun y u v => ⟨toNat_clampInt, toNat_clampInt, toNat_clampInt⟩, gainedLuma_eq,
    fun y low high => ?_⟩
  · subst whole
    have value := curvature_segment ascending low high
    have between := rndDiv_between (change := q.2 - p.2) (part := a - p.1) (run := q.1 - p.1) (by omega) (by omega)
    rw [value]
    refine ⟨rfl, ?_, ?_⟩ <;> omega
  · intro a
    have effective : effectiveAlpha p.alpha ga = a := rfl
    refine ⟨fun full => ?_, fun none => ?_, rfl, rfl, rfl, ?_, ?_⟩
    · rw [blend, effective, full, blendChannel_full, blendChannel_full, blendChannel_full]
    · rw [blend, effective, none, blendChannel_none, blendChannel_none, blendChannel_none]
    · have := Nat.div_mul_le_self (p.alpha * ga + 127) 255
      omega
    · have := Nat.lt_div_mul_add (a := p.alpha * ga + 127) (b := 255) (by decide)
      omega
  · rw [gainedLuma_eq]
    omega

end Sys2Proof.Machine

end

/-! ## Proofs: the span table keeps the six highest spans of each row in table order (R125) -/
section

namespace Sys2Proof.Machine

/-! ### Table order -/

/-- `x` stands no later than `y` in table order: by row, then start, then end (R125). -/
def Span.upTo (x y : Span) : Prop :=
  x.row < y.row ∨ (x.row = y.row ∧ (x.startCol < y.startCol ∨ (x.startCol = y.startCol ∧ x.endCol ≤ y.endCol)))

theorem Span.upTo_trans {x y z : Span} (h : x.upTo y) (g : y.upTo z) : x.upTo z := by
  unfold Span.upTo at *
  omega

theorem upTo_of_spanBefore {x y : Span} (h : spanBefore x y = true) : x.upTo y := by
  unfold spanBefore at h
  unfold Span.upTo
  repeat' split at h
  all_goals simp only [decide_eq_true_eq] at h; omega

theorem upTo_of_not_spanBefore {x y : Span} (h : ¬ spanBefore x y = true) : y.upTo x := by
  unfold spanBefore at h
  unfold Span.upTo
  repeat' split at h
  all_goals simp only [decide_eq_true_eq] at h; omega

theorem insertSpan_perm (x : Span) (t : List Span) : (insertSpan x t).Perm (x :: t) := by
  induction t with
  | nil => exact .refl _
  | cons y rest ih =>
    unfold insertSpan
    split
    · exact .refl _
    · exact (ih.cons y).trans (.swap x y rest)

theorem insertSpan_ordered (x : Span) {t : List Span} (ordered : t.Pairwise Span.upTo) : (insertSpan x t).Pairwise Span.upTo := by
  induction t with
  | nil => exact List.pairwise_singleton _ _
  | cons y rest ih =>
    obtain ⟨first, later⟩ := List.pairwise_cons.1 ordered
    unfold insertSpan
    split
    · next before =>
      have ahead := upTo_of_spanBefore before
      refine List.pairwise_cons.2 ⟨fun z mem => ?_, ordered⟩
      obtain rfl | inRest := List.mem_cons.1 mem
      · exact ahead
      · exact Span.upTo_trans ahead (first z inRest)
    · next behind =>
      refine List.pairwise_cons.2 ⟨fun z mem => ?_, ih later⟩
      obtain rfl | inRest := List.mem_cons.1 ((insertSpan_perm x rest).mem_iff.1 mem)
      · exact upTo_of_not_spanBefore behind
      · exact first z inRest

/-! ### Rank -/

theorem Span.ranksOver_refl (x : Span) : x.ranksOver x := .inr ⟨rfl, .inr ⟨rfl, Nat.le_refl _⟩⟩

theorem Span.ranksOver_trans {x y z : Span} (h : x.ranksOver y) (g : y.ranksOver z) : x.ranksOver z := by
  unfold Span.ranksOver at *
  omega

theorem ranksOver_of_dropsFirst {a b : Span} (h : dropsFirst a b = true) : b.ranksOver a := by
  unfold dropsFirst at h
  unfold Span.ranksOver
  repeat' split at h
  all_goals simp only [decide_eq_true_eq] at h; omega

theorem ranksOver_of_not_dropsFirst {a b : Span} (h : ¬ dropsFirst a b = true) : a.ranksOver b := by
  unfold dropsFirst at h
  unfold Span.ranksOver
  repeat' split at h
  all_goals simp only [decide_eq_true_eq] at h; omega

/-- The span that a full row drops is one of its candidates, and none of them ranks below it (R125). -/
theorem droppedOf_lowest (x : Span) (l : List Span) :
    droppedOf x l ∈ x :: l ∧ ∀ y ∈ x :: l, y.ranksOver (droppedOf x l) := by
  induction l generalizing x with
  | nil => exact ⟨List.mem_singleton_self x, fun y mem => List.mem_singleton.1 mem ▸ x.ranksOver_refl⟩
  | cons z rest ih =>
    unfold droppedOf
    split
    · next lower =>
      obtain ⟨member, least⟩ := ih z
      refine ⟨List.mem_cons_of_mem x member, fun y mem => ?_⟩
      obtain rfl | inRest := List.mem_cons.1 mem
      · exact Span.ranksOver_trans (ranksOver_of_dropsFirst lower) (least z List.mem_cons_self)
      · exact least y inRest
    · next higher =>
      obtain ⟨member, least⟩ := ih x
      refine ⟨?_, fun y mem => ?_⟩
      · obtain same | inRest := List.mem_cons.1 member
        · rw [same]
          exact List.mem_cons_self
        · exact List.mem_cons_of_mem x (List.mem_cons_of_mem z inRest)
      · obtain rfl | inTail := List.mem_cons.1 mem
        · exact least y List.mem_cons_self
        · obtain rfl | inRest := List.mem_cons.1 inTail
          · exact Span.ranksOver_trans (ranksOver_of_not_dropsFirst higher) (least x List.mem_cons_self)
          · exact least y (List.mem_cons_of_mem x inRest)

/-! ### Rows -/

theorem mem_rowSpans {t : List Span} {r : Nat} {x : Span} : x ∈ rowSpans t r ↔ x ∈ t ∧ x.row = r := by
  simp [rowSpans]

theorem rowSpans_cons_same (x : Span) (t : List Span) : rowSpans (x :: t) x.row = x :: rowSpans t x.row :=
  List.filter_cons_of_pos (by simp)

theorem rowSpans_cons_other {x : Span} {r : Nat} (h : x.row ≠ r) (t : List Span) : rowSpans (x :: t) r = rowSpans t r :=
  List.filter_cons_of_neg (by simpa using h)

theorem rowSpans_concat_same (t : List Span) (x : Span) : rowSpans (t ++ [x]) x.row = rowSpans t x.row ++ [x] := by
  simp [rowSpans]

theorem rowSpans_concat_other {x : Span} {r : Nat} (h : x.row ≠ r) (t : List Span) : rowSpans (t ++ [x]) r = rowSpans t r := by
  simp [rowSpans, h]

theorem rowSpans_erase_same (t : List Span) (out : Span) : rowSpans (t.erase out) out.row = (rowSpans t out.row).erase out := by
  induction t with
  | nil => rfl
  | cons x rest ih =>
    by_cases same : x = out
    · subst same
      rw [List.erase_cons_head, rowSpans_cons_same, List.erase_cons_head]
    · rw [List.erase_cons_tail (by simpa using same)]
      by_cases row : x.row = out.row
      · rw [← row] at ih ⊢
        rw [rowSpans_cons_same, rowSpans_cons_same, List.erase_cons_tail (by simpa using same), ih]
      · rw [rowSpans_cons_other row, rowSpans_cons_other row, ih]

theorem rowSpans_erase_other (t : List Span) {out : Span} {r : Nat} (h : out.row ≠ r) :
    rowSpans (t.erase out) r = rowSpans t r := by
  induction t with
  | nil => rfl
  | cons x rest ih =>
    by_cases same : x = out
    · subst same
      rw [List.erase_cons_head, rowSpans_cons_other h]
    · rw [List.erase_cons_tail (by simpa using same)]
      by_cases row : x.row = r
      · subst row
        rw [rowSpans_cons_same, rowSpans_cons_same, ih]
      · rw [rowSpans_cons_other row, rowSpans_cons_other row, ih]

theorem rowSpans_perm {t u : List Span} (h : t.Perm u) (r : Nat) : (rowSpans t r).Perm (rowSpans u r) := h.filter _

/-- What the table holds of a row after the spans `offered` to it: all, or the six that rank highest (R125). -/
structure RowHolds (kept offered : List Span) : Prop where
  count : kept.length = min 6 offered.length
  best : ∃ lost, (kept ++ lost).Perm offered ∧ ∀ x ∈ kept, ∀ y ∈ lost, x.ranksOver y

theorem RowHolds.congr {kept kept' offered : List Span} (h : RowHolds kept offered) (same : kept'.Perm kept) :
    RowHolds kept' offered := by
  obtain ⟨count, lost, perm, ranks⟩ := h
  exact ⟨same.length_eq.trans count, lost, (same.append_right lost).trans perm, fun x mem => ranks x (same.mem_iff.1 mem)⟩

theorem RowHolds.whole {kept offered : List Span} (h : RowHolds kept offered) (few : offered.length ≤ 6) : kept.Perm offered := by
  obtain ⟨count, lost, perm, -⟩ := h
  have lengths := perm.length_eq
  rw [List.length_append] at lengths
  obtain rfl := List.eq_nil_of_length_eq_zero (by omega : lost.length = 0)
  rwa [List.append_nil] at perm

/-- A row with room takes the span. -/
theorem RowHolds.add {kept offered : List Span} (h : RowHolds kept offered) (room : kept.length < 6) (x : Span) :
    RowHolds (x :: kept) (offered ++ [x]) := by
  have few : offered.length < 6 := by
    have := h.count
    omega
  have perm := h.whole few.le
  refine ⟨?_, [], ?_, fun _ _ _ none => nomatch none⟩
  · rw [List.length_cons, List.length_append, perm.length_eq, List.length_singleton]
    omega
  · rw [List.append_nil]
    exact (perm.cons x).trans (List.perm_append_singleton x offered).symm

/-- A full row drops the lowest of its seven candidates. -/
theorem RowHolds.drop {kept offered : List Span} (h : RowHolds kept offered) (full : 6 ≤ kept.length) (x : Span) :
    RowHolds ((x :: kept).erase (droppedOf x kept)) (offered ++ [x]) := by
  obtain ⟨member, least⟩ := droppedOf_lowest x kept
  have split := List.perm_cons_erase member
  generalize droppedOf x kept = out at *
  obtain ⟨count, lost, perm, ranks⟩ := h
  refine ⟨?_, out :: lost, ?_, fun z inKept y inLost => ?_⟩
  · rw [List.length_erase_of_mem member, List.length_cons, List.length_append, List.length_singleton]
    omega
  · have moved : ((x :: kept).erase out ++ out :: lost).Perm (x :: kept ++ lost) :=
      List.perm_middle.trans ((split.symm).append_right lost)
    exact (moved.trans (perm.cons x)).trans (List.perm_append_singleton x offered).symm
  · obtain rfl | old := List.mem_cons.1 inLost
    · exact least z (List.mem_of_mem_erase inKept)
    · by_cases same : out = x
      · rw [same, List.erase_cons_head] at inKept
        exact ranks z inKept y old
      · have outKept : out ∈ kept := (List.mem_cons.1 member).resolve_left same
        exact Span.ranksOver_trans (least z (List.mem_of_mem_erase inKept)) (ranks out outKept y old)

/-! ### The whole table -/

/-- What a build's table holds after the spans `offered` (R125). -/
structure BuildTable.Holds (b : BuildTable) (offered : List Span) : Prop where
  ordered : b.spans.Pairwise Span.upTo
  rows : ∀ r, RowHolds (rowSpans b.spans r) (rowSpans offered r)
  dropped : b.dropped = true ↔ ∃ r, 6 < (rowSpans offered r).length

theorem BuildTable.holds_empty : BuildTable.Holds { spans := [], dropped := false } [] where
  ordered := List.Pairwise.nil
  rows _ := ⟨rfl, [], .refl _, fun _ none => nomatch none⟩
  dropped := ⟨nofun, fun ⟨_, many⟩ => absurd many (by simp [rowSpans])⟩

theorem BuildTable.Holds.add {b : BuildTable} {offered : List Span} (h : b.Holds offered) (x : Span) :
    (b.add x).Holds (offered ++ [x]) := by
  have inserted := insertSpan_perm x b.spans
  have ordered := insertSpan_ordered x h.ordered
  have row := h.rows x.row
  have longer : (∃ r, 6 < (rowSpans (offered ++ [x]) r).length) ↔
      (∃ r, 6 < (rowSpans offered r).length) ∨ 6 ≤ (rowSpans offered x.row).length := by
    constructor
    · rintro ⟨r, many⟩
      by_cases same : x.row = r
      · subst same
        rw [rowSpans_concat_same, List.length_append, List.length_singleton] at many
        exact .inr (by omega)
      · rw [rowSpans_concat_other same] at many
        exact .inl ⟨r, many⟩
    · rintro (⟨r, many⟩ | full)
      · refine ⟨r, ?_⟩
        by_cases same : x.row = r
        · subst same
          rw [rowSpans_concat_same, List.length_append]
          omega
        · rwa [rowSpans_concat_other same]
      · refine ⟨x.row, ?_⟩
        rw [rowSpans_concat_same, List.length_append, List.length_singleton]
        omega
  have count := row.count
  unfold BuildTable.add
  split
  · next room =>
    refine ⟨ordered, fun r => ?_, ?_⟩
    · by_cases same : x.row = r
      · subst same
        rw [rowSpans_concat_same]
        exact (row.add room x).congr ((rowSpans_perm inserted _).trans (by rw [rowSpans_cons_same]))
      · rw [rowSpans_concat_other same]
        exact (h.rows r).congr ((rowSpans_perm inserted _).trans (by rw [rowSpans_cons_other same]))
    · rw [longer, ← h.dropped]
      exact ⟨.inl, fun dropped => dropped.resolve_right (by omega)⟩
  · next full =>
    dsimp only
    obtain ⟨member, -⟩ := droppedOf_lowest x (rowSpans b.spans x.row)
    have outRow : (droppedOf x (rowSpans b.spans x.row)).row = x.row := by
      obtain same | inRow := List.mem_cons.1 member
      · rw [same]
      · exact (mem_rowSpans.1 inRow).2
    have erased : ((insertSpan x b.spans).erase (droppedOf x (rowSpans b.spans x.row))).Perm
        ((x :: b.spans).erase (droppedOf x (rowSpans b.spans x.row))) := inserted.erase _
    refine ⟨ordered.sublist List.erase_sublist, fun r => ?_, ?_⟩
    · by_cases same : x.row = r
      · subst same
        rw [rowSpans_concat_same]
        refine (row.drop (by omega) x).congr ((rowSpans_perm erased _).trans ?_)
        have same := rowSpans_erase_same (x :: b.spans) (droppedOf x (rowSpans b.spans x.row))
        rw [outRow, rowSpans_cons_same] at same
        rw [same]
      · rw [rowSpans_concat_other same]
        refine (h.rows r).congr ((rowSpans_perm erased _).trans ?_)
        rw [rowSpans_erase_other _ (by rwa [outRow]), rowSpans_cons_other same]
    · rw [longer]
      exact ⟨fun _ => .inr (by omega), fun _ => rfl⟩

theorem BuildTable.Holds.foldl_add {b : BuildTable} {offered : List Span} (h : b.Holds offered) (more : List Span) :
    (more.foldl BuildTable.add b).Holds (offered ++ more) := by
  induction more generalizing b offered with
  | nil => rwa [List.append_nil]
  | cons x rest ih =>
    have := ih (h.add x)
    rwa [List.append_assoc] at this

section
variable {b : BuildTable} {offered : List Span} (h : b.Holds offered)
include h

theorem BuildTable.Holds.mem_offered {x : Span} (mem : x ∈ b.spans) : x ∈ offered := by
  obtain ⟨lost, perm, -⟩ := (h.rows x.row).best
  exact (mem_rowSpans.1 (perm.mem_iff.1 (List.mem_append_left lost (mem_rowSpans.2 ⟨mem, rfl⟩)))).1

theorem BuildTable.Holds.mem_spans (whole : b.dropped = false) {x : Span} (mem : x ∈ offered) : x ∈ b.spans := by
  have few : (rowSpans offered x.row).length ≤ 6 := by
    by_contra many
    exact ne_true_of_eq_false whole (h.dropped.2 ⟨x.row, Nat.lt_of_not_le many⟩)
  exact (mem_rowSpans.1 (((h.rows x.row).whole few).mem_iff.2 (mem_rowSpans.2 ⟨mem, rfl⟩))).1

end

end Sys2Proof.Machine

end

/-! ## Proofs: what a guide build draws (R119 to R125) -/
section

namespace Sys2Proof.Machine

/-! ### Every span offered to the table is a clipped one (R124) -/

theorem BuildTable.addClipped_eq (b : BuildTable) (row lo hi : Int) (band : SpanBand) :
    b.addClipped row lo hi band = (clipped row lo hi band).foldl BuildTable.add b := by
  unfold BuildTable.addClipped clipped
  by_cases off : row < 0 ∨ 719 < row
  · rw [if_pos off, if_neg (by omega)]
    rfl
  · rw [if_neg off]
    by_cases empty : min hi 1279 < max lo 0
    · rw [if_pos empty, if_neg (by omega)]
      rfl
    · rw [if_neg empty, if_pos (by omega)]
      rfl

theorem foldl_add_flatMap {α : Type} {f : BuildTable → α → BuildTable} {g : α → List Span} (l : List α)
    (each : ∀ i ∈ l, ∀ b, f b i = (g i).foldl BuildTable.add b) (b : BuildTable) :
    l.foldl f b = (l.flatMap g).foldl BuildTable.add b := by
  induction l generalizing b with
  | nil => rfl
  | cons x rest ih =>
    rw [List.foldl_cons, List.flatMap_cons, List.foldl_append, each x List.mem_cons_self,
      ih fun i mem => each i (List.mem_cons_of_mem x mem)]

section
variable (c : GuideConfig)

theorem BuildTable.segment_eq (b : BuildTable) (d e : Int) (p q : PicturePoint) :
    b.segment p q c.lineHalf (c.bandOf e) = (c.segmentSpans (d, p) (e, q)).foldl BuildTable.add b := by
  unfold BuildTable.segment GuideConfig.segmentSpans
  by_cases level : p.v = q.v
  · have one : (max p.v q.v - min p.v q.v).toNat + 1 = 1 := by omega
    have row : min p.v q.v + ((0 : Nat) : Int) = p.v := by omega
    simp only [if_pos level, one, List.range_one, List.flatMap_cons, List.flatMap_nil, List.append_nil, row]
    rw [BuildTable.addClipped_eq]
    rfl
  · simp only [if_neg level]
    refine foldl_add_flatMap _ (fun i mem b => ?_) b
    have inside := List.mem_range.1 mem
    rw [BuildTable.segmentRow, BuildTable.addClipped_eq]
    have next : (if min p.v q.v + (i : Int) = max p.v q.v then min p.v q.v + (i : Int) else min p.v q.v + (i : Int) + 1) =
        min (min p.v q.v + (i : Int) + 1) (max p.v q.v) := by
      split <;> omega
    simp only [next]
    rfl

theorem BuildTable.crossbar_eq (b : BuildTable) (d e : Int) (l r : PicturePoint) :
    b.crossbar l r c.lineHalf (c.bandOf d) = (c.crossbarSpans (d, l) (e, r)).foldl BuildTable.add b := by
  unfold BuildTable.crossbar GuideConfig.crossbarSpans
  refine foldl_add_flatMap _ (fun i _ b => ?_) b
  exact b.addClipped_eq _ _ _ _

end

/-! ### The points of an edge up to its first invalid one (R121) -/

/-- The distances of a list and their points, up to the first that is invalid. -/
def drawnUpTo (point : Int → Option PicturePoint) (ds : List Int) : List (Int × PicturePoint) :=
  (ds.takeWhile fun d => (point d).isSome).filterMap fun d => (point d).map fun p => (d, p)

section
variable {point : Int → Option PicturePoint}

theorem drawnUpTo_cons_none {d : Int} (none : point d = Option.none) (ds : List Int) : drawnUpTo point (d :: ds) = [] := by
  simp [drawnUpTo, none]

theorem drawnUpTo_cons_some {d : Int} {p : PicturePoint} (some : point d = Option.some p) (ds : List Int) :
    drawnUpTo point (d :: ds) = (d, p) :: drawnUpTo point ds := by
  simp [drawnUpTo, some]

theorem head_drawnUpTo {ds : List Int} {e : Int} {q : PicturePoint} :
    (drawnUpTo point ds).head? = some (e, q) ↔ ∃ after, ds = e :: after ∧ point e = some q := by
  cases ds with
  | nil => simp [drawnUpTo]
  | cons d ds =>
    cases known : point d with
    | none =>
      rw [drawnUpTo_cons_none known]
      refine ⟨nofun, fun ⟨after, same, valid⟩ => ?_⟩
      obtain ⟨rfl, -⟩ := List.cons.inj same
      rw [known] at valid
      exact nomatch valid
    | some p =>
      rw [drawnUpTo_cons_some known, List.head?_cons]
      constructor
      · intro same
        obtain ⟨rfl, rfl⟩ := Prod.mk.inj (Option.some.inj same)
        exact ⟨ds, rfl, known⟩
      · rintro ⟨after, same, valid⟩
        obtain ⟨rfl, -⟩ := List.cons.inj same
        rw [known] at valid
        rw [Option.some.inj valid]

/-- The pairs of points that follow each other on an edge, every point up to them being valid (R121). -/
theorem mem_zip_tail_drawnUpTo {ds : List Int} {d e : Int} {p q : PicturePoint} :
    ((d, p), (e, q)) ∈ (drawnUpTo point ds).zip (drawnUpTo point ds).tail ↔
      ∃ before after, ds = before ++ d :: e :: after ∧ (∀ g ∈ before, point g ≠ none) ∧ point d = some p ∧
        point e = some q := by
  induction ds with
  | nil => simp [drawnUpTo]
  | cons a ds ih =>
    cases known : point a with
    | none =>
      rw [drawnUpTo_cons_none known]
      refine ⟨nofun, fun ⟨before, after, whole, valid, here, _⟩ => ?_⟩
      cases before with
      | nil =>
        obtain ⟨rfl, -⟩ := List.cons.inj whole
        rw [known] at here
        exact nomatch here
      | cons b before =>
        obtain ⟨rfl, -⟩ := List.cons.inj whole
        exact absurd known (valid a List.mem_cons_self)
    | some pa =>
      rw [drawnUpTo_cons_some known, List.tail_cons]
      have first : ((d, p), (e, q)) ∈ ((a, pa) :: drawnUpTo point ds).zip (drawnUpTo point ds) ↔
          ((d, p) = (a, pa) ∧ (drawnUpTo point ds).head? = some (e, q)) ∨
            ((d, p), (e, q)) ∈ (drawnUpTo point ds).zip (drawnUpTo point ds).tail := by
        cases drawnUpTo point ds with
        | nil => simp
        | cons y rest => simp [Prod.ext_iff, and_assoc, eq_comm]
      rw [first, ih, head_drawnUpTo]
      constructor
      · rintro (⟨same, after, rfl, valid⟩ | ⟨before, after, rfl, valid, here, next⟩)
        · obtain ⟨rfl, rfl⟩ := Prod.mk.inj same
          exact ⟨[], after, rfl, nofun, known, valid⟩
        · refine ⟨a :: before, after, rfl, fun g mem => ?_, here, next⟩
          obtain rfl | inRest := List.mem_cons.1 mem
          · simp [known]
          · exact valid g inRest
      · rintro ⟨before, after, whole, valid, here, next⟩
        cases before with
        | nil =>
          obtain ⟨rfl, rfl⟩ := List.cons.inj whole
          rw [known] at here
          exact .inl ⟨by rw [Option.some.inj here], after, rfl, next⟩
        | cons b before =>
          obtain ⟨rfl, rfl⟩ := List.cons.inj whole
          exact .inr ⟨before, after, rfl, fun g mem => valid g (List.mem_cons_of_mem a mem), here, next⟩

end

/-- The pairs of points of both edges at one distance, every point up to it being valid on both (R122). -/
theorem mem_zip_drawnUpTo {left right : Int → Option PicturePoint} {ds : List Int} {d e : Int} {l r : PicturePoint} :
    ((d, l), (e, r)) ∈ (drawnUpTo left ds).zip (drawnUpTo right ds) ↔
      ∃ before after, ds = before ++ d :: after ∧ e = d ∧ (∀ g ∈ before, left g ≠ none ∧ right g ≠ none) ∧
        left d = some l ∧ right d = some r := by
  induction ds with
  | nil => simp [drawnUpTo]
  | cons a ds ih =>
    have stops (bad : left a = none ∨ right a = none) : ¬ ∃ before after, a :: ds = before ++ d :: after ∧ e = d ∧
        (∀ g ∈ before, left g ≠ none ∧ right g ≠ none) ∧ left d = some l ∧ right d = some r := by
      rintro ⟨before, after, whole, -, valid, hereLeft, hereRight⟩
      cases before with
      | nil =>
        obtain ⟨rfl, -⟩ := List.cons.inj whole
        simp [hereLeft, hereRight] at bad
      | cons b before =>
        obtain ⟨rfl, -⟩ := List.cons.inj whole
        obtain ⟨validLeft, validRight⟩ := valid a List.mem_cons_self
        exact bad.elim validLeft validRight
    cases knownLeft : left a with
    | none =>
      rw [drawnUpTo_cons_none knownLeft]
      exact ⟨nofun, fun h => absurd h (stops (.inl knownLeft))⟩
    | some la =>
      cases knownRight : right a with
      | none =>
        rw [drawnUpTo_cons_none knownRight, List.zip_nil_right]
        exact ⟨nofun, fun h => absurd h (stops (.inr knownRight))⟩
      | some ra =>
        rw [drawnUpTo_cons_some knownLeft, drawnUpTo_cons_some knownRight, List.zip_cons_cons, List.mem_cons, ih]
        constructor
        · rintro (same | ⟨before, after, rfl, rfl, valid, hereLeft, hereRight⟩)
          · simp only [Prod.mk.injEq] at same
            obtain ⟨⟨rfl, rfl⟩, rfl, rfl⟩ := same
            exact ⟨[], ds, rfl, rfl, nofun, knownLeft, knownRight⟩
          · refine ⟨a :: before, after, rfl, rfl, fun g mem => ?_, hereLeft, hereRight⟩
            obtain rfl | inRest := List.mem_cons.1 mem
            · simp [knownLeft, knownRight]
            · exact valid g inRest
        · rintro ⟨before, after, whole, rfl, valid, hereLeft, hereRight⟩
          cases before with
          | nil =>
            obtain ⟨rfl, rfl⟩ := List.cons.inj whole
            rw [knownLeft] at hereLeft
            rw [knownRight] at hereRight
            exact .inl (by rw [Option.some.inj hereLeft, Option.some.inj hereRight])
          | cons b before =>
            obtain ⟨rfl, rfl⟩ := List.cons.inj whole
            exact .inr ⟨before, after, rfl, rfl, fun g mem => valid g (List.mem_cons_of_mem a mem), hereLeft, hereRight⟩

end Sys2Proof.Machine

end

/-! ## Proofs: a guide build is bounded, drawn as specified and handed over (R117 to R125) -/
section

namespace Sys2Proof.Machine

/-! ### A build offers the spans of its edges and crossbars (R121, R122) -/

section
variable (c : GuideConfig) {kappa side : Int}

/-- An edge's distances from `ds` on with their projected points. -/
def GuideConfig.edgeOn (kappa side : Int) (ds : List Int) : List (Int × Projected) :=
  ds.map fun d => (d, project c.homography (side * c.halfWidth + pathOffset kappa d c.overhang) d)

theorem BuildTable.edgeFrom_eq (b : BuildTable) (d0 : Int) (p : PicturePoint) (ds : List Int) :
    BuildTable.edgeFrom c b p (c.edgeOn kappa side ds) =
      ((((d0, p) :: drawnUpTo (c.edgePoint kappa side) ds).zip (drawnUpTo (c.edgePoint kappa side) ds)).flatMap fun x =>
        c.segmentSpans x.1 x.2).foldl BuildTable.add b := by
  induction ds generalizing b d0 p with
  | nil => rfl
  | cons d ds ih =>
    have here : (project c.homography (side * c.halfWidth + pathOffset kappa d c.overhang) d).point =
      c.edgePoint kappa side d := rfl
    cases known : c.edgePoint kappa side d with
    | none =>
      rw [drawnUpTo_cons_none known, GuideConfig.edgeOn, List.map_cons, BuildTable.edgeFrom, here, known]
      rfl
    | some q =>
      rw [drawnUpTo_cons_some known, GuideConfig.edgeOn, List.map_cons, BuildTable.edgeFrom, here, known]
      rw [List.zip_cons_cons, List.flatMap_cons, List.foldl_append, ← BuildTable.segment_eq]
      exact ih _ d q

theorem GuideConfig.drawnPoints_eq : c.drawnPoints kappa side = drawnUpTo (c.edgePoint kappa side) (0 :: c.marks) := rfl

theorem BuildTable.edge_eq (b : BuildTable) :
    BuildTable.edge c b (c.edge kappa side) =
      (((c.drawnPoints kappa side).zip (c.drawnPoints kappa side).tail).flatMap fun x =>
        c.segmentSpans x.1 x.2).foldl BuildTable.add b := by
  have here : (project c.homography (side * c.halfWidth + pathOffset kappa 0 c.overhang) 0).point =
    c.edgePoint kappa side 0 := rfl
  change BuildTable.edge c b ((0, project c.homography (side * c.halfWidth + pathOffset kappa 0 c.overhang) 0) ::
    c.edgeOn kappa side c.marks) = _
  rw [BuildTable.edge, here, c.drawnPoints_eq]
  cases known : c.edgePoint kappa side 0 with
  | none =>
    rw [drawnUpTo_cons_none known]
    rfl
  | some p =>
    rw [drawnUpTo_cons_some known, List.tail_cons]
    exact BuildTable.edgeFrom_eq c b 0 p c.marks

theorem BuildTable.crossbarsFrom_eq (b : BuildTable) (ds : List Int) :
    BuildTable.crossbarsFrom c b (c.edgeOn kappa (-1) ds) (c.edgeOn kappa 1 ds) =
      (((drawnUpTo (c.edgePoint kappa (-1)) ds).zip (drawnUpTo (c.edgePoint kappa 1) ds)).flatMap fun x =>
        c.crossbarSpans x.1 x.2).foldl BuildTable.add b := by
  induction ds generalizing b with
  | nil => rfl
  | cons d ds ih =>
    have here (side : Int) : (project c.homography (side * c.halfWidth + pathOffset kappa d c.overhang) d).point =
      c.edgePoint kappa side d := rfl
    rw [GuideConfig.edgeOn, GuideConfig.edgeOn, List.map_cons, List.map_cons, BuildTable.crossbarsFrom, here, here]
    cases left : c.edgePoint kappa (-1) d with
    | none =>
      rw [drawnUpTo_cons_none left]
      rfl
    | some l =>
      cases right : c.edgePoint kappa 1 d with
      | none =>
        rw [drawnUpTo_cons_none right, List.zip_nil_right]
        rfl
      | some r =>
        rw [drawnUpTo_cons_some left, drawnUpTo_cons_some right, List.zip_cons_cons, List.flatMap_cons, List.foldl_append,
          ← BuildTable.crossbar_eq]
        exact ih _

theorem BuildTable.crossbars_eq (b : BuildTable) :
    BuildTable.crossbars c b (c.edge kappa (-1)) (c.edge kappa 1) =
      (((c.drawnPoints kappa (-1)).tail.zip (c.drawnPoints kappa 1).tail).flatMap fun x =>
        c.crossbarSpans x.1 x.2).foldl BuildTable.add b := by
  have here (side : Int) : (project c.homography (side * c.halfWidth + pathOffset kappa 0 c.overhang) 0).point =
    c.edgePoint kappa side 0 := rfl
  change BuildTable.crossbars c b
    ((0, project c.homography (-1 * c.halfWidth + pathOffset kappa 0 c.overhang) 0) :: c.edgeOn kappa (-1) c.marks)
    ((0, project c.homography (1 * c.halfWidth + pathOffset kappa 0 c.overhang) 0) :: c.edgeOn kappa 1 c.marks) = _
  rw [BuildTable.crossbars, here, here, c.drawnPoints_eq, c.drawnPoints_eq]
  cases left : c.edgePoint kappa (-1) 0 with
  | none =>
    rw [drawnUpTo_cons_none left]
    rfl
  | some l =>
    cases right : c.edgePoint kappa 1 0 with
    | none =>
      rw [drawnUpTo_cons_none right, List.tail_nil, List.zip_nil_right]
      rfl
    | some r =>
      rw [drawnUpTo_cons_some left, drawnUpTo_cons_some right]
      exact BuildTable.crossbarsFrom_eq c b c.marks

/-- The table of a build is that of the spans offered to it. -/
theorem GuideConfig.build_holds (kappa : Int) :
    BuildTable.Holds { spans := (c.build kappa).spans, dropped := (c.build kappa).dropped } (c.offered kappa) := by
  have table : (BuildTable.edge c (BuildTable.edge c { spans := [], dropped := false } (c.edge kappa (-1)))
      (c.edge kappa 1)).crossbars c (c.edge kappa (-1)) (c.edge kappa 1) =
        (c.offered kappa).foldl BuildTable.add { spans := [], dropped := false } := by
    rw [BuildTable.crossbars_eq, BuildTable.edge_eq, BuildTable.edge_eq, GuideConfig.offered]
    simp only [List.foldl_append]
  have holds := BuildTable.holds_empty.foldl_add (c.offered kappa)
  rw [List.nil_append, ← table] at holds
  exact holds

end

/-! ### Which spans are offered (R121 to R124) -/

theorem mem_clipped {x : Span} {row lo hi : Int} {band : SpanBand} :
    x ∈ clipped row lo hi band ↔ x.band = band ∧ x.clips row lo hi := by
  unfold clipped Span.clips
  split
  · next inside =>
    rw [List.mem_singleton]
    constructor
    · rintro rfl
      obtain ⟨above, below, ordered⟩ := inside
      exact ⟨rfl, Int.toNat_of_nonneg above, below, Int.toNat_of_nonneg (by omega), Int.toNat_of_nonneg (by omega),
        Int.toNat_le_toNat ordered⟩
    · rintro ⟨rfl, row, -, start, stop, -⟩
      rw [Span.mk.injEq]
      refine ⟨?_, ?_, ?_, rfl⟩ <;> omega
  · next outside =>
    refine ⟨nofun, fun ⟨_, row, low, start, stop, ordered⟩ => absurd ?_ outside⟩
    omega

section
variable {c : GuideConfig} {kappa : Int} {x : Span}

theorem mem_segmentSpans {d e : Int} {p q : PicturePoint} :
    x ∈ c.segmentSpans (d, p) (e, q) ↔ ∃ row : Int, x.band = c.bandAt e ∧ min p.v q.v ≤ row ∧ row ≤ max p.v q.v ∧
      let column := fun r : Int => if p.v = q.v then p.u else p.u + rndDiv ((q.u - p.u) * (p.v - r)) (p.v - q.v)
      let here := column row
      let next := if p.v = q.v then q.u else column (min (row + 1) (max p.v q.v))
      x.clips row (min here next - c.lineHalf) (max here next + c.lineHalf) := by
  simp only [GuideConfig.segmentSpans, List.mem_flatMap, List.mem_range, mem_clipped]
  constructor
  · rintro ⟨i, inside, band, clips⟩
    exact ⟨_, band, by omega, by omega, clips⟩
  · rintro ⟨row, band, low, high, clips⟩
    have back : min p.v q.v + ((row - min p.v q.v).toNat : Int) = row := by omega
    refine ⟨(row - min p.v q.v).toNat, by omega, band, ?_⟩
    rw [back]
    exact clips

theorem mem_crossbarSpans (half : 0 ≤ c.lineHalf) {d e : Int} {l r : PicturePoint} :
    x ∈ c.crossbarSpans (d, l) (e, r) ↔ ∃ row : Int, x.band = c.bandAt d ∧
      rndDiv (l.v + r.v) 2 - c.lineHalf ≤ row ∧ row ≤ rndDiv (l.v + r.v) 2 + c.lineHalf ∧
      x.clips row (min l.u r.u) (max l.u r.u) := by
  simp only [GuideConfig.crossbarSpans, List.mem_flatMap, List.mem_range, mem_clipped]
  constructor
  · rintro ⟨i, inside, band, clips⟩
    exact ⟨_, band, by omega, by omega, clips⟩
  · rintro ⟨row, band, low, high, clips⟩
    have back : rndDiv (l.v + r.v) 2 - c.lineHalf + ((row - (rndDiv (l.v + r.v) 2 - c.lineHalf)).toNat : Int) = row := by omega
    refine ⟨(row - (rndDiv (l.v + r.v) 2 - c.lineHalf)).toNat, by omega, band, ?_⟩
    rw [back]
    exact clips

theorem mem_edgeSpans {side : Int} :
    (x ∈ ((c.drawnPoints kappa side).zip (c.drawnPoints kappa side).tail).flatMap fun y => c.segmentSpans y.1 y.2) ↔
      ∃ before d e after p q, 0 :: c.marks = before ++ d :: e :: after ∧ (∀ g ∈ before, c.edgePoint kappa side g ≠ none) ∧
        c.edgePoint kappa side d = some p ∧ c.edgePoint kappa side e = some q ∧ x ∈ c.segmentSpans (d, p) (e, q) := by
  rw [List.mem_flatMap]
  constructor
  · rintro ⟨⟨⟨d, p⟩, e, q⟩, pair, inside⟩
    obtain ⟨before, after, whole, valid, here, next⟩ := mem_zip_tail_drawnUpTo.1 pair
    exact ⟨before, d, e, after, p, q, whole, valid, here, next, inside⟩
  · rintro ⟨before, d, e, after, p, q, whole, valid, here, next, inside⟩
    exact ⟨((d, p), (e, q)), mem_zip_tail_drawnUpTo.2 ⟨before, after, whole, valid, here, next⟩, inside⟩

theorem segmentDraws_iff : c.segmentDraws kappa x ↔ ∃ side : Int, (side = -1 ∨ side = 1) ∧
    x ∈ ((c.drawnPoints kappa side).zip (c.drawnPoints kappa side).tail).flatMap fun y => c.segmentSpans y.1 y.2 := by
  constructor
  · rintro ⟨side, before, d, e, after, p, q, row, sides, whole, valid, here, next, band, low, high, clips⟩
    exact ⟨side, sides, mem_edgeSpans.2 ⟨before, d, e, after, p, q, whole, valid, here, next,
      mem_segmentSpans.2 ⟨row, band, low, high, clips⟩⟩⟩
  · rintro ⟨side, sides, mem⟩
    obtain ⟨before, d, e, after, p, q, whole, valid, here, next, inside⟩ := mem_edgeSpans.1 mem
    obtain ⟨row, band, low, high, clips⟩ := mem_segmentSpans.1 inside
    exact ⟨side, before, d, e, after, p, q, row, sides, whole, valid, here, next, band, low, high, clips⟩

theorem tail_drawnPoints {side : Int} (d : Int × PicturePoint) : d ∈ (c.drawnPoints kappa side).tail →
    c.edgePoint kappa side 0 ≠ none ∧ (c.drawnPoints kappa side).tail = drawnUpTo (c.edgePoint kappa side) c.marks := by
  intro mem
  rw [c.drawnPoints_eq] at mem ⊢
  cases known : c.edgePoint kappa side 0 with
  | none =>
    rw [drawnUpTo_cons_none known] at mem
    exact nomatch mem
  | some p =>
    rw [drawnUpTo_cons_some known]
    exact ⟨nofun, rfl⟩

theorem crossbarDraws_iff (half : 0 ≤ c.lineHalf) : c.crossbarDraws kappa x ↔
    x ∈ ((c.drawnPoints kappa (-1)).tail.zip (c.drawnPoints kappa 1).tail).flatMap fun y => c.crossbarSpans y.1 y.2 := by
  rw [List.mem_flatMap]
  constructor
  · rintro ⟨before, d, after, l, r, row, whole, valid, left, right, band, low, high, clips⟩
    obtain ⟨validLeft, validRight⟩ := valid 0 List.mem_cons_self
    obtain ⟨p, bumperLeft⟩ := Option.ne_none_iff_exists'.1 validLeft
    obtain ⟨q, bumperRight⟩ := Option.ne_none_iff_exists'.1 validRight
    refine ⟨((d, l), (d, r)), ?_, (mem_crossbarSpans half).2 ⟨row, band, low, high, clips⟩⟩
    rw [c.drawnPoints_eq, c.drawnPoints_eq, drawnUpTo_cons_some bumperLeft, drawnUpTo_cons_some bumperRight]
    exact mem_zip_drawnUpTo.2 ⟨before, after, whole, rfl, fun g mem => valid g (List.mem_cons_of_mem 0 mem), left, right⟩
  · rintro ⟨⟨⟨d, l⟩, e, r⟩, pair, inside⟩
    obtain ⟨inLeft, inRight⟩ := List.of_mem_zip pair
    obtain ⟨bumperLeft, tailLeft⟩ := tail_drawnPoints _ inLeft
    obtain ⟨bumperRight, tailRight⟩ := tail_drawnPoints _ inRight
    rw [tailLeft, tailRight] at pair
    obtain ⟨before, after, whole, rfl, valid, left, right⟩ := mem_zip_drawnUpTo.1 pair
    obtain ⟨row, band, low, high, clips⟩ := (mem_crossbarSpans half).1 inside
    refine ⟨before, e, after, l, r, row, whole, fun g mem => ?_, left, right, band, low, high, clips⟩
    obtain rfl | later := List.mem_cons.1 mem
    · exact ⟨bumperLeft, bumperRight⟩
    · exact valid g later

/-- The spans offered are those that a segment of an edge or a crossbar gives (R121 to R124). -/
theorem mem_offered (half : 0 ≤ c.lineHalf) : x ∈ c.offered kappa ↔ c.segmentDraws kappa x ∨ c.crossbarDraws kappa x := by
  rw [segmentDraws_iff, crossbarDraws_iff half, GuideConfig.offered]
  simp only [List.mem_append]
  constructor
  · rintro ((left | right) | bars)
    · exact .inl ⟨-1, .inl rfl, left⟩
    · exact .inl ⟨1, .inr rfl, right⟩
    · exact .inr bars
  · rintro (⟨side, rfl | rfl, mem⟩ | bars)
    · exact .inl (.inl mem)
    · exact .inl (.inr mem)
    · exact .inr bars

/-- Every span offered lies on the screen (R124). -/
theorem offered_onScreen (mem : x ∈ c.offered kappa) : x.row ≤ 719 ∧ x.startCol ≤ x.endCol ∧ x.endCol ≤ 1279 := by
  have onScreen {row lo hi : Int} {band : SpanBand} (inside : x ∈ clipped row lo hi band) :
      x.row ≤ 719 ∧ x.startCol ≤ x.endCol ∧ x.endCol ≤ 1279 := by
    obtain ⟨-, row, low, start, stop, ordered⟩ := mem_clipped.1 inside
    omega
  simp only [GuideConfig.offered, GuideConfig.segmentSpans, GuideConfig.crossbarSpans, List.mem_append, List.mem_flatMap] at mem
  obtain (⟨_, _, _, _, inside⟩ | ⟨_, _, _, _, inside⟩) | ⟨_, _, _, _, inside⟩ := mem <;> exact onScreen inside

end

/-! ### The projection and the flags (R119, R120) -/

theorem project_behind {m : Homography} {x y : Int} (behind : m.h31 * x + m.h32 * y + m.h33 ≤ 0) :
    project m x y = { point := none, clamped := false } := if_pos behind

theorem project_ahead {m : Homography} {x y : Int} (ahead : 0 < m.h31 * x + m.h32 * y + m.h33) :
    let w := m.h31 * x + m.h32 * y + m.h33
    let u := rndDiv (m.h11 * x + m.h12 * y + m.h13) w
    let v := rndDiv (m.h21 * x + m.h22 * y + m.h23) w
    (project m x y).point = some { u := min 8191 (max (-4096) u), v := min 8191 (max (-4096) v) } ∧
      ((project m x y).clamped = true ↔ u < -4096 ∨ 8191 < u ∨ v < -4096 ∨ 8191 < v) := by
  intro w u v
  have run : project m x y = { point := some { u := clampInt (-4096) 8191 u, v := clampInt (-4096) 8191 v }
                               clamped := decide (clampInt (-4096) 8191 u ≠ u ∨ clampInt (-4096) 8191 v ≠ v) } :=
    if_neg (Int.not_le.2 ahead)
  rw [run, clampInt_eq _ _ _ (by decide), clampInt_eq _ _ _ (by decide)]
  refine ⟨rfl, ?_⟩
  rw [decide_eq_true_eq]
  omega

/-- A flag of a build is that of some edge point (R118). -/
theorem any_edges {c : GuideConfig} {kappa : Int} (f : Projected → Bool) :
    ((c.edge kappa (-1) ++ c.edge kappa 1).any fun p => f p.2) = true ↔
      ∃ d ∈ 0 :: c.marks,
        f (project c.homography (-1 * c.halfWidth + pathOffset kappa d c.overhang) d) = true ∨
        f (project c.homography (1 * c.halfWidth + pathOffset kappa d c.overhang) d) = true := by
  rw [List.any_append, Bool.or_eq_true, List.any_eq_true, List.any_eq_true]
  simp only [GuideConfig.edge, List.mem_map, exists_exists_and_eq_and]
  constructor
  · rintro (⟨d, mem, holds⟩ | ⟨d, mem, holds⟩)
    · exact ⟨d, mem, .inl holds⟩
    · exact ⟨d, mem, .inr holds⟩
  · rintro ⟨d, mem, holds | holds⟩
    · exact .inl ⟨d, mem, holds⟩
    · exact .inr ⟨d, mem, holds⟩

/-! ### A build completes (R117, R118) -/

theorem exec_guideBuildComplete {s : State} {n : TableName} {kappa : Int} {c : GuideConfig}
    (building : s.guide.building = some (n, kappa)) (config : s.guide.config = some c) :
    exec .guideBuildComplete s =
      if (c.build kappa).behind = true ∨ (c.build kappa).offscreen = true then
        .next (State.raise { s with guide := s.guide.finishBuild n (c.build kappa) } .guideClipped
          (guideFlagsNumber (s.guide.finishBuild n (c.build kappa)).flags))
      else .next { s with guide := s.guide.finishBuild n (c.build kappa) } := by
  change execGuideBuildComplete s = _
  unfold execGuideBuildComplete
  simp only [building, config]

theorem Guide.finishBuild_eq (g : Guide) (n : TableName) (r : BuildResult) :
    g.finishBuild n r =
      { g with
        tableZero := if n = .zero then r.spans else g.tableZero
        tableOne := if n = .one then r.spans else g.tableOne
        flags := { g.flags with behind := r.behind, offscreen := r.offscreen, spansDropped := r.dropped }
        building := none, ready := some n } := by
  cases n <;> rfl

theorem guideFlagsNumber_eq (g : GuideFlags) :
    guideFlagsNumber g = (if g.isStatic then 1 else 0) + (if g.unavailable then 2 else 0) + (if g.behind then 4 else 0) +
      (if g.offscreen then 8 else 0) + (if g.spansDropped then 16 else 0) := by
  simp only [guideFlagsNumber, bitSet, boolNumber]
  split <;> split <;> split <;> split <;> split <;> rfl

/-- Settles O49. -/
theorem guideBuildIsBoundedAndHandedOver : Obligations.GuideBuildIsBoundedAndHandedOver := by
  refine ⟨fun s n kappa c building config => ?_, fun kappa d overhang => ?_,
    fun m x y => ⟨fun behind => by rw [project_behind behind]; exact ⟨rfl, rfl⟩, project_ahead⟩, fun c kappa => ?_⟩
  · intro r flags built
    have run := exec_guideBuildComplete building config
    rw [Guide.finishBuild_eq] at run
    refine ⟨fun ahead inside => ?_, fun clips => ?_⟩
    · exact run.trans (if_neg (by simp [r, ahead, inside]))
    · rw [← guideFlagsNumber_eq]
      exact run.trans (if_pos clips)
  · intro x
    have value : pathOffset kappa d overhang = min 8000 (max (-8000) x) := clampInt_eq _ _ _ (by decide)
    rw [value]
    omega
  · intro ground points
    have holds := c.build_holds kappa
    refine ⟨?_, any_edges Projected.clamped, fun half => ⟨fun x mem => ?_, fun whole x draws => ?_⟩, fun x mem => ?_,
      fun row => ?_, fun half => ⟨holds.dropped, fun row => ?_⟩, holds.ordered⟩
    · refine (any_edges fun p => p.point.isNone).trans ?_
      simp only [Option.isNone_iff_eq_none]
      rfl
    · exact (mem_offered half).1 (holds.mem_offered mem)
    · exact holds.mem_spans whole ((mem_offered half).2 draws)
    · exact offered_onScreen (holds.mem_offered mem)
    · rw [List.countP_eq_length_filter]
      have count := (holds.rows row).count
      exact Nat.le_trans (Nat.le_of_eq count) (Nat.min_le_left _ _)
    · exact ⟨(holds.rows row).count, (holds.rows row).best⟩

end Sys2Proof.Machine

end

/-! ## Proofs: the audio timers (R166, R173, R181, R183) -/
section

namespace Sys2Proof.Machine

/-! ### The millisecond tick (R183) -/

theorem rampStep_of_le {g target : Nat} (below : g ≤ target) : rampStep g target = min (g + 4) target := by
  unfold rampStep
  split <;> omega

theorem rampStep_of_ge {g target : Nat} (above : target ≤ g) : rampStep g target = max (g - 4) target := by
  unfold rampStep
  split <;> omega

/-- A stream after a tick (R183). -/
def Audio.ramped (a : Audio) (d : Display) : Stream :=
  let st := a.streams.get d
  if st.running then { st with gEff := rampStep st.gEff (a.targetGain d) } else st

theorem Audio.rampStream_eq (a : Audio) (d : Display) :
    a.rampStream d = { a with streams := a.streams.put d (a.ramped d) } := by
  unfold Audio.rampStream Audio.ramped
  dsimp only
  split
  · rfl
  · rw [PerDisplay.put_get]

theorem Audio.ramped_rampStream (a : Audio) {d e : Display} (other : e ≠ d) : (a.rampStream d).ramped e = a.ramped e := by
  rw [Audio.rampStream_eq, Audio.ramped, Audio.targetGain]
  simp only [PerDisplay.get_put_other _ _ other]
  rfl

theorem Audio.rampStreams_eq (a : Audio) :
    allDisplays.foldl Audio.rampStream a =
      { a with streams := { front := a.ramped .front, rearLeft := a.ramped .rearLeft, rearRight := a.ramped .rearRight } } := by
  change ((a.rampStream .front).rampStream .rearLeft).rampStream .rearRight = _
  rw [Audio.rampStream_eq _ .rearRight, Audio.ramped_rampStream _ (by decide), Audio.ramped_rampStream _ (by decide),
    Audio.rampStream_eq _ .rearLeft, Audio.ramped_rampStream _ (by decide), Audio.rampStream_eq]
  rfl

/-! ### The end of a chime (R181) -/

/-- A chime's end that the pattern is not told of (R108). -/
theorem State.endChime_eq {s : State} {d : Display} {c : Chime}
    (quiet : d ≠ .front ∨ ¬ (c.owner = .part ∧ c.clip = 1) ∨ s.park.active = false)
    {t : State} (settles : (s.leavePlayer d).settle = t) (park : t.park = s.park) : s.endChime d c = t := by
  rw [State.endChime, settles]
  split
  · next beep =>
    have own : c.owner = .part ∧ c.clip = 1 := by simpa [Chime.isParkBeep] using beep.2
    have inactive : s.park.active = false := by
      obtain other | other | inactive := quiet
      · exact absurd beep.1 other
      · exact absurd own other
      · exact inactive
    rw [State.beepStopped, if_neg (by simp [park, inactive])]
  · rfl

theorem State.leavePlayer_eq (s : State) (d : Display) :
    s.leavePlayer d = State.withPair { s with audio := { s.audio with buffer := s.audio.buffer.without d } } d
      { queue := (s.audio.chimes.get d).queue, arrivals := (s.audio.chimes.get d).arrivals, player := .idle } := rfl

theorem exec_chimeEnd {s : State} {d : Display} {c : Chime} {src : ChimeSource} {pos : Nat}
    (playing : (s.audio.chimes.get d).player = .playing c src pos) :
    exec (.chimeEnd d) s =
      if chimeSamples s.audio.clips c src ≤ pos then .next (s.endChime d c) else .next s := by
  change execChimeEnd d s = _
  unfold execChimeEnd
  rw [playing]

section
variable {s : State} {d : Display} {c : Chime} {src : ChimeSource} {pos : Nat} (settled : s.ChimesSettled)
  (playing : (s.audio.chimes.get d).player = .playing c src pos)
include settled playing

theorem State.ChimesSettled.not_waiting : d ∉ s.audio.buffer.waiters := by
  intro waits
  obtain ⟨-, x, starting⟩ := settled.waiting d waits
  rw [playing] at starting
  cases starting

omit playing in
/-- A chime ends with nothing pending and no one waiting (R181). -/
theorem State.settle_leavePlayer_last (empty : (s.audio.chimes.get d).queue = []) (noWaiter : s.audio.buffer.waiters = []) :
    (s.leavePlayer d).settle =
      { s with
        audio := { s.audio with
          chimes := s.audio.chimes.put d { s.audio.chimes.get d with player := .idle }
          buffer := { s.audio.buffer with
            user := if s.audio.buffer.user = some d then none else s.audio.buffer.user } } } := by
  have given : s.audio.buffer.without d =
      { s.audio.buffer with user := if s.audio.buffer.user = some d then none else s.audio.buffer.user } := by
    simp [StagingBuffer.without, noWaiter]
  rw [State.leavePlayer_eq, given]
  exact State.settleChimes_withPair 32 (s := { s with audio := { s.audio with buffer :=
      { s.audio.buffer with user := if s.audio.buffer.user = some d then none else s.audio.buffer.user } } })
    (settled.others d) (fun _ => empty) fun _ => noWaiter

/-- A chime ends that does not use the buffer, and the next head is of a resident clip (R173, R178). -/
theorem State.settle_leavePlayer_next {head : Chime} {rest : List Chime} {clip : Clip}
    (queue : (s.audio.chimes.get d).queue = head :: rest) (known : s.audio.clips[head.clip]? = some clip)
    (resident : clip.resident = true) (apart : s.audio.buffer.user ≠ some d) :
    (s.leavePlayer d).settle = s.updateChimes d fun x => { x with queue := rest, player := .playing head .cache 0 } := by
  rw [State.leavePlayer_eq, StagingBuffer.without_of_apart apart (settled.not_waiting playing), queue, State.updateChimes_eq]
  exact State.settleChimes_resident known (settled.others d) settled.served 31 resident

end

/-- Settles O54. -/
theorem audioTimersActAtTheirTimes : Obligations.AudioTimersActAtTheirTimes := by
  refine ⟨fun s d at' delay => ?_, fun s idle => ?_, fun s due => ?_, fun s d c src pos playing => ?_⟩
  · have run : exec (.startDelayExpiry d) s = if 0 ≤ (s.time - at').toInt then
        .next (s.updateStream d fun x => { x with startDelay := none }) else .next s := by
      change execStartDelayExpiry d s = _
      unfold execStartDelayExpiry
      simp only [delay, dueNow, reached, decide_eq_true_eq]
    exact ⟨fun early => run.trans (if_neg (Int.not_le.2 early)), fun late => run.trans (if_pos late)⟩
  · exact if_neg (by simp [idle])
  · refine ⟨_, if_pos due, ?_⟩
    rw [Audio.rampStreams_eq]
    refine ⟨rfl, ?_, within_audio s _, fun d => ?_⟩
    · simp only [← due]
    · intro st target
      have ramped : PerDisplay.get { front := Audio.ramped { s.audio with tickDue := false } .front
                                     rearLeft := Audio.ramped { s.audio with tickDue := false } .rearLeft
                                     rearRight := Audio.ramped { s.audio with tickDue := false } .rearRight } d =
          if st.running then { st with gEff := rampStep st.gEff target } else st := by
        cases d <;> rfl
      refine ⟨fun stopped => ramped.trans (if_neg (by simp [stopped])), fun running => ?_⟩
      exact ⟨_, ramped.trans (if_pos running), rampStep_of_le, rampStep_of_ge⟩
  · rw [exec_chimeEnd playing]
    refine ⟨fun early => if_neg (Nat.not_le.2 early), fun late settled => ?_⟩
    rw [if_pos late]
    refine ⟨fun empty noWaiter quiet => ?_, fun head rest clip queue known resident apart quiet => ?_⟩
    · rw [State.endChime_eq quiet (State.settle_leavePlayer_last settled empty noWaiter) rfl]
    · rw [State.endChime_eq quiet (State.settle_leavePlayer_next settled playing queue known resident apart) rfl]

end Sys2Proof.Machine

end

/-! ## Proofs: the sample time (R170, R181, R182) -/
section

namespace Sys2Proof.Machine

/-! ### Streams at a sample time (R170) -/

theorem Stream.delayPassed_iff (st : Stream) (now : Time) :
    st.delayPassed now = true ↔ ∀ at', st.startDelay = some at' → 0 ≤ (now - at').toInt := by
  unfold Stream.delayPassed
  split <;> simp [reached, *]

/-- The stream takes frames: it runs and its start delay has passed (R166). -/
def Stream.Begun (st : Stream) (now : Time) : Prop :=
  st.running = true ∧ ∀ at', st.startDelay = some at' → 0 ≤ (now - at').toInt

section
variable {st : Stream} {now : Time}

theorem Stream.sample_held (waits : ¬ st.Begun now) : st.sample now = (st, { left := 0, right := 0 }, false) :=
  if_neg fun ⟨running, passed⟩ => waits ⟨running, (st.delayPassed_iff now).1 passed⟩

theorem Stream.sample_takes {frame : Stereo} {rest : List Stereo} {ring : Ring} (begun : st.Begun now)
    (rings : st.ring = some ring) (buffer : st.buffer = frame :: rest) (pending : st.consumer ≠ st.producer) :
    st.sample now =
      ({ st with buffer := rest, consumer := (st.consumer + 1) % ring.size, underrun := false }, frame, false) := by
  unfold Stream.sample
  dsimp only
  rw [if_pos ⟨begun.1, (st.delayPassed_iff now).2 begun.2⟩]
  simp only [rings, buffer, if_neg pending]

/-- The stream has no frame to take (R170). -/
def Stream.Dry (st : Stream) : Prop := st.ring = none ∨ st.buffer = [] ∨ st.consumer = st.producer

theorem Stream.sample_dry (begun : st.Begun now) (dry : st.Dry) :
    st.sample now = ({ st with underrun := true }, { left := 0, right := 0 }, !st.underrun) := by
  unfold Stream.sample
  dsimp only
  rw [if_pos ⟨begun.1, (st.delayPassed_iff now).2 begun.2⟩]
  split
  · next rings buffer =>
    obtain none | empty | level := dry
    · exact nomatch rings.symm.trans none
    · exact nomatch buffer.symm.trans empty
    · rw [if_pos level]
  · rfl

end

/-- What a stream plays at a sample time (R170). -/
theorem Stream.sample_frame (st : Stream) (now : Time) [Decidable (st.Begun now)] [Decidable st.Dry] :
    (st.sample now).2.1 =
      if st.Begun now ∧ ¬ st.Dry then st.buffer.headD { left := 0, right := 0 } else { left := 0, right := 0 } := by
  by_cases begun : st.Begun now
  · by_cases dry : st.Dry
    · rw [Stream.sample_dry begun dry, if_neg fun both => both.2 dry]
    · rw [if_pos ⟨begun, dry⟩]
      obtain ⟨ring, rings⟩ := Option.ne_none_iff_exists'.1 fun none => dry (.inl none)
      obtain ⟨frame, rest, buffer⟩ := List.exists_cons_of_ne_nil fun empty => dry (.inr (.inl empty))
      rw [Stream.sample_takes begun rings buffer fun level => dry (.inr (.inr level)), buffer]
      rfl
  · rw [Stream.sample_held begun, if_neg fun both => begun both.1]

/-- An underrun run begins (R170). -/
theorem Stream.sample_underrun (st : Stream) (now : Time) :
    (st.sample now).2.2 = true ↔ st.Begun now ∧ st.Dry ∧ st.underrun = false := by
  by_cases begun : st.Begun now
  · by_cases dry : st.Dry
    · simp [Stream.sample_dry begun dry, begun, dry]
    · obtain ⟨ring, rings⟩ := Option.ne_none_iff_exists'.1 fun none => dry (.inl none)
      obtain ⟨frame, rest, buffer⟩ := List.exists_cons_of_ne_nil fun empty => dry (.inr (.inl empty))
      simp [Stream.sample_takes begun rings buffer fun level => dry (.inr (.inr level)), dry]
  · simp [Stream.sample_held begun, begun]

/-- The stream of a display after the sample time, its samples, and whether an underrun run begins. -/
def State.sampled (s : State) (d : Display) : Stream × Stereo × Bool := (s.audio.streams.get d).sample s.time

theorem State.sampleStream_audio (s : State) (d : Display) : ∃ queue,
    (s.sampleStream d).audio =
      { s.audio with streams := s.audio.streams.put d (s.sampled d).1, fetchQueue := queue } := by
  unfold State.sampleStream
  extract_lets r s1 s2
  have told : s2.audio = s1.audio := by
    unfold s2
    split
    · exact State.raise_audio ..
    · rfl
  obtain ⟨more, eq⟩ := s2.refill_eq d
  exact ⟨s2.audio.fetchQueue ++ more, by rw [eq, told]; rfl⟩

theorem State.sampleStream_time (s : State) (d : Display) : (s.sampleStream d).time = s.time :=
  s.sampleStream_within d .time (by decide)

theorem State.sampleStream_fault (s : State) (d : Display) (k : FaultKind) :
    (s.sampleStream d).rw.fault k =
      if k = .audioUnderrun ∧ (s.sampled d).2.2 = true then (s.rw.fault k).occur (displayNumber d) else s.rw.fault k := by
  unfold State.sampleStream
  extract_lets r s1 s2
  change s2.rw.fault k = _
  unfold s2
  have raised := s1.raise_faultRaised .audioUnderrun (displayNumber d)
  split
  · next begins =>
    by_cases same : k = .audioUnderrun
    · rw [if_pos ⟨same, begins⟩, same]
      exact raised.1
    · rw [if_neg fun both => same both.1]
      exact raised.2 k same
  · next quiet =>
    rw [if_neg fun both => quiet both.2]
    rfl

theorem State.sampled_sampleStream (s : State) {d e : Display} (other : e ≠ d) :
    (s.sampleStream d).sampled e = s.sampled e := by
  obtain ⟨queue, audio⟩ := s.sampleStream_audio d
  rw [State.sampled, audio, State.sampleStream_time]
  simp only [PerDisplay.get_put_other _ _ other]
  rfl

/-- All three streams at a sample time (R170). -/
theorem State.sampleStreams_audio (s : State) : ∃ queue,
    (allDisplays.foldl State.sampleStream s).audio =
      { s.audio with
        streams := { front := (s.sampled .front).1, rearLeft := (s.sampled .rearLeft).1
                     rearRight := (s.sampled .rearRight).1 }
        fetchQueue := queue } := by
  obtain ⟨_, one⟩ := s.sampleStream_audio .front
  obtain ⟨_, two⟩ := (s.sampleStream .front).sampleStream_audio .rearLeft
  obtain ⟨queue, three⟩ := ((s.sampleStream .front).sampleStream .rearLeft).sampleStream_audio .rearRight
  refine ⟨queue, three.trans ?_⟩
  rw [two, one, State.sampled_sampleStream _ (by decide), State.sampled_sampleStream _ (by decide),
    State.sampled_sampleStream _ (by decide)]
  rfl

/-- A fault kind occurs once for each display of a set (R30). -/
def FaultRecord.occurFor (f : FaultRecord) (p : Display → Bool) : FaultRecord :=
  (allDisplays.filter p).foldl (fun f d => f.occur (displayNumber d)) f

theorem FaultRecord.occurFor_eq (f : FaultRecord) (p : Display → Bool) :
    f.occurFor p =
      let one := if p .front = true then f.occur (displayNumber .front) else f
      let two := if p .rearLeft = true then one.occur (displayNumber .rearLeft) else one
      if p .rearRight = true then two.occur (displayNumber .rearRight) else two := by
  unfold FaultRecord.occurFor allDisplays
  simp only [List.filter_cons, List.filter_nil]
  split <;> split <;> split <;> rfl

theorem State.sampleStreams_fault (s : State) (k : FaultKind) :
    (allDisplays.foldl State.sampleStream s).rw.fault k =
      if k = .audioUnderrun then (s.rw.fault k).occurFor fun d => (s.sampled d).2.2 else s.rw.fault k := by
  change (((s.sampleStream .front).sampleStream .rearLeft).sampleStream .rearRight).rw.fault k = _
  rw [State.sampleStream_fault, State.sampleStream_fault, State.sampleStream_fault,
    State.sampled_sampleStream _ (by decide), State.sampled_sampleStream _ (by decide),
    State.sampled_sampleStream _ (by decide), FaultRecord.occurFor_eq]
  by_cases same : k = .audioUnderrun
  · simp only [same, true_and, if_true]
  · simp only [same, false_and, if_false]

/-! ### The mix (R182) -/

theorem toInt_mixOut (x : Int) (g : Nat) (c : Int) (gain : Nat) :
    (mixOut x g c gain).toInt = min 32767 (max (-32768) (mixSum x g c gain)) := by
  rw [mixOut, clampInt_eq _ _ _ (by decide), BitVec.toInt_ofInt]
  exact Int.bmod_eq_of_le (by omega) (by omega)

theorem State.raiseClip_audio (s : State) (d : Display) (clipped : Bool) : (s.raiseClip d clipped).audio = s.audio := by
  unfold State.raiseClip
  split
  · exact State.raise_audio ..
  · rfl

theorem State.raiseClip_fault (s : State) (d : Display) (clipped : Bool) (k : FaultKind) :
    (s.raiseClip d clipped).rw.fault k =
      if k = .audioClip ∧ clipped = true then (s.rw.fault k).occur (displayNumber d) else s.rw.fault k := by
  unfold State.raiseClip
  have raised := s.raise_faultRaised .audioClip (displayNumber d)
  split
  · next clips =>
    by_cases same : k = .audioClip
    · rw [if_pos ⟨same, clips⟩, same]
      exact raised.1
    · rw [if_neg fun both => same both.1]
      exact raised.2 k same
  · next within => rw [if_neg fun both => within both.2]

theorem State.raiseClips_audio (s : State) (p : Display → Bool) :
    (allDisplays.foldl (fun acc d => acc.raiseClip d (p d)) s).audio = s.audio := by
  change (((s.raiseClip .front _).raiseClip .rearLeft _).raiseClip .rearRight _).audio = _
  rw [State.raiseClip_audio, State.raiseClip_audio, State.raiseClip_audio]

theorem State.raiseClips_fault (s : State) (p : Display → Bool) (k : FaultKind) :
    (allDisplays.foldl (fun acc d => acc.raiseClip d (p d)) s).rw.fault k =
      if k = .audioClip then (s.rw.fault k).occurFor p else s.rw.fault k := by
  change (((s.raiseClip .front _).raiseClip .rearLeft _).raiseClip .rearRight _).rw.fault k = _
  rw [State.raiseClip_fault, State.raiseClip_fault, State.raiseClip_fault, FaultRecord.occurFor_eq]
  by_cases same : k = .audioClip
  · simp only [same, true_and, if_true]
  · simp only [same, false_and, if_false]

/-! ### The whole sample time -/

/-- The mix of a pair at a sample time, and whether it clamps (R182). -/
def State.mixed (s : State) (d : Display) : Stereo × Bool :=
  s.audio.mixPair d (s.sampled d).2.1 (s.audio.streams.get d).gEff

/-- A pair's chimes after a sample time (R181). -/
def State.advanced (s : State) (d : Display) : PairChimes :=
  { s.audio.chimes.get d with player := s.audio.advancePlayer (s.audio.chimes.get d).player }

/-- The players of all three pairs move on. -/
def Audio.advanceAll (f : Player → Player) (a : Audio) : Audio :=
  { a with
    chimes := { front := { a.chimes.front with player := f a.chimes.front.player }
                rearLeft := { a.chimes.rearLeft with player := f a.chimes.rearLeft.player }
                rearRight := { a.chimes.rearRight with player := f a.chimes.rearRight.player } } }

theorem State.advancePlayers_audio (s : State) (f : Player → Player) :
    (allDisplays.foldl (fun acc d => acc.updateChimes d fun p => { p with player := f p.player }) s).audio =
      s.audio.advanceAll f := rfl

theorem State.sampleTime_audio (s : State) : ∃ queue,
    s.sampleTime.audio =
      Audio.countSample { s.audio with
        streams := { front := (s.sampled .front).1, rearLeft := (s.sampled .rearLeft).1
                     rearRight := (s.sampled .rearRight).1 }
        fetchQueue := queue
        chimes := { front := s.advanced .front, rearLeft := s.advanced .rearLeft, rearRight := s.advanced .rearRight }
        tdm := some { front := (s.mixed .front).1, rearLeft := (s.mixed .rearLeft).1
                      rearRight := (s.mixed .rearRight).1 } } := by
  obtain ⟨queue, streams⟩ := s.sampleStreams_audio
  refine ⟨queue, ?_⟩
  unfold State.sampleTime
  extract_lets x mix s1 s2 s3
  have played : s3.audio = s1.audio.advanceAll s.audio.advancePlayer :=
    (s2.raiseClips_audio fun d => (mix d).2).trans (s1.advancePlayers_audio s.audio.advancePlayer)
  exact congrArg (fun a : Audio => Audio.countSample { a with
    tdm := some { front := (s.mixed .front).1, rearLeft := (s.mixed .rearLeft).1, rearRight := (s.mixed .rearRight).1 } })
    (played.trans (congrArg (Audio.advanceAll s.audio.advancePlayer) streams))

theorem State.advancePlayers_rw (s : State) (f : Player → Player) :
    (allDisplays.foldl (fun acc d => acc.updateChimes d fun p => { p with player := f p.player }) s).rw = s.rw := rfl

theorem State.sampleTime_fault (s : State) (k : FaultKind) :
    s.sampleTime.rw.fault k =
      if k = .audioClip then (s.rw.fault k).occurFor fun d => (s.mixed d).2
      else if k = .audioUnderrun then (s.rw.fault k).occurFor fun d => (s.sampled d).2.2
      else s.rw.fault k := by
  unfold State.sampleTime
  extract_lets x mix s1 s2 s3
  have advances : s2.rw = s1.rw := s1.advancePlayers_rw s.audio.advancePlayer
  change s3.rw.fault k = _
  refine (s2.raiseClips_fault (fun d => (mix d).2) k).trans ?_
  rw [advances, show s1.rw.fault k = _ from s.sampleStreams_fault k]
  by_cases clip : k = .audioClip
  · subst clip
    rfl
  · rw [if_neg clip, if_neg clip]

theorem Audio.countSample_eq (a : Audio) :
    a.countSample = { a with
      sampleCount := if a.sampleCount + 1 < 48 then a.sampleCount + 1 else 0
      tickDue := if a.sampleCount + 1 < 48 then a.tickDue else true } := by
  unfold Audio.countSample
  split <;> rfl

theorem Audio.advancePlayer_playing {a : Audio} {c : Chime} {src : ChimeSource} {pos : Nat}
    (within : pos < chimeSamples a.clips c src) : a.advancePlayer (.playing c src pos) = .playing c src (pos + 1) := by
  rw [Audio.advancePlayer, if_neg (Nat.not_le.2 within)]

/-- A pair with no stream and no chime is silent (R182). -/
theorem State.mixed_silent {s : State} {d : Display} (stopped : (s.audio.streams.get d).running = false)
    (idle : (s.audio.chimes.get d).player = .idle) : (s.mixed d).1 = { left := 0, right := 0 } := by
  have held : s.sampled d = (s.audio.streams.get d, { left := 0, right := 0 }, false) :=
    Stream.sample_held fun begun => by simp [begun.1] at stopped
  have zero (g : Nat) : mixOut (BitVec.toInt (0 : BitVec 16)) g 0 0 = 0 := by
    rw [mixOut, mixSum, show (BitVec.toInt (0 : BitVec 16)) = 0 from rfl, Int.zero_mul, Int.zero_mul]
    rfl
  rw [State.mixed, Audio.mixPair, held, idle]
  simp only [Audio.chimeSample, Audio.chimeGain, zero]

/-- Settles O53. -/
theorem sampleTimeMixesStreamsAndChimes : Obligations.SampleTimeMixesStreamsAndChimes := by
  intro s runs
  obtain ⟨queue, audio⟩ := s.sampleTime_audio
  rw [Audio.countSample_eq] at audio
  have streams : ∀ d, s.sampleTime.audio.streams.get d = (s.sampled d).1 := fun d => by rw [audio]; cases d <;> rfl
  have chimes : ∀ d, s.sampleTime.audio.chimes.get d = s.advanced d := fun d => by rw [audio]; cases d <;> rfl
  let tdm : PerDisplay Stereo :=
    { front := (s.mixed .front).1, rearLeft := (s.mixed .rearLeft).1, rearRight := (s.mixed .rearRight).1 }
  have isTdm : s.sampleTime.audio.tdm = some tdm := by rw [audio]
  have pair : ∀ d, tdm.get d = (s.mixed d).1 := fun d => by cases d <;> rfl
  refine ⟨s.sampleTime, if_pos runs, fun d => ?_, ⟨tdm, isTdm, ?_⟩, ⟨tdm, isTdm, fun d stopped idle => ?_⟩, fun d => ?_,
    fun few => ?_, fun last => ?_, s.sampleTime_within⟩
  · intro st after begun
    refine ⟨fun held => (streams d).trans ?_, fun frame rest ring running rings buffer pending => (streams d).trans ?_,
      fun running empty => (streams d).trans ?_⟩
    · rw [State.sampled, Stream.sample_held held]
    · rw [State.sampled, Stream.sample_takes running rings buffer pending]
    · rw [State.sampled, Stream.sample_dry running (.inr empty)]
  · intro begun dry frame sum clamped
    have begunIff : ∀ d, begun d = true ↔ (s.audio.streams.get d).Begun s.time := fun d => by
      rw [Stream.Begun, ← Stream.delayPassed_iff, ← Bool.and_eq_true]
      rfl
    have dryIff : ∀ d, dry d = true ↔ (s.audio.streams.get d).Dry := fun d => decide_eq_true_iff
    have plays : ∀ d, (s.sampled d).2.1 = frame d := fun d => by
      classical
      rw [State.sampled, Stream.sample_frame]
      simp only [frame, begunIff, ← dryIff, Bool.not_eq_true]
    have mixes : ∀ d, s.mixed d = s.audio.mixPair d (frame d) (s.audio.streams.get d).gEff := fun d => by
      rw [State.mixed, plays]
    refine ⟨fun d => ?_, ?_, ?_, fun k notUnderrun notClip => ?_⟩
    · rw [pair, mixes]
      exact ⟨toInt_mixOut .., toInt_mixOut ..⟩
    · rw [State.sampleTime_fault, if_neg (by decide), if_pos rfl]
      have begins : (fun d => (s.sampled d).2.2) =
          fun d => begun d && dry d && !(s.audio.streams.get d).underrun := by
        funext d
        rw [Bool.eq_iff_iff, State.sampled, Stream.sample_underrun, ← begunIff, ← dryIff]
        simp [and_assoc]
      rw [begins]
      rfl
    · rw [State.sampleTime_fault, if_pos rfl]
      have clips : (fun d => (s.mixed d).2) =
          fun d => clamped (sum d (frame d).left) || clamped (sum d (frame d).right) := by
        funext d
        rw [mixes]
        rfl
      rw [clips]
      rfl
    · rw [State.sampleTime_fault, if_neg notClip, if_neg notUnderrun]
  · exact (pair d).trans (State.mixed_silent stopped idle)
  · rw [chimes]
    refine ⟨rfl, fun c src pos playing within => ?_⟩
    change s.audio.advancePlayer _ = _
    rw [playing, Audio.advancePlayer_playing within]
  · rw [audio]
    exact ⟨if_pos few, if_pos few⟩
  · rw [audio]
    exact ⟨if_neg (Nat.not_lt.2 last), if_neg (Nat.not_lt.2 last)⟩

end Sys2Proof.Machine

end

/-! ## Proofs: how a stored record is read (R53, R189) -/
section

namespace Sys2Proof.Machine

/-! ### Bytes and fields of an entry -/

/-- The entry of `width` bytes at an offset of a record. -/
def recordEntry (rec : List Byte) (offset width : Nat) : List Byte := (rec.drop offset).take width

theorem byteAt_recordEntry (rec : List Byte) (offset : Nat) {width j : Nat} (inside : j < width) :
    byteAt (recordEntry rec offset width) j = byteAt rec (offset + j) := by
  simp only [byteAt, recordEntry, List.getD_eq_getElem?_getD, List.getElem?_take_of_lt inside, List.getElem?_drop]

theorem fieldAt_recordEntry (rec : List Byte) (offset : Nat) {width j n : Nat} (inside : j + n ≤ width) :
    fieldAt (recordEntry rec offset width) j n = fieldAt rec (offset + j) n := by
  induction n generalizing j with
  | zero => rfl
  | succ n ih => rw [fieldAt, fieldAt, byteAt_recordEntry rec offset (by omega), ih (by omega), Nat.add_assoc]

theorem fieldAt_lt (r : List Byte) (i n : Nat) : fieldAt r i n < 256 ^ n := by
  induction n generalizing i with
  | zero => exact Nat.one_pos
  | succ n ih =>
    have low : byteAt r i < 256 := BitVec.isLt _
    have high := ih (i + 1)
    rw [fieldAt, Nat.pow_succ]
    omega

theorem recordEntries_eq (rec : List Byte) (offset width count : Nat) :
    recordEntries rec offset width count =
      (List.range count).map fun i => recordEntry rec (offset + width * i) width := rfl

/-! ### Lists of entries -/

section
variable {α : Type} {read : List Byte → Option α}

theorem allEntries_eq_some {es : List (List Byte)} {vs : List α} :
    allEntries read es = some vs ↔ es.map read = vs.map some := by
  induction es generalizing vs with
  | nil => cases vs <;> simp [allEntries]
  | cons e rest ih =>
    rw [allEntries, List.map_cons]
    cases first : read e with
    | none => cases vs <;> simp
    | some v =>
      cases others : allEntries read rest with
      | none =>
        cases vs with
        | nil => simp
        | cons w ws =>
          have differ : ¬ rest.map read = ws.map some := fun same => nomatch others.symm.trans (ih.2 same)
          simp [differ]
      | some us =>
        have same := ih.1 others
        cases vs with
        | nil => simp
        | cons w ws =>
          have inj : us = ws ↔ us.map some = ws.map some := (List.map_inj_right fun _ _ => Option.some.inj).symm
          simp [same, inj]

variable {rec : List Byte} {offset width count : Nat}

theorem allEntries_record_iff {vs : List α} :
    allEntries read (recordEntries rec offset width count) = some vs ↔
      vs.length = count ∧ ∀ (i : Nat) (h : i < vs.length), read (recordEntry rec (offset + width * i) width) = some vs[i] := by
  rw [allEntries_eq_some, recordEntries_eq, List.map_map, List.ext_getElem_iff]
  simp only [List.length_map, List.length_range, List.getElem_map, List.getElem_range, Function.comp_apply]
  constructor
  · rintro ⟨length, same⟩
    exact ⟨length.symm, fun i h => same i (length ▸ h) h⟩
  · rintro ⟨length, same⟩
    exact ⟨length.symm, fun i _ h => same i h⟩

theorem exists_allEntries_iff :
    (∃ vs, allEntries read (recordEntries rec offset width count) = some vs) ↔
      ∀ i, i < count → ∃ v, read (recordEntry rec (offset + width * i) width) = some v := by
  constructor
  · rintro ⟨vs, reads⟩ i inside
    obtain ⟨length, each⟩ := allEntries_record_iff.1 reads
    exact ⟨_, each i (length ▸ inside)⟩
  · intro each
    choose value reads using each
    refine ⟨List.ofFn fun i : Fin count => value i i.isLt, allEntries_record_iff.2 ⟨List.length_ofFn, fun i h => ?_⟩⟩
    rw [List.getElem_ofFn]
    exact reads i _

end

/-! ### Ascending lists -/

theorem strictlyAscending_iff_isChain (l : List Int) : strictlyAscending l = true ↔ l.IsChain (· < ·) := by
  induction l with
  | nil => simp [strictlyAscending]
  | cons a rest ih =>
    cases rest with
    | nil => simp [strictlyAscending]
    | cons b rest => rw [strictlyAscending, List.isChain_cons_cons, ← ih, Bool.and_eq_true, decide_eq_true_iff]

theorem strictlyAscending_iff_pairwise (l : List Int) : strictlyAscending l = true ↔ l.Pairwise (· < ·) :=
  (strictlyAscending_iff_isChain l).trans List.isChain_iff_pairwise

theorem strictlyAscending_iff_next (l : List Int) :
    strictlyAscending l = true ↔ ∀ (i : Nat) (_ : i + 1 < l.length), l[i] < l[i + 1] :=
  (strictlyAscending_iff_isChain l).trans List.isChain_iff_getElem

/-! ### Fields that name a value (11.1) -/

/-- The field value of a region kind. -/
def RegionKind.field : RegionKind → Nat
  | .locked => 1
  | .status => 2
  | .control => 3
  | .requestRing => 4
  | .frame => 5
  | .audioRing => 6

theorem regionKindField_iff {n : Nat} {k : RegionKind} : regionKindField n = some k ↔ n = k.field := by
  match n with
  | 0 | 1 | 2 | 3 | 4 | 5 | 6 => cases k <;> simp [regionKindField, RegionKind.field]
  | n + 7 => cases k <;> simp [regionKindField, RegionKind.field]

theorem exists_regionKindField {n : Nat} : (∃ k, regionKindField n = some k) ↔ 1 ≤ n ∧ n ≤ 6 := by
  match n with
  | 0 | 1 | 2 | 3 | 4 | 5 | 6 => simp [regionKindField]
  | n + 7 => simp [regionKindField]

theorem exists_signalField {n : Nat} : (∃ g, signalField n = some g) ↔ n ≤ 3 := by
  match n with
  | 0 | 1 | 2 | 3 => simp [signalField]
  | n + 4 => simp [signalField]

theorem exists_sourceField {n : Nat} : (∃ g, sourceField n = some g) ↔ n ≤ 2 := by
  match n with
  | 0 | 1 | 2 => simp [sourceField]
  | n + 3 => simp [sourceField]

theorem flagField_iff {n : Nat} {b : Bool} : flagField n = some b ↔ n = boolNumber b := by
  match n with
  | 0 | 1 => cases b <;> simp [flagField, boolNumber]
  | n + 2 => cases b <;> simp [flagField, boolNumber]

theorem exists_flagField {n : Nat} : (∃ b, flagField n = some b) ↔ n ≤ 1 := by
  match n with
  | 0 | 1 => simp [flagField]
  | n + 2 => simp [flagField]

theorem inDataBlocks_iff (offset length : Nat) :
    inDataBlocks offset length = true ↔ 0x20000 ≤ offset ∧ offset + length ≤ 0x200000 := decide_eq_true_iff

theorem exists_readDuck {v : Nat} : (∃ n, readDuck v = some n) ↔ v ≤ 64 ∨ v = 0xFF := by
  unfold readDuck
  split
  · simp [*]
  · split <;> simp [*]

theorem readDuck_le {v n : Nat} (h : readDuck v = some n) : n ≤ 64 := by
  unfold readDuck at h
  split at h
  · next small => exact Option.some.inj h ▸ small
  · split at h
    · obtain rfl := Option.some.inj h
      decide
    · exact nomatch h

theorem exists_readHoldOff {v : Nat} : (∃ n, readHoldOff v = some n) ↔ v ≤ 20000 ∨ v = 0xFFFF := by
  unfold readHoldOff
  split
  · simp [*]
  · split <;> simp [*]

theorem readHoldOff_le {v n : Nat} (h : readHoldOff v = some n) : n ≤ 20000 := by
  unfold readHoldOff at h
  split at h
  · next small => exact Option.some.inj h ▸ small
  · split at h
    · obtain rfl := Option.some.inj h
      decide
    · exact nomatch h

/-! ### One entry of each list (R6, R56, R91, R106) -/

section
variable {e : List Byte}

theorem readRegion_iff {r : Region} :
    readRegion e = some r ↔
      (fieldAt e 0 4 % 4096 = 0 ∧ fieldAt e 4 4 % 4096 = 0 ∧ 4096 ≤ fieldAt e 4 4 ∧ fieldAt e 4 4 ≤ 0x10000000 ∧
        fieldAt e 0 4 + fieldAt e 4 4 ≤ 0x80000000 ∧ fieldAt e 9 3 = 0) ∧
      ∃ kind, regionKindField (byteAt e 8) = some kind ∧
        r = { ident := 0, base := fieldAt e 0 4, size := fieldAt e 4 4, kind := kind, origin := .layout, hold := 0
              stream := none } := by
  unfold readRegion
  cases regionKindField (byteAt e 8) with
  | none => simp
  | some kind =>
    simp only [regionShapeOk, decide_eq_true_eq, Option.some.injEq, exists_eq_left', Option.ite_none_right_eq_some]
    exact and_congr (by simp only [Config.maxRegionSize, Config.dramSize]; omega) eq_comm

theorem readAccept_iff {v : AcceptEntry} :
    readAccept e = some v ↔
      (fieldAt e 0 2 ≤ 0x7FF ∧ (byteAt e 4 = 1 ∨ byteAt e 4 = 2) ∧ byteAt e 3 + byteAt e 4 ≤ 8 ∧ byteAt e 7 = 0 ∧
        50 ≤ fieldAt e 10 2 ∧ fieldAt e 10 2 ≤ 2000 ∧ (byteAt e 6 = 1 → byteAt e 4 = 1 → fieldAt e 8 2 ≤ 255)) ∧
      ∃ g signed marked, signalField (byteAt e 2) = some g ∧ flagField (byteAt e 5) = some signed ∧
        flagField (byteAt e 6) = some marked ∧
        v = { ident := fieldAt e 0 2, signal := g, startByte := byteAt e 3, width := byteAt e 4, signed := signed
              marker := if marked then some (fieldAt e 8 2) else none, limitMs := fieldAt e 10 2 } := by
  unfold readAccept
  cases signalField (byteAt e 2) with
  | none => simp
  | some g =>
    cases flagField (byteAt e 5) with
    | none => simp
    | some signed =>
      cases flag : flagField (byteAt e 6) with
      | none => simp
      | some marked =>
        have mark : marked = true ↔ byteAt e 6 = 1 := by
          rw [flagField_iff.1 flag]
          cases marked <;> simp [boolNumber]
        simp only [mark, Option.some.injEq, exists_and_left, exists_eq_left', Option.ite_none_right_eq_some]
        exact and_congr_right fun _ => eq_comm

theorem readBand_iff {b : Band} :
    readBand e = some b ↔
      (fieldAt e 6 2 = 0 ∧ (fieldAt e 4 2 = 0 ∨ (100 ≤ fieldAt e 4 2 ∧ fieldAt e 4 2 ≤ 5000))) ∧
      b = { limit := signedOf 32 (fieldAt e 0 4), interval := if fieldAt e 4 2 = 0 then none else some (fieldAt e 4 2) } := by
  unfold readBand
  simp only [Option.ite_none_right_eq_some, Option.some.injEq]
  exact and_congr_right fun _ => eq_comm

theorem readClip_iff {c : Clip} :
    readClip e = some c ↔
      (0x20000 ≤ fieldAt e 0 4 ∧ fieldAt e 0 4 + fieldAt e 4 4 ≤ 0x200000 ∧ fieldAt e 4 4 % 2 = 0 ∧ 2 ≤ fieldAt e 4 4 ∧
        fieldAt e 4 4 ≤ 65536 ∧ fieldAt e 10 2 = 0) ∧
      ∃ wanted, flagField (byteAt e 8) = some wanted ∧
        c = { offset := fieldAt e 0 4, length := fieldAt e 4 4, wanted := wanted, resident := wanted
              gain := min (byteAt e 9) 127 } := by
  unfold readClip
  cases flagField (byteAt e 8) with
  | none => simp
  | some wanted =>
    simp only [inDataBlocks_iff, Option.some.injEq, exists_eq_left', Option.ite_none_right_eq_some]
    exact and_congr (by omega) eq_comm

end

end Sys2Proof.Machine

end

/-! ## Proofs: the layout record (R6, R56, R91, R106) -/
section

namespace Sys2Proof.Machine

/-! ### The region list -/

theorem length_numberRegions (n : Nat) (rs : List Region) : (numberRegions n rs).length = rs.length := by
  induction rs generalizing n with
  | nil => rfl
  | cons r rest ih => rw [numberRegions, List.length_cons, List.length_cons, ih]

theorem getElem_numberRegions (n : Nat) (rs : List Region) (i : Nat) (h : i < (numberRegions n rs).length) :
    (numberRegions n rs)[i] = { rs[i]'(length_numberRegions n rs ▸ h) with ident := n + i } := by
  induction rs generalizing n i with
  | nil => exact nomatch h
  | cons r rest ih =>
    cases i with
    | zero => rfl
    | succ i =>
      have next := ih (n + 1) i (by simpa [numberRegions] using h)
      simp only [numberRegions, List.getElem_cons_succ]
      rw [next, Nat.add_right_comm, Nat.add_assoc]

theorem noneOverlap_iff (rs : List Region) :
    noneOverlap rs = true ↔ rs.Pairwise fun a b => a.base + a.size ≤ b.base ∨ b.base + b.size ≤ a.base := by
  induction rs with
  | nil => simp [noneOverlap]
  | cons r rest ih =>
    rw [noneOverlap, Bool.and_eq_true, ih, List.pairwise_cons, List.all_eq_true]
    refine and_congr_left fun _ => forall₂_congr fun q _ => ?_
    simp only [rangesMeet, Bool.not_eq_true', decide_eq_false_iff_not]
    omega

/-- The bounds of R6 and R189 on the bytes of region entry `i`. -/
def RegionBounds (rec : List Byte) (i : Nat) : Prop :=
  fieldAt rec (32 + 12 * i) 4 % 4096 = 0 ∧ fieldAt rec (32 + 12 * i + 4) 4 % 4096 = 0 ∧
    4096 ≤ fieldAt rec (32 + 12 * i + 4) 4 ∧ fieldAt rec (32 + 12 * i + 4) 4 ≤ 0x10000000 ∧
    fieldAt rec (32 + 12 * i) 4 + fieldAt rec (32 + 12 * i + 4) 4 ≤ 0x80000000 ∧ fieldAt rec (32 + 12 * i + 9) 3 = 0

/-- `r` is what entry `i` of the region list gives (R6). -/
structure RegionRead (rec : List Byte) (i : Nat) (r : Region) : Prop where
  bounds : RegionBounds rec i
  kind : byteAt rec (32 + 12 * i + 8) = r.kind.field
  fields : r = { ident := i, base := fieldAt rec (32 + 12 * i) 4, size := fieldAt rec (32 + 12 * i + 4) 4, kind := r.kind
                 origin := .layout, hold := 0, stream := none }

theorem exists_readRegion {rec : List Byte} {i : Nat} :
    (∃ r, readRegion (recordEntry rec (32 + 12 * i) 12) = some r) ↔
      RegionBounds rec i ∧ 1 ≤ byteAt rec (32 + 12 * i + 8) ∧ byteAt rec (32 + 12 * i + 8) ≤ 6 := by
  simp only [readRegion_iff, RegionBounds, fieldAt_recordEntry _ _ (show 0 + 4 ≤ 12 by decide),
    fieldAt_recordEntry _ _ (show 4 + 4 ≤ 12 by decide), fieldAt_recordEntry _ _ (show 9 + 3 ≤ 12 by decide),
    byteAt_recordEntry _ _ (show 8 < 12 by decide), Nat.add_zero, ← exists_regionKindField]
  constructor
  · rintro ⟨r, bounds, kind, named, -⟩
    exact ⟨bounds, kind, named⟩
  · rintro ⟨bounds, kind, named⟩
    exact ⟨_, bounds, kind, named, rfl⟩

theorem RegionRead.of_readRegion {rec : List Byte} {i : Nat} {r : Region}
    (reads : readRegion (recordEntry rec (32 + 12 * i) 12) = some r) : RegionRead rec i { r with ident := i } := by
  simp only [readRegion_iff, fieldAt_recordEntry _ _ (show 0 + 4 ≤ 12 by decide),
    fieldAt_recordEntry _ _ (show 4 + 4 ≤ 12 by decide), fieldAt_recordEntry _ _ (show 9 + 3 ≤ 12 by decide),
    byteAt_recordEntry _ _ (show 8 < 12 by decide), Nat.add_zero] at reads
  obtain ⟨bounds, kind, named, rfl⟩ := reads
  exact ⟨bounds, regionKindField_iff.1 named, rfl⟩

theorem regionRead_numberRegions {rec : List Byte} {listed : List Region}
    (reads : allEntries readRegion (recordEntries rec 32 12 (byteAt rec 8)) = some listed) :
    (numberRegions 0 listed).length = byteAt rec 8 ∧
      ∀ (i : Nat) (h : i < (numberRegions 0 listed).length), RegionRead rec i (numberRegions 0 listed)[i] := by
  obtain ⟨length, each⟩ := allEntries_record_iff.1 reads
  refine ⟨(length_numberRegions 0 listed).trans length, fun i h => ?_⟩
  rw [getElem_numberRegions, Nat.zero_add]
  exact .of_readRegion (each i _)

section
variable {rec : List Byte} {regions : List Region} (length : regions.length = byteAt rec 8)
  (reads : ∀ (i : Nat) (h : i < regions.length), RegionRead rec i regions[i])
include length reads

theorem noneOverlap_read_iff :
    noneOverlap regions = true ↔ ∀ i j, i < j → j < byteAt rec 8 →
      fieldAt rec (32 + 12 * i) 4 + fieldAt rec (36 + 12 * i) 4 ≤ fieldAt rec (32 + 12 * j) 4 ∨
        fieldAt rec (32 + 12 * j) 4 + fieldAt rec (36 + 12 * j) 4 ≤ fieldAt rec (32 + 12 * i) 4 := by
  have shift : ∀ k, 36 + 12 * k = 32 + 12 * k + 4 := fun k => by omega
  have base : ∀ (i : Nat) (h : i < regions.length), regions[i].base = fieldAt rec (32 + 12 * i) 4 := fun i h => by
    rw [(reads i h).fields]
  have size : ∀ (i : Nat) (h : i < regions.length), regions[i].size = fieldAt rec (32 + 12 * i + 4) 4 := fun i h => by
    rw [(reads i h).fields]
  simp only [noneOverlap_iff, List.pairwise_iff_getElem, base, size, shift]
  constructor
  · exact fun apart i j below inside => apart i j (by omega) (by omega) below
  · exact fun apart i j _ inside below => apart i j below (length ▸ inside)

end

/-! ### Roles (R56) -/

theorem roleIs_iff {regions : List Region} {pos : Nat} {kind : RegionKind} {sizeOk : Nat → Bool} {base : Nat} :
    roleIs regions pos kind sizeOk = some base ↔
      ∃ h : pos < regions.length, regions[pos].kind = kind ∧ sizeOk regions[pos].size = true ∧ regions[pos].base = base := by
  unfold roleIs
  by_cases inside : pos < regions.length
  · simp [inside, and_assoc]
  · simp [inside]

theorem RegionKind.field_inj {a b : RegionKind} (same : a.field = b.field) : a = b :=
  Option.some.inj ((regionKindField_iff.2 rfl).symm.trans (regionKindField_iff.2 same))

theorem exists_roleIs {rec : List Byte} {regions : List Region} (length : regions.length = byteAt rec 8)
    (reads : ∀ (i : Nat) (h : i < regions.length), RegionRead rec i regions[i]) {pos : Nat} {kind : RegionKind}
    {sizeOk : Nat → Bool} :
    (∃ base, roleIs regions pos kind sizeOk = some base) ↔
      (pos < byteAt rec 8 ∧ byteAt rec (40 + 12 * pos) = kind.field) ∧ sizeOk (fieldAt rec (36 + 12 * pos) 4) = true := by
  rw [show 40 + 12 * pos = 32 + 12 * pos + 8 by omega, show 36 + 12 * pos = 32 + 12 * pos + 4 by omega, ← length]
  simp only [roleIs_iff]
  constructor
  · rintro ⟨_, inside, rfl, ok, -⟩
    rw [(reads pos inside).fields] at ok
    exact ⟨⟨inside, (reads pos inside).kind⟩, ok⟩
  · rintro ⟨⟨inside, named⟩, ok⟩
    refine ⟨_, inside, RegionKind.field_inj ((reads pos inside).kind.symm.trans named), ?_, rfl⟩
    rw [(reads pos inside).fields]
    exact ok

theorem readRoles_iff {rec : List Byte} {regions : List Region} {roles : Roles} :
    readRoles rec regions = some roles ↔ ∃ ring report page status camera,
      roleIs regions (byteAt rec 0x0C) .requestRing (· == 8192) = some ring ∧
      roleIs regions (byteAt rec 0x0D) .status (· == 4096) = some report ∧
      roleIs regions (byteAt rec 0x0E) .control (· == 4096) = some page ∧
      roleIs regions (byteAt rec 0x0F) .status (· == 4096) = some status ∧
      roleIs regions (byteAt rec 0x10) .locked (fun n => decide (3 * Config.captureBufferSize ≤ n)) = some camera ∧
      byteAt rec 0x0D ≠ byteAt rec 0x0F ∧
      roles = { requestRing := ring, reportRing := report, controlPage := page, statusBlock := status
                cameraArea := some camera } := by
  unfold readRoles
  constructor
  · intro taken
    split at taken
    · next ring report page status camera isRing isReport isPage isStatus isCamera =>
      split at taken
      · exact nomatch taken
      · next apart =>
        exact ⟨ring, report, page, status, camera, isRing, isReport, isPage, isStatus, isCamera, apart,
          (Option.some.inj taken).symm⟩
    · exact nomatch taken
  · rintro ⟨ring, report, page, status, camera, isRing, isReport, isPage, isStatus, isCamera, apart, rfl⟩
    simp only [isRing, isReport, isPage, isStatus, isCamera, if_neg apart]

/-! ### The whole record -/

/-- What it takes for a layout record to give `y` (R56). -/
structure Layout.ReadFrom (y : Layout) (rec : List Byte) : Prop where
  shape : layoutShapeOk rec = true
  regions : ∃ listed, allEntries readRegion (recordEntries rec 32 12 (byteAt rec 8)) = some listed ∧
    y.regions = numberRegions 0 listed
  apart : noneOverlap y.regions = true
  roles : readRoles rec y.regions = some y.roles
  table : allEntries readAccept (recordEntries rec (32 + 12 * byteAt rec 8) 12 (byteAt rec 9)) = some y.table
  bands : allEntries readBand (recordEntries rec (32 + 12 * byteAt rec 8 + 12 * byteAt rec 9) 8 (byteAt rec 10)) =
    some y.bands
  clips : allEntries readClip (recordEntries rec
    (32 + 12 * byteAt rec 8 + 12 * byteAt rec 9 + 8 * byteAt rec 10) 12 (byteAt rec 11)) = some y.clips
  source : sourceField (byteAt rec 0x11) = some y.source
  duck : readDuck (byteAt rec 0x12) = some y.duck
  holdOff : readHoldOff (fieldAt rec 0x14 2) = some y.holdOffMs
  ascending : strictlyAscending (y.bands.map Band.limit) = true
  fallback : inDataBlocks (fieldAt rec 0x1C 4) 16448 = true
  rest : y.exitSpeed = signedOf 32 (fieldAt rec 0x18 4) ∧ y.fallbackOffset = fieldAt rec 0x1C 4

theorem readLayout_iff {rec : List Byte} {y : Layout} : readLayout rec = some y ↔ y.ReadFrom rec := by
  unfold readLayout readLayoutRest
  constructor
  · intro taken
    split at taken
    case isFalse => exact nomatch taken
    next shape =>
    split at taken
    case h_1 => exact nomatch taken
    next listed reads =>
    dsimp only at taken
    split at taken
    case isFalse => exact nomatch taken
    next apart =>
    split at taken
    case h_1 => exact nomatch taken
    next roles areRoles =>
    split at taken
    case h_2 => exact nomatch taken
    next table bands clips source duck holdOff isTable isBands isClips isSource isDuck isHoldOff =>
    split at taken
    case isFalse => exact nomatch taken
    next last =>
    obtain rfl := Option.some.inj taken
    exact ⟨shape, ⟨listed, reads, rfl⟩, apart, areRoles, isTable, isBands, isClips, isSource, isDuck, isHoldOff, last.1,
      last.2, rfl, rfl⟩
  · rintro ⟨shape, ⟨listed, reads, regions⟩, apart, roles, table, bands, clips, source, duck, holdOff, ascending, fallback,
      exitSpeed, offset⟩
    rw [regions] at apart roles
    simp only [shape, reads, apart, roles, table, bands, clips, source, duck, holdOff, ascending, fallback, and_self, if_true]
    rw [← regions, ← exitSpeed, ← offset]

end Sys2Proof.Machine

end

/-! ## Proofs: a layout is taken exactly where it keeps its rules (R56, R189) -/
section

namespace Sys2Proof.Machine

/-! ### What a layout that is taken keeps -/

section
variable {rec : List Byte} {y : Layout} (taken : y.ReadFrom rec)
include taken

theorem Layout.ReadFrom.regions_read :
    y.regions.length = byteAt rec 8 ∧ ∀ (i : Nat) (h : i < y.regions.length), RegionRead rec i y.regions[i] := by
  obtain ⟨listed, reads, regions⟩ := taken.regions
  rw [regions]
  exact regionRead_numberRegions reads

theorem Layout.ReadFrom.counts :
    1 ≤ byteAt rec 8 ∧ byteAt rec 8 ≤ 16 ∧ byteAt rec 9 ≤ 8 ∧ byteAt rec 10 ≤ 5 ∧ byteAt rec 11 ≤ 16 ∧
      byteAt rec 0x13 = 0 ∧ fieldAt rec 0x16 2 = 0 ∧
      rec.length = 32 + 12 * byteAt rec 8 + 12 * byteAt rec 9 + 8 * byteAt rec 10 + 12 * byteAt rec 11 :=
  of_decide_eq_true taken.shape

/-- A role names a region of the table of its kind and size (R56). -/
theorem Layout.ReadFrom.role {pos : Nat} {kind : RegionKind} {sizeOk : Nat → Bool} {base : Nat}
    (names : roleIs y.regions pos kind sizeOk = some base) :
    ∃ r ∈ y.regions, r.kind = kind ∧ sizeOk r.size = true ∧ r.base = base ∧ r.ident = pos := by
  obtain ⟨inside, kind, size, base⟩ := roleIs_iff.1 names
  refine ⟨_, List.getElem_mem inside, kind, size, base, ?_⟩
  rw [(taken.regions_read.2 pos inside).fields]

theorem Layout.ReadFrom.five_roles :
    ∃ ring report page status camera : Region, ring ∈ y.regions ∧ report ∈ y.regions ∧ page ∈ y.regions ∧
      status ∈ y.regions ∧ camera ∈ y.regions ∧ ring.kind = .requestRing ∧ ring.size = 8192 ∧ report.kind = .status ∧
      report.size = 4096 ∧ page.kind = .control ∧ page.size = 4096 ∧ status.kind = .status ∧ status.size = 4096 ∧
      report.ident ≠ status.ident ∧ camera.kind = .locked ∧ 5529600 ≤ camera.size ∧
      y.roles = { requestRing := ring.base, reportRing := report.base, controlPage := page.base
                  statusBlock := status.base, cameraArea := some camera.base } := by
  obtain ⟨_, _, _, _, _, isRing, isReport, isPage, isStatus, isCamera, apart, roles⟩ := readRoles_iff.1 taken.roles
  obtain ⟨ring, ringIn, ringKind, ringSize, rfl, -⟩ := taken.role isRing
  obtain ⟨report, reportIn, reportKind, reportSize, rfl, reportPos⟩ := taken.role isReport
  obtain ⟨page, pageIn, pageKind, pageSize, rfl, -⟩ := taken.role isPage
  obtain ⟨status, statusIn, statusKind, statusSize, rfl, statusPos⟩ := taken.role isStatus
  obtain ⟨camera, cameraIn, cameraKind, cameraSize, rfl, -⟩ := taken.role isCamera
  exact ⟨ring, report, page, status, camera, ringIn, reportIn, pageIn, statusIn, cameraIn, ringKind, of_decide_eq_true ringSize,
    reportKind, of_decide_eq_true reportSize, pageKind, of_decide_eq_true pageSize, statusKind, of_decide_eq_true statusSize,
    by rwa [reportPos, statusPos], cameraKind, of_decide_eq_true cameraSize, roles⟩

theorem Layout.ReadFrom.entry {e : AcceptEntry} (mem : e ∈ y.table) :
    e.ident ≤ 0x7FF ∧ (e.width = 1 ∨ e.width = 2) ∧ e.startByte + e.width ≤ 8 ∧ 50 ≤ e.limitMs ∧
      e.limitMs ≤ 2000 ∧ ∀ m, e.marker = some m → e.width = 1 → m ≤ 255 := by
  obtain ⟨bytes, -, reads⟩ := allEntries_mem taken.table e mem
  obtain ⟨⟨ident, width, start, -, low, high, marker⟩, g, signed, marked, -, -, flag, rfl⟩ := readAccept_iff.1 reads
  refine ⟨ident, width, start, low, high, fun m isMarker one => ?_⟩
  cases marked with
  | false => exact nomatch isMarker
  | true =>
    obtain rfl := Option.some.inj isMarker
    exact marker (flagField_iff.1 flag) one

theorem Layout.ReadFrom.band {b : Band} (mem : b ∈ y.bands) : ∀ ms, b.interval = some ms → 100 ≤ ms ∧ ms ≤ 5000 := by
  obtain ⟨bytes, -, reads⟩ := allEntries_mem taken.bands b mem
  obtain ⟨⟨-, within⟩, rfl⟩ := readBand_iff.1 reads
  intro ms interval
  by_cases zero : fieldAt bytes 4 2 = 0
  · exact nomatch (if_pos zero).symm.trans interval
  · obtain rfl := Option.some.inj ((if_neg zero).symm.trans interval)
    exact within.resolve_left zero

theorem Layout.ReadFrom.clip {c : Clip} (mem : c ∈ y.clips) :
    c.length % 2 = 0 ∧ 2 ≤ c.length ∧ c.length ≤ 65536 ∧ c.gain ≤ 127 ∧ 0x20000 ≤ c.offset ∧
      c.offset + c.length ≤ 0x200000 := by
  obtain ⟨bytes, -, reads⟩ := allEntries_mem taken.clips c mem
  obtain ⟨⟨low, high, even, least, most, -⟩, wanted, -, rfl⟩ := readClip_iff.1 reads
  exact ⟨even, least, most, Nat.min_le_right .., low, high⟩

end

/-! ### The rules of each list, of the record's bytes -/

section
variable {rec : List Byte} {o : Nat}

theorem exists_readAccept :
    (∃ v, readAccept (recordEntry rec o 12) = some v) ↔
      fieldAt rec o 2 ≤ 0x7FF ∧ byteAt rec (o + 2) ≤ 3 ∧ (byteAt rec (o + 4) = 1 ∨ byteAt rec (o + 4) = 2) ∧
        byteAt rec (o + 3) + byteAt rec (o + 4) ≤ 8 ∧ byteAt rec (o + 5) ≤ 1 ∧ byteAt rec (o + 6) ≤ 1 ∧
        byteAt rec (o + 7) = 0 ∧ 50 ≤ fieldAt rec (o + 10) 2 ∧ fieldAt rec (o + 10) 2 ≤ 2000 ∧
        (byteAt rec (o + 6) = 1 → byteAt rec (o + 4) = 1 → fieldAt rec (o + 8) 2 ≤ 255) := by
  simp only [readAccept_iff, fieldAt_recordEntry _ _ (show 0 + 2 ≤ 12 by decide),
    fieldAt_recordEntry _ _ (show 8 + 2 ≤ 12 by decide), fieldAt_recordEntry _ _ (show 10 + 2 ≤ 12 by decide),
    byteAt_recordEntry _ _ (show 2 < 12 by decide), byteAt_recordEntry _ _ (show 3 < 12 by decide),
    byteAt_recordEntry _ _ (show 4 < 12 by decide), byteAt_recordEntry _ _ (show 5 < 12 by decide),
    byteAt_recordEntry _ _ (show 6 < 12 by decide), byteAt_recordEntry _ _ (show 7 < 12 by decide), Nat.add_zero,
    ← exists_signalField, ← exists_flagField]
  constructor
  · rintro ⟨v, ⟨ident, width, start, reserved, low, high, marker⟩, g, signed, marked, signal, sign, mark, -⟩
    exact ⟨ident, ⟨g, signal⟩, width, start, ⟨signed, sign⟩, ⟨marked, mark⟩, reserved, low, high, marker⟩
  · rintro ⟨ident, ⟨g, signal⟩, width, start, ⟨signed, sign⟩, ⟨marked, mark⟩, reserved, low, high, marker⟩
    exact ⟨_, ⟨ident, width, start, reserved, low, high, marker⟩, g, signed, marked, signal, sign, mark, rfl⟩

theorem exists_readClip :
    (∃ c, readClip (recordEntry rec o 12) = some c) ↔
      0x20000 ≤ fieldAt rec o 4 ∧ fieldAt rec o 4 + fieldAt rec (o + 4) 4 ≤ 0x200000 ∧ fieldAt rec (o + 4) 4 % 2 = 0 ∧
        2 ≤ fieldAt rec (o + 4) 4 ∧ fieldAt rec (o + 4) 4 ≤ 65536 ∧ byteAt rec (o + 8) ≤ 1 ∧
        fieldAt rec (o + 10) 2 = 0 := by
  simp only [readClip_iff, fieldAt_recordEntry _ _ (show 0 + 4 ≤ 12 by decide),
    fieldAt_recordEntry _ _ (show 4 + 4 ≤ 12 by decide), fieldAt_recordEntry _ _ (show 10 + 2 ≤ 12 by decide),
    byteAt_recordEntry _ _ (show 8 < 12 by decide), byteAt_recordEntry _ _ (show 9 < 12 by decide), Nat.add_zero,
    ← exists_flagField]
  constructor
  · rintro ⟨c, ⟨low, high, even, least, most, reserved⟩, wanted, flag, -⟩
    exact ⟨low, high, even, least, most, ⟨wanted, flag⟩, reserved⟩
  · rintro ⟨low, high, even, least, most, ⟨wanted, flag⟩, reserved⟩
    exact ⟨_, ⟨low, high, even, least, most, reserved⟩, wanted, flag, rfl⟩

/-- A band entry's limit and the rules of its other bytes. -/
theorem readBand_record_iff {b : Band} :
    readBand (recordEntry rec o 8) = some b ↔
      (fieldAt rec (o + 6) 2 = 0 ∧
        (fieldAt rec (o + 4) 2 = 0 ∨ (100 ≤ fieldAt rec (o + 4) 2 ∧ fieldAt rec (o + 4) 2 ≤ 5000))) ∧
      b = { limit := signedOf 32 (fieldAt rec o 4)
            interval := if fieldAt rec (o + 4) 2 = 0 then none else some (fieldAt rec (o + 4) 2) } := by
  simp only [readBand_iff, fieldAt_recordEntry _ _ (show 0 + 4 ≤ 8 by decide),
    fieldAt_recordEntry _ _ (show 4 + 2 ≤ 8 by decide), fieldAt_recordEntry _ _ (show 6 + 2 ≤ 8 by decide), Nat.add_zero]

/-- The bands of a record that are read ascend exactly where the limits of its bytes do (R106). -/
theorem ascending_bands_iff {count : Nat} {bands : List Band}
    (reads : allEntries readBand (recordEntries rec o 8 count) = some bands) :
    strictlyAscending (bands.map Band.limit) = true ↔
      ∀ i, i + 1 < count → signedOf 32 (fieldAt rec (o + 8 * i) 4) < signedOf 32 (fieldAt rec (o + 8 * i + 8) 4) := by
  obtain ⟨length, each⟩ := allEntries_record_iff.1 reads
  have limit : ∀ (i : Nat) (h : i < bands.length), bands[i].limit = signedOf 32 (fieldAt rec (o + 8 * i) 4) := fun i h => by
    rw [(readBand_record_iff.1 (each i h)).2]
  simp only [strictlyAscending_iff_next, List.length_map, List.getElem_map, limit, length, Nat.mul_add, Nat.mul_one,
    Nat.add_assoc]

end

/-! ### A layout is taken exactly where its bytes keep the rules -/

theorem layoutRules_of_readFrom {rec : List Byte} {y : Layout} (taken : y.ReadFrom rec) : LayoutRules rec := by
  obtain ⟨one, regionCount, tableCount, bandCount, clipCount, reserved, reservedField, length⟩ := taken.counts
  obtain ⟨regionsLength, regions⟩ := taken.regions_read
  obtain ⟨_, _, _, _, _, isRing, isReport, isPage, isStatus, isCamera, apart, -⟩ := readRoles_iff.1 taken.roles
  have role {pos : Nat} {kind : RegionKind} {sizeOk : Nat → Bool} {base : Nat}
      (names : roleIs y.regions pos kind sizeOk = some base) := (exists_roleIs regionsLength regions).1 ⟨base, names⟩
  refine ⟨⟨one, regionCount, tableCount, bandCount, clipCount⟩, ⟨reserved, reservedField⟩, length, fun i inside => ?_,
    (noneOverlap_read_iff regionsLength regions).1 taken.apart, ?_,
    fun i inside => exists_readAccept.1 (exists_allEntries_iff.1 ⟨_, taken.table⟩ i inside), fun i inside => ?_,
    fun i inside => exists_readClip.1 (exists_allEntries_iff.1 ⟨_, taken.clips⟩ i inside),
    exists_sourceField.1 ⟨_, taken.source⟩, exists_readDuck.1 ⟨_, taken.duck⟩, exists_readHoldOff.1 ⟨_, taken.holdOff⟩,
    (inDataBlocks_iff _ _).1 taken.fallback⟩
  · obtain ⟨listed, reads, -⟩ := taken.regions
    obtain ⟨⟨base, size, least, most, fits, clear⟩, low, high⟩ :=
      exists_readRegion.1 (exists_allEntries_iff.1 ⟨_, reads⟩ i inside)
    exact ⟨base, size, least, most, fits, low, high, clear⟩
  · obtain ⟨ring, ringSize⟩ := role isRing
    obtain ⟨report, reportSize⟩ := role isReport
    obtain ⟨page, pageSize⟩ := role isPage
    obtain ⟨status, statusSize⟩ := role isStatus
    obtain ⟨camera, cameraSize⟩ := role isCamera
    exact ⟨⟨ring, of_decide_eq_true ringSize⟩, ⟨report, of_decide_eq_true reportSize⟩,
      ⟨page, of_decide_eq_true pageSize⟩, ⟨status, of_decide_eq_true statusSize⟩, ⟨camera, of_decide_eq_true cameraSize⟩, apart⟩
  · obtain ⟨b, reads⟩ := exists_allEntries_iff.1 ⟨_, taken.bands⟩ i inside
    obtain ⟨⟨clear, interval⟩, -⟩ := readBand_record_iff.1 reads
    exact ⟨clear, interval, (ascending_bands_iff taken.bands).1 taken.ascending i⟩

theorem exists_readFrom_of_layoutRules {rec : List Byte} (h : LayoutRules rec) : ∃ y : Layout, y.ReadFrom rec := by
  obtain ⟨listed, isListed⟩ := exists_allEntries_iff (read := readRegion).2 fun i inside =>
    have ⟨base, size, least, most, fits, low, high, clear⟩ := h.regions i inside
    exists_readRegion.2 ⟨⟨base, size, least, most, fits, clear⟩, low, high⟩
  obtain ⟨regionsLength, regions⟩ := regionRead_numberRegions isListed
  have role {pos : Nat} (kind : RegionKind) (sizeOk : Nat → Bool)
      (named : (pos < byteAt rec 8 ∧ byteAt rec (40 + 12 * pos) = kind.field) ∧ sizeOk (fieldAt rec (36 + 12 * pos) 4) = true) :=
    (exists_roleIs regionsLength regions).2 named
  obtain ⟨⟨isRing, ringSize⟩, ⟨isReport, reportSize⟩, ⟨isPage, pageSize⟩, ⟨isStatus, statusSize⟩, ⟨isCamera, cameraSize⟩,
    distinct⟩ := h.roles
  obtain ⟨ring, namesRing⟩ := role .requestRing (· == 8192) ⟨isRing, decide_eq_true ringSize⟩
  obtain ⟨report, namesReport⟩ := role .status (· == 4096) ⟨isReport, decide_eq_true reportSize⟩
  obtain ⟨page, namesPage⟩ := role .control (· == 4096) ⟨isPage, decide_eq_true pageSize⟩
  obtain ⟨status, namesStatus⟩ := role .status (· == 4096) ⟨isStatus, decide_eq_true statusSize⟩
  obtain ⟨camera, namesCamera⟩ := role .locked (fun n => decide (3 * Config.captureBufferSize ≤ n))
    ⟨isCamera, decide_eq_true cameraSize⟩
  obtain ⟨table, isTable⟩ := exists_allEntries_iff.2 fun i inside => exists_readAccept.2 (h.entries i inside)
  obtain ⟨bands, isBands⟩ := exists_allEntries_iff (read := readBand).2 fun i inside =>
    have ⟨clear, interval, _⟩ := h.bands i inside
    ⟨_, readBand_record_iff.2 ⟨⟨clear, interval⟩, rfl⟩⟩
  obtain ⟨clips, isClips⟩ := exists_allEntries_iff.2 fun i inside => exists_readClip.2 (h.clips i inside)
  obtain ⟨source, isSource⟩ := exists_sourceField.2 h.source
  obtain ⟨duck, isDuck⟩ := exists_readDuck.2 h.duck
  obtain ⟨holdOff, isHoldOff⟩ := exists_readHoldOff.2 h.holdOff
  obtain ⟨one, regionCount, tableCount, bandCount, clipCount⟩ := h.counts
  refine ⟨{ regions := numberRegions 0 listed
            roles := { requestRing := ring, reportRing := report, controlPage := page, statusBlock := status
                       cameraArea := some camera }
            table := table, bands := bands, clips := clips, source := source, duck := duck, holdOffMs := holdOff
            exitSpeed := signedOf 32 (fieldAt rec 0x18 4), fallbackOffset := fieldAt rec 0x1C 4 }, ?_⟩
  exact {
    shape := decide_eq_true ⟨one, regionCount, tableCount, bandCount, clipCount, h.reserved.1, h.reserved.2, h.length⟩
    regions := ⟨listed, isListed, rfl⟩
    apart := (noneOverlap_read_iff regionsLength regions).2 h.apart
    roles := readRoles_iff.2 ⟨ring, report, page, status, camera, namesRing, namesReport, namesPage, namesStatus, namesCamera,
      distinct, rfl⟩
    table := isTable
    bands := isBands
    clips := isClips
    source := isSource
    duck := isDuck
    holdOff := isHoldOff
    ascending := (ascending_bands_iff isBands).2 fun i next => (h.bands i (by omega)).2.2 next
    fallback := (inDataBlocks_iff _ _).2 h.fallback
    rest := ⟨rfl, rfl⟩ }

end Sys2Proof.Machine

end

/-! ## Proofs: the calibration record, and which stored records are taken (R53, R82, R112) -/
section

namespace Sys2Proof.Machine

theorem signedOf_sixteen (v : Nat) (small : v < 65536) : -32768 ≤ signedOf 16 v ∧ signedOf 16 v ≤ 32767 := by
  unfold signedOf
  split <;> omega

/-! ### The parts of a calibration record -/

section
variable {rec : List Byte}

theorem readCameraConfig_iff {c : CameraConfig} :
    readCameraConfig rec = some c ↔
      (fieldAt rec 0x08 2 ≤ 65 ∧ fieldAt rec 0x0A 2 ≤ 41 ∧ 16 ≤ byteAt rec 0x0F ∧ byteAt rec 0x0F ≤ byteAt rec 0x0D ∧
        byteAt rec 0x0D ≤ byteAt rec 0x0E ∧ byteAt rec 0x0E ≤ byteAt rec 0x10 ∧ byteAt rec 0x10 ≤ 235) ∧
      ∃ mirror, flagField (byteAt rec 0x0C) = some mirror ∧
        c = { cropCol := fieldAt rec 0x08 2 - fieldAt rec 0x08 2 % 2, cropRow := fieldAt rec 0x0A 2 - fieldAt rec 0x0A 2 % 2
              mirror := mirror, tLo := byteAt rec 0x0D, tHi := byteAt rec 0x0E, dLo := byteAt rec 0x0F
              dHi := byteAt rec 0x10 } := by
  unfold readCameraConfig
  cases flagField (byteAt rec 0x0C) with
  | none => simp
  | some mirror =>
    simp only [Option.some.injEq, exists_eq_left', Option.ite_none_right_eq_some]
    exact and_congr (by omega) eq_comm

/-- The breakpoints of the steering curve (R112). -/
def recordCurve (rec : List Byte) : List (Int × Int) :=
  (List.range (byteAt rec 0x12)).map fun i =>
    (signedOf 16 (fieldAt rec (76 + 4 * i) 2), signedOf 16 (fieldAt rec (78 + 4 * i) 2))

/-- The distance marks (R112). -/
def recordMarks (rec : List Byte) : List Int :=
  (List.range (byteAt rec 0x13)).map fun i => (fieldAt rec (76 + 4 * byteAt rec 0x12 + 2 * i) 2 : Int)

theorem recordEntries_curve :
    (recordEntries rec 76 4 (byteAt rec 0x12)).map
      (fun e => (signedOf 16 (fieldAt e 0 2), signedOf 16 (fieldAt e 2 2))) = recordCurve rec := by
  rw [recordEntries_eq, List.map_map, recordCurve]
  refine List.map_congr_left fun i _ => ?_
  rw [Function.comp_apply, fieldAt_recordEntry _ _ (by decide), fieldAt_recordEntry _ _ (by decide),
    show 76 + 4 * i + 2 = 78 + 4 * i by omega, Nat.add_zero]

theorem recordEntries_marks :
    (recordEntries rec (76 + 4 * byteAt rec 0x12) 2 (byteAt rec 0x13)).map (fun e => (fieldAt e 0 2 : Int)) =
      recordMarks rec := by
  rw [recordEntries_eq, List.map_map, recordMarks]
  refine List.map_congr_left fun i _ => ?_
  rw [Function.comp_apply, fieldAt_recordEntry _ _ (by decide), Nat.add_zero]

/-- What R112 asks of the guide engine's part. -/
def GuideFieldsOk (rec : List Byte) : Prop :=
  strictlyAscending ((recordCurve rec).map Prod.fst) = true ∧ (∀ p ∈ recordCurve rec, -32767 ≤ p.2) ∧
    500 ≤ fieldAt rec 0x14 2 ∧ fieldAt rec 0x14 2 ≤ 1200 ∧ fieldAt rec 0x16 2 ≤ 2000 ∧
    strictlyAscending (recordMarks rec) = true ∧ (∀ d ∈ recordMarks rec, 100 ≤ d ∧ d ≤ 8000) ∧ 100 ≤ fieldAt rec 0x18 2 ∧
    fieldAt rec 0x18 2 ≤ fieldAt rec 0x1A 2 ∧ fieldAt rec 0x1A 2 ≤ 8000 ∧ 1 ≤ byteAt rec 0x11 ∧ byteAt rec 0x11 ≤ 8

/-- The guide engine's part of a record that R112 accepts. -/
def recordGuide (rec : List Byte) : GuideConfig :=
  { halfWidth := fieldAt rec 0x14 2, overhang := fieldAt rec 0x16 2, curve := recordCurve rec, marks := recordMarks rec
    b1 := fieldAt rec 0x18 2, b2 := fieldAt rec 0x1A 2
    homography :=
      { h11 := signedField32 rec 0x28, h12 := signedField32 rec 0x2C, h13 := signedField32 rec 0x30
        h21 := signedField32 rec 0x34, h22 := signedField32 rec 0x38, h23 := signedField32 rec 0x3C
        h31 := signedField32 rec 0x40, h32 := signedField32 rec 0x44, h33 := signedField32 rec 0x48 }
    lineHalf := byteAt rec 0x11, near := BitVec.ofNat 32 (fieldAt rec 0x1C 4)
    mid := BitVec.ofNat 32 (fieldAt rec 0x20 4), far := BitVec.ofNat 32 (fieldAt rec 0x24 4) }

theorem readGuideConfig_iff {g : GuideConfig} :
    readGuideConfig rec = some g ↔ GuideFieldsOk rec ∧ g = recordGuide rec := by
  unfold readGuideConfig GuideFieldsOk recordGuide
  simp only [recordEntries_curve, recordEntries_marks, List.all_eq_true, decide_eq_true_eq,
    Option.ite_none_right_eq_some, Option.some.injEq]
  exact and_congr_right fun _ => eq_comm

/-! ### The whole record -/

theorem calibrationShapeOk_iff :
    calibrationShapeOk rec = true ↔
      2 ≤ byteAt rec 0x12 ∧ byteAt rec 0x12 ≤ 16 ∧ 1 ≤ byteAt rec 0x13 ∧ byteAt rec 0x13 ≤ 8 ∧
        rec.length = 76 + 4 * byteAt rec 0x12 + 2 * byteAt rec 0x13 := decide_eq_true_iff

theorem readCalibration_iff {y : Calibration} :
    readCalibration rec = some y ↔
      calibrationShapeOk rec = true ∧ readCameraConfig rec = some y.camera ∧ readGuideConfig rec = some y.guide := by
  unfold readCalibration
  constructor
  · intro taken
    split at taken
    case isFalse => exact nomatch taken
    next shape =>
    split at taken
    case h_2 => exact nomatch taken
    next camera guide isCamera isGuide =>
    obtain rfl := Option.some.inj taken
    exact ⟨shape, isCamera, isGuide⟩
  · rintro ⟨shape, camera, guide⟩
    simp only [shape, camera, guide, if_true]

theorem length_recordCurve : (recordCurve rec).length = byteAt rec 0x12 := by simp [recordCurve]

theorem length_recordMarks : (recordMarks rec).length = byteAt rec 0x13 := by simp [recordMarks]

theorem mem_recordCurve {p : Int × Int} :
    p ∈ recordCurve rec ↔ ∃ i < byteAt rec 0x12,
      (signedOf 16 (fieldAt rec (76 + 4 * i) 2), signedOf 16 (fieldAt rec (78 + 4 * i) 2)) = p := by
  simp [recordCurve]

theorem mem_recordMarks {d : Int} :
    d ∈ recordMarks rec ↔ ∃ i < byteAt rec 0x13, (fieldAt rec (76 + 4 * byteAt rec 0x12 + 2 * i) 2 : Int) = d := by
  simp [recordMarks]

theorem ascending_recordCurve :
    strictlyAscending ((recordCurve rec).map Prod.fst) = true ↔ ∀ i, i + 1 < byteAt rec 0x12 →
      signedOf 16 (fieldAt rec (76 + 4 * i) 2) < signedOf 16 (fieldAt rec (80 + 4 * i) 2) := by
  have shift : ∀ i, 76 + 4 * (i + 1) = 80 + 4 * i := fun i => by omega
  simp only [strictlyAscending_iff_next, List.length_map, length_recordCurve]
  simp only [recordCurve, List.getElem_map, List.getElem_range, shift]

theorem ascending_recordMarks :
    strictlyAscending (recordMarks rec) = true ↔ ∀ i, i + 1 < byteAt rec 0x13 →
      fieldAt rec (76 + 4 * byteAt rec 0x12 + 2 * i) 2 < fieldAt rec (76 + 4 * byteAt rec 0x12 + 2 * i + 2) 2 := by
  simp only [strictlyAscending_iff_next, length_recordMarks]
  simp only [recordMarks, List.getElem_map, List.getElem_range, Nat.mul_add, Nat.mul_one, ← Nat.add_assoc, Nat.cast_lt]

theorem guideFieldsOk_iff :
    GuideFieldsOk rec ↔
      (500 ≤ fieldAt rec 0x14 2 ∧ fieldAt rec 0x14 2 ≤ 1200 ∧ fieldAt rec 0x16 2 ≤ 2000) ∧
      (100 ≤ fieldAt rec 0x18 2 ∧ fieldAt rec 0x18 2 ≤ fieldAt rec 0x1A 2 ∧ fieldAt rec 0x1A 2 ≤ 8000) ∧
      (1 ≤ byteAt rec 0x11 ∧ byteAt rec 0x11 ≤ 8) ∧
      (∀ i, i < byteAt rec 0x12 → -32767 ≤ signedOf 16 (fieldAt rec (78 + 4 * i) 2) ∧ (i + 1 < byteAt rec 0x12 →
        signedOf 16 (fieldAt rec (76 + 4 * i) 2) < signedOf 16 (fieldAt rec (80 + 4 * i) 2))) ∧
      ∀ i, i < byteAt rec 0x13 →
        let at' := 76 + 4 * byteAt rec 0x12 + 2 * i
        100 ≤ fieldAt rec at' 2 ∧ fieldAt rec at' 2 ≤ 8000 ∧
          (i + 1 < byteAt rec 0x13 → fieldAt rec at' 2 < fieldAt rec (at' + 2) 2) := by
  simp only [GuideFieldsOk, ascending_recordCurve, ascending_recordMarks, mem_recordCurve, mem_recordMarks]
  constructor
  · rintro ⟨curve, values, least, most, overhang, marks, distances, low, ordered, high, thin, thick⟩
    refine ⟨⟨least, most, overhang⟩, ⟨low, ordered, high⟩, ⟨thin, thick⟩, fun i inside => ⟨values _ ⟨i, inside, rfl⟩, curve i⟩,
      fun i inside => ?_⟩
    have bounds := distances _ ⟨i, inside, rfl⟩
    exact ⟨by omega, by omega, marks i⟩
  · rintro ⟨⟨least, most, overhang⟩, ⟨low, ordered, high⟩, ⟨thin, thick⟩, points, marks⟩
    refine ⟨fun i next => (points i (by omega)).2 next, ?_, least, most, overhang, fun i next => (marks i (by omega)).2.2 next,
      ?_, low, ordered, high, thin, thick⟩
    · rintro _ ⟨i, inside, rfl⟩
      exact (points i inside).1
    · rintro _ ⟨i, inside, rfl⟩
      obtain ⟨near, far, -⟩ := marks i inside
      omega

theorem exists_readCalibration_iff : (∃ y, readCalibration rec = some y) ↔ CalibrationRules rec := by
  simp only [readCalibration_iff, calibrationShapeOk_iff, readCameraConfig_iff, readGuideConfig_iff, guideFieldsOk_iff]
  constructor
  · rintro ⟨y, ⟨two, most, one, eight, length⟩, ⟨⟨col, row, low, tLo, tHi, dHi, high⟩, mirror, flag, -⟩,
      ⟨vehicle, limits, half, points, marks⟩, -⟩
    exact ⟨⟨two, most, one, eight⟩, length, ⟨col, row, exists_flagField.1 ⟨mirror, flag⟩⟩, ⟨low, tLo, tHi, dHi, high⟩, vehicle,
      limits, half, points, marks⟩
  · rintro ⟨⟨two, most, one, eight⟩, length, ⟨col, row, mirrored⟩, ⟨low, tLo, tHi, dHi, high⟩, vehicle, limits, half, points,
      marks⟩
    obtain ⟨mirror, flag⟩ := exists_flagField.2 mirrored
    exact ⟨{ camera := _, guide := _ }, ⟨two, most, one, eight, length⟩,
      ⟨⟨col, row, low, tLo, tHi, dHi, high⟩, mirror, flag, rfl⟩, ⟨vehicle, limits, half, points, marks⟩, rfl⟩

end

/-! ### The record of a block (R53) -/

theorem validRecord_iff (st : Store) (block minimum : Nat) (rec : List Byte) :
    st.validRecord block minimum = some rec ↔
      st.status block ≠ .incomplete ∧ minimum ≤ rec.length ∧ rec.length ≤ 65536 ∧
        fieldAt (st.bytes (block * 65536) 4) 0 4 = rec.length ∧ rec = st.bytes (block * 65536) rec.length ∧
        crc32 (rec.take 4 ++ rec.drop 8) = BitVec.ofNat 32 (fieldAt rec 4 4) := by
  have length (n : Nat) : (st.bytes (block * 65536) n).length = n := by simp [Store.bytes]
  unfold Store.validRecord
  simp only [Option.ite_none_left_eq_some, Option.ite_none_right_eq_some, Option.some.injEq]
  constructor
  · rintro ⟨complete, fits, checks, rfl⟩
    have size := length (fieldAt (st.bytes (block * Config.blockSize) 4) 0 4)
    rw [show (st.bytes (block * Config.blockSize) _).length = _ from size]
    exact ⟨complete, by omega, by omega, rfl, rfl, checks⟩
  · rintro ⟨complete, least, most, isLength, isRec, checks⟩
    have size : block * 65536 = block * Config.blockSize := rfl
    rw [size] at isLength isRec
    rw [isLength, ← isRec]
    exact ⟨complete, by omega, checks, rfl⟩

/-- Settles O6. -/
theorem storedRecordsTakenOnlyIfValid : Obligations.StoredRecordsTakenOnlyIfValid := by
  refine ⟨fun rec y taken => ?_, fun rec y taken => ?_, fun rec => ⟨?_, exists_readCalibration_iff⟩, validRecord_iff⟩
  · have from' := readLayout_iff.1 taken
    obtain ⟨one, regionCount, tableCount, bandCount, clipCount, -, -, length⟩ := from'.counts
    obtain ⟨regionsLength, regions⟩ := from'.regions_read
    obtain ⟨tableLength, -⟩ := allEntries_record_iff.1 from'.table
    obtain ⟨bandsLength, -⟩ := allEntries_record_iff.1 from'.bands
    obtain ⟨clipsLength, -⟩ := allEntries_record_iff.1 from'.clips
    obtain ⟨fallbackLow, fallbackHigh⟩ := (inDataBlocks_iff _ _).1 from'.fallback
    refine ⟨⟨by omega, by omega, by omega, by omega, by omega, by omega⟩, fun i h => ?_, (noneOverlap_iff _).1 from'.apart,
      from'.five_roles, fun e mem => from'.entry mem,
      ⟨(strictlyAscending_iff_pairwise _).1 from'.ascending, fun b mem => from'.band mem⟩, fun c mem => from'.clip mem,
      readDuck_le from'.duck, readHoldOff_le from'.holdOff, ?_, ?_⟩
    · obtain ⟨⟨base, size, least, most, fits, -⟩, -, fields⟩ := regions i h
      rw [fields]
      exact ⟨rfl, rfl, rfl, rfl, base, size, least, most, fits⟩
    · rw [from'.rest.2]
      exact fallbackLow
    · rw [from'.rest.2]
      exact fallbackHigh
  · obtain ⟨shape, camera, guide⟩ := readCalibration_iff.1 taken
    obtain ⟨two, most, one, eight, length⟩ := calibrationShapeOk_iff.1 shape
    obtain ⟨⟨col, row, low, tLo, tHi, dHi, high⟩, mirror, -, isCamera⟩ := readCameraConfig_iff.1 camera
    obtain ⟨⟨curve, values, least, wide, overhang, marks, distances, near, ordered, far, thin, thick⟩, isGuide⟩ :=
      readGuideConfig_iff.1 guide
    obtain ⟨cols, rows⟩ : (fieldAt rec 8 2 - fieldAt rec 8 2 % 2) % 2 = 0 ∧ (fieldAt rec 10 2 - fieldAt rec 10 2 % 2) % 2 = 0 := by
      omega
    rw [isCamera, isGuide]
    refine ⟨⟨cols, by dsimp only; omega, rows, by dsimp only; omega, low, tLo, tHi, dHi, high⟩,
      ⟨length_recordCurve ▸ two, length_recordCurve ▸ most, (strictlyAscending_iff_pairwise _).1 curve, fun p mem => ?_⟩,
      ⟨length_recordMarks ▸ one, length_recordMarks ▸ eight, (strictlyAscending_iff_pairwise _).1 marks, distances⟩, ?_⟩
    · obtain ⟨i, -, rfl⟩ := mem_recordCurve.1 mem
      obtain ⟨left, right⟩ := signedOf_sixteen _ (fieldAt_lt rec (76 + 4 * i) 2)
      exact ⟨left, right, values _ mem, (signedOf_sixteen _ (fieldAt_lt rec (78 + 4 * i) 2)).2⟩
    · simp only [recordGuide, length_recordCurve, length_recordMarks]
      omega
  · exact ⟨fun ⟨y, taken⟩ => layoutRules_of_readFrom (readLayout_iff.1 taken), fun rules =>
      have ⟨y, taken⟩ := exists_readFrom_of_layoutRules rules
      ⟨y, readLayout_iff.2 taken⟩⟩

end Sys2Proof.Machine

end

/-! ## Proofs: what a row fetches and how its pixels are composed (R155 to R157, R161 to R164) -/
section

namespace Sys2Proof.Machine

/-! ### The fetches of a row (R164) -/

/-- The fetches of pieces of source data for a row of the frame being scanned. -/
def Scan.fetchesFor (sc : Scan) (row : Nat) (pieces : List (ScanLayer × Nat × Nat)) : List ScanFetch :=
  pieces.map fun p => { layer := p.1, frameNo := sc.frameNo, row := row, addr := p.2.1, len := p.2.2 }

theorem Scan.fetchesFor_append (sc : Scan) (row : Nat) (a b : List (ScanLayer × Nat × Nat)) :
    sc.fetchesFor row (a ++ b) = sc.fetchesFor row a ++ sc.fetchesFor row b := List.map_append

theorem rowFetches_eq (sc : Scan) (l : ScanLayer) (row addr len : Nat) :
    rowFetches l sc.frameNo row addr len = sc.fetchesFor row ((blockPieces len addr len).map fun p => (l, p)) := by
  rw [rowFetches, Scan.fetchesFor, List.map_map]
  rfl

theorem Scan.layerFetches_eq (sc : Scan) (d : Display) (l : ScanLayer) (row : Nat) (c : Contribution) :
    sc.layerFetches d l row c = sc.fetchesFor row ((c.source d row).map fun p => (l, p)) := by
  cases c with
  | nothing => rfl
  | fill x => rfl
  | frame x base =>
    unfold Scan.layerFetches Contribution.source
    have shown : x.coversRow row = true ∧ x.x < d.columns ↔ x.y ≤ row ∧ row < x.y + x.h ∧ x.x < d.columns := by
      rw [LayerSetting.coversRow, decide_eq_true_iff, and_assoc]
    dsimp only
    by_cases meets : x.y ≤ row ∧ row < x.y + x.h ∧ x.x < d.columns
    · rw [if_pos (shown.2 meets), if_pos meets]
      cases x.format with
      | argb8888 => exact rowFetches_eq ..
      | nv12 =>
        dsimp only
        rw [rowFetches_eq, rowFetches_eq, ← Scan.fetchesFor_append, ← List.map_append]
        rfl
    · rw [if_neg fun h => meets (shown.1 h), if_neg meets]
      rfl

theorem Scan.fetchesOf_none {sc : Scan} (view : sc.view = none) (d : Display) (row : Nat) : sc.fetchesOf d row = [] := by
  rw [Scan.fetchesOf, view]

theorem Scan.fetchesOf_system {sc : Scan} {v : View} (view : sc.view = some v) (system : v.owner = .system) (d : Display)
    (row : Nat) :
    sc.fetchesOf d row = sc.fetchesFor row
      ((if v.video = true then (sc.video.source d row).map fun p => (.video, p) else []) ++
        if v.menu = true then (sc.menu.source d row).map fun p => (.menu, p) else []) := by
  rw [Scan.fetchesOf, view]
  simp only [system, Scan.layerFetches_eq, Scan.fetchesFor_append]
  split <;> split <;> rfl

theorem Scan.fetchesOf_fresh {sc : Scan} {v : View} {base gain : Nat} (view : sc.view = some v) (camera : v.owner = .camera)
    (fresh : sc.camera = .fresh base gain) (d : Display) (row : Nat) :
    sc.fetchesOf d row =
      sc.fetchesFor row ((blockPieces 2560 (base + 2560 * row) 2560).map fun p => (.camera, p)) := by
  rw [Scan.fetchesOf, view]
  simp only [camera, fresh, rowFetches_eq]

theorem Scan.fetchesOf_noPicture {sc : Scan} {v : View} (view : sc.view = some v) (camera : v.owner = .camera)
    (scene : sc.camera = .absent ∨ sc.camera = .fallback) (d : Display) (row : Nat) : sc.fetchesOf d row = [] := by
  rw [Scan.fetchesOf, view]
  obtain absent | fallback := scene
  · simp only [camera, absent]
  · simp only [camera, fallback]

theorem Scan.presentRow_eq (sc : Scan) (d : Display) (row : Nat) :
    sc.presentRow d row =
      { sc with queue := sc.queue ++ if row < d.rows then sc.fetchesOf d row else [] } := by
  unfold Scan.presentRow
  split
  · rfl
  · rw [List.append_nil]

theorem Scan.presentRow_of_lt (sc : Scan) {d : Display} {row : Nat} (inside : row < d.rows) :
    (sc.presentRow d row).queue = sc.queue ++ sc.fetchesOf d row := by
  rw [Scan.presentRow_eq, if_pos inside]

/-! ### What a system layer draws (R156, R157) -/

section
variable {sc : Scan} {l : ScanLayer} {col row : Nat}

theorem Scan.layerPixel_leaves {c : Contribution} (leaves : c.leaves col row) : sc.layerPixel l c col row = none := by
  obtain rfl | ⟨x, rfl | ⟨base, rfl⟩, off⟩ := leaves
  · rfl
  · exact if_neg (by simp [off])
  · exact if_neg (by simp [off])

theorem Scan.framePixel_argb_missing {x : LayerSetting} {base k : Nat} (format : x.format = .argb8888) (byte : k < 4)
    (absent : sc.byteFor l row (base + x.sourceRow row * x.stride + 4 * x.sourceCol col + k) = none) :
    sc.framePixel l x base col row = none := by
  unfold Scan.framePixel
  rw [format]
  dsimp only
  split
  · next b g r a isB isG isR isA =>
    match k, byte with
    | 0, _ => exact nomatch isB.symm.trans absent
    | 1, _ => exact nomatch isG.symm.trans absent
    | 2, _ => exact nomatch isR.symm.trans absent
    | 3, _ => exact nomatch isA.symm.trans absent
  · rfl

theorem Scan.framePixel_argb {x : LayerSetting} {base : Nat} {b g r a : Byte} (format : x.format = .argb8888)
    (isB : sc.byteFor l row (base + x.sourceRow row * x.stride + 4 * x.sourceCol col) = some b)
    (isG : sc.byteFor l row (base + x.sourceRow row * x.stride + 4 * x.sourceCol col + 1) = some g)
    (isR : sc.byteFor l row (base + x.sourceRow row * x.stride + 4 * x.sourceCol col + 2) = some r)
    (isA : sc.byteFor l row (base + x.sourceRow row * x.stride + 4 * x.sourceCol col + 3) = some a) :
    sc.framePixel l x base col row =
      some { rgb := { r := r.toNat, g := g.toNat, b := b.toNat }, alpha := a.toNat } := by
  unfold Scan.framePixel
  simp only [format, LayerSetting.rowBase, Nat.add_zero, isB, isG, isR, isA]

theorem Scan.framePixel_nv12_missing {x : LayerSetting} {base : Nat} (format : x.format = .nv12)
    (absent : sc.byteFor l row (base + x.sourceRow row * x.stride + x.sourceCol col) = none ∨
      sc.byteFor l row (x.chromaBase base (x.sourceRow row) + 2 * (x.sourceCol col / 2)) = none ∨
      sc.byteFor l row (x.chromaBase base (x.sourceRow row) + 2 * (x.sourceCol col / 2) + 1) = none) :
    sc.framePixel l x base col row = none := by
  unfold Scan.framePixel
  rw [format]
  dsimp only
  split
  · next y u w isY isU isW =>
    obtain noY | noU | noW := absent
    · exact nomatch isY.symm.trans noY
    · exact nomatch isU.symm.trans noU
    · exact nomatch isW.symm.trans noW
  · rfl

theorem Scan.framePixel_nv12 {x : LayerSetting} {base : Nat} {y u w : Byte} (format : x.format = .nv12)
    (isY : sc.byteFor l row (base + x.sourceRow row * x.stride + x.sourceCol col) = some y)
    (isU : sc.byteFor l row (x.chromaBase base (x.sourceRow row) + 2 * (x.sourceCol col / 2)) = some u)
    (isW : sc.byteFor l row (x.chromaBase base (x.sourceRow row) + 2 * (x.sourceCol col / 2) + 1) = some w) :
    sc.framePixel l x base col row = some { rgb := yuvRgb y.toNat u.toNat w.toNat, alpha := 255 } := by
  unfold Scan.framePixel
  simp only [format, LayerSetting.rowBase, isY, isU, isW]

theorem Scan.layerPixel_frame {x : LayerSetting} (base : Nat) (covers : x.coversPixel col row = true) :
    sc.layerPixel l (.frame x base) col row =
      some (if sc.isLate l col = true then colourPixel x.fill
        else (sc.framePixel l x base col row).getD (colourPixel x.fill), x.alpha) := by
  rw [Scan.layerPixel, if_pos covers]
  split <;> rfl

theorem Scan.layerPixel_draws {c : Contribution} {p : LayerPixel} {ga : Nat} (draws : sc.draws l c col row p ga) :
    sc.layerPixel l c col row = some (p, ga) := by
  obtain ⟨x, rfl, covers, rfl, rfl⟩ | ⟨x, base, rfl, covers, rfl, source⟩ := draws
  · exact if_pos covers
  · rw [Scan.layerPixel_frame base covers]
    obtain ⟨late, rfl⟩ | ⟨inTime, format, argb⟩ | ⟨inTime, format, nv12⟩ := source
    · rw [if_pos late]
    · rw [if_neg (by simp [inTime])]
      obtain ⟨⟨k, byte, absent⟩, rfl⟩ | ⟨b, g, r, a, isB, isG, isR, isA, rfl⟩ := argb
      · rw [Scan.framePixel_argb_missing format byte absent, Option.getD_none]
      · rw [Scan.framePixel_argb format isB isG isR isA, Option.getD_some]
    · rw [if_neg (by simp [inTime])]
      obtain ⟨absent, rfl⟩ | ⟨y, u, w, isY, isU, isW, rfl⟩ := nv12
      · rw [Scan.framePixel_nv12_missing format absent, Option.getD_none]
      · rw [Scan.framePixel_nv12 format isY isU isW, Option.getD_some]

end

/-! ### The camera view (R161 to R163) -/

theorem SpanBand.rank_inj {a b : SpanBand} (same : a.rank = b.rank) : a = b := by
  cases a <;> cases b <;> first | rfl | exact nomatch same

theorem highestBand_eq_none {xs : List Span} (h : highestBand xs = none) : xs = [] := by
  cases xs with
  | nil => rfl
  | cons x rest =>
    unfold highestBand at h
    split at h
    · exact nomatch h
    · split at h <;> exact nomatch h

theorem highestBand_spec {xs : List Span} {b : SpanBand} (h : highestBand xs = some b) :
    (∃ x ∈ xs, x.band = b) ∧ ∀ x ∈ xs, x.band.rank ≤ b.rank := by
  induction xs generalizing b with
  | nil => exact nomatch h
  | cons x rest ih =>
    unfold highestBand at h
    split at h
    · next none =>
      obtain rfl := Option.some.inj h
      rw [highestBand_eq_none none]
      exact ⟨⟨x, List.mem_singleton_self x, rfl⟩, fun z mem => by rw [List.mem_singleton.1 mem]⟩
    · next c highest =>
      obtain ⟨⟨z, mem, isC⟩, above⟩ := ih highest
      split at h
      · next reaches =>
        obtain rfl := Option.some.inj h
        refine ⟨⟨x, List.mem_cons_self .., rfl⟩, fun w inside => ?_⟩
        obtain rfl | inRest := List.mem_cons.1 inside
        · exact Nat.le_refl _
        · exact Nat.le_trans (above w inRest) reaches
      · next below =>
        obtain rfl := Option.some.inj h
        refine ⟨⟨z, List.mem_cons_of_mem _ mem, isC⟩, fun w inside => ?_⟩
        obtain rfl | inRest := List.mem_cons.1 inside
        · omega
        · exact above w inRest

/-- The band painted is that of any covering span of the highest rank (R162). -/
theorem highestBand_eq_some {xs : List Span} {x : Span} (mem : x ∈ xs) (top : ∀ z ∈ xs, z.band.rank ≤ x.band.rank) :
    highestBand xs = some x.band := by
  cases highest : highestBand xs with
  | none => rw [highestBand_eq_none highest] at mem; exact nomatch mem
  | some b =>
    obtain ⟨⟨z, inside, rfl⟩, above⟩ := highestBand_spec highest
    rw [SpanBand.rank_inj (Nat.le_antisymm (top z inside) (above x mem))]

/-- The spans of the shown table that cover a pixel (R162). -/
def Guide.covering (g : Guide) (n : TableName) (col row : Nat) : List Span :=
  (g.table n).filter fun x => decide (x.row = row ∧ x.startCol ≤ col ∧ col ≤ x.endCol)

theorem Guide.paint_hidden {g : Guide} (hidden : g.shown = none ∨ g.config = none) (col row : Nat) (under : Rgb) :
    g.paint col row under = under := by
  unfold Guide.paint
  split
  · next n c shown config =>
    obtain none | none := hidden
    · exact nomatch shown.symm.trans none
    · exact nomatch config.symm.trans none
  · rfl

theorem Guide.paint_shown {g : Guide} {n : TableName} {c : GuideConfig} (shown : g.shown = some n) (config : g.config = some c)
    (col row : Nat) (under : Rgb) :
    g.paint col row under =
      match highestBand (g.covering n col row) with
      | none => under
      | some b => blend (colourPixel (c.bandColour b)) 255 under := by
  have same : (rowSpans (g.table n) row).filter (fun x => decide (x.startCol ≤ col ∧ col ≤ x.endCol)) =
      g.covering n col row := by
    rw [rowSpans, List.filter_filter, Guide.covering]
    refine List.filter_congr fun x _ => ?_
    rw [Bool.eq_iff_iff, Bool.and_eq_true, decide_eq_true_iff, decide_eq_true_iff, beq_iff_eq]
    exact and_comm
  unfold Guide.paint
  rw [shown, config]
  simp only [same] <;> rfl

/-- The pixel of the fresh picture before the guide lines (R161, R164). -/
def Scan.pictureUnder (sc : Scan) (base gain col row : Nat) : Rgb :=
  if sc.isLate .camera col then cameraGrey else (sc.cameraPixel base gain col row).getD cameraGrey

theorem State.screenPixel_fresh (s : State) {sc : Scan} {v : View} {base gain : Nat} (view : sc.view = some v)
    (camera : v.owner = .camera) (fresh : sc.camera = .fresh base gain) (col row : Nat) :
    s.screenPixel sc col row = s.guide.paint col row (sc.pictureUnder base gain col row) := by
  unfold State.screenPixel State.cameraScenePixel Scan.pictureUnder
  simp only [view, camera, fresh]
  split <;> rfl

theorem State.screenPixel_fallback (s : State) {sc : Scan} {v : View} (view : sc.view = some v)
    (camera : v.owner = .camera) (fallback : sc.camera = .fallback) (col row : Nat) :
    s.screenPixel sc col row = s.compositor.fallbackPixel col row := by
  unfold State.screenPixel State.cameraScenePixel
  simp only [view, camera, fallback]

theorem State.screenPixel_system (s : State) {sc : Scan} {v : View} (view : sc.view = some v)
    (system : v.owner = .system) (col row : Nat) :
    s.screenPixel sc col row =
      blendOver (if v.menu then sc.layerPixel .menu sc.menu col row else none)
        (blendOver (if v.video then sc.layerPixel .video sc.video col row else none) (colourRgb v.background)) := by
  unfold State.screenPixel
  simp only [view, system, Scan.systemPixel]

section
variable {sc : Scan} {base gain col row : Nat}

theorem Scan.cameraPixel_missing
    (absent : sc.byteFor .camera row (base + 2560 * row + 4 * (col / 2) + 2 * (col % 2)) = none ∨
      sc.byteFor .camera row (base + 2560 * row + 4 * (col / 2) + 1) = none ∨
      sc.byteFor .camera row (base + 2560 * row + 4 * (col / 2) + 3) = none) :
    sc.cameraPixel base gain col row = none := by
  unfold Scan.cameraPixel
  dsimp only
  split
  · next y u w isY isU isW =>
    obtain noY | noU | noW := absent
    · exact nomatch isY.symm.trans noY
    · exact nomatch isU.symm.trans noU
    · exact nomatch isW.symm.trans noW
  · rfl

theorem Scan.cameraPixel_eq {y u w : Byte}
    (isY : sc.byteFor .camera row (base + 2560 * row + 4 * (col / 2) + 2 * (col % 2)) = some y)
    (isU : sc.byteFor .camera row (base + 2560 * row + 4 * (col / 2) + 1) = some u)
    (isW : sc.byteFor .camera row (base + 2560 * row + 4 * (col / 2) + 3) = some w) :
    sc.cameraPixel base gain col row = some (yuvRgb (gainedLuma y.toNat gain) u.toNat w.toNat) := by
  unfold Scan.cameraPixel
  simp only [isY, isU, isW]

end

end Sys2Proof.Machine

end

/-! ## Proofs: a row is sent as composed (R155 to R164) -/
section

namespace Sys2Proof.Machine

/-! ### A row ends and the next begins (R164) -/

theorem State.finishRow_eq (s : State) (d : Display) :
    s.finishRow d = s.updateScan d fun sc => { sc with
      sent := match (s.displays.get d).scan.row with
        | none => sc.sent
        | some row => some { row := row, pixels := s.rowPixels d row } } := by
  unfold State.finishRow
  cases (s.displays.get d).scan.row with
  | none =>
    have kept : (s.displays.put d { s.displays.get d with scan := { (s.displays.get d).scan with
        sent := (s.displays.get d).scan.sent } }) = s.displays := PerDisplay.put_get _ _
    exact (congrArg (fun x => { s with displays := x }) kept).symm
  | some row => rfl

theorem State.updateScan_updateScan (s : State) (d : Display) (f g : Scan → Scan) :
    (s.updateScan d f).updateScan d g = s.updateScan d fun sc => g (f sc) := by
  change ({ s with displays := (s.displays.put d _).put d _ } : State) = { s with displays := s.displays.put d _ }
  rw [PerDisplay.put_put]
  exact congrArg (fun x : DisplayState => { s with displays := s.displays.put d { x with scan := g x.scan } })
    (PerDisplay.get_put_same ..)

theorem Scan.beginRow_eq (sc : Scan) (d : Display) :
    sc.beginRow d = { sc with
      row := some sc.nextRow, late := [], data := sc.data.filter fun x => decide (sc.nextRow ≤ x.row)
      queue := sc.queue ++ if sc.nextRow + 1 < d.rows then sc.fetchesOf d (sc.nextRow + 1) else [] } :=
  Scan.presentRow_eq ..

/-- What a display sends of the row that ends: its pixels as composed, or what it sent before. -/
def State.rowSent (s : State) (d : Display) : Option SentRow :=
  match (s.displays.get d).scan.row with
  | none => (s.displays.get d).scan.sent
  | some row => some { row := row, pixels := s.rowPixels d row }

/-- A display's scan-out once the next row has begun (R164). -/
def State.scanBegun (s : State) (d : Display) : Scan :=
  let sc := (s.displays.get d).scan
  { sc with
    sent := s.rowSent d, row := some sc.nextRow, late := [], data := sc.data.filter fun x => decide (sc.nextRow ≤ x.row)
    queue := sc.queue ++ if sc.nextRow + 1 < d.rows then sc.fetchesOf d (sc.nextRow + 1) else [] }

theorem State.nextRow_eq (s : State) (d : Display) :
    (s.finishRow d).updateScan d (fun x => x.beginRow d) = s.updateScan d fun _ => s.scanBegun d := by
  rw [State.finishRow_eq, State.updateScan_updateScan]
  exact congrArg (fun sc : Scan => { s with displays := s.displays.put d { s.displays.get d with scan := sc } })
    (Scan.beginRow_eq _ d)

theorem State.updateScan_get_same (s : State) (d : Display) (f : Scan → Scan) :
    ((s.updateScan d f).displays.get d).scan = f (s.displays.get d).scan :=
  congrArg DisplayState.scan (PerDisplay.get_put_same ..)

theorem exec_activeRowFetch {s : State} {d : Display} (begun : 0 < (s.displays.get d).scan.frameNo)
    (more : (s.displays.get d).scan.nextRow < d.rows) :
    exec (.activeRowFetch d) s = .next ((s.finishRow d).updateScan d fun x => x.beginRow d) :=
  if_pos ⟨begun, more⟩

theorem exec_latePixel {s : State} {d : Display} {l : ScanLayer} {col row : Nat} (onDisplay : col < d.columns)
    (owned : l = .camera → d = .front) (sending : (s.displays.get d).scan.row = some row) :
    exec (.latePixel d l col) s =
      if (s.displays.get d).scan.missing l col row = true ∧ ((s.displays.get d).scan.late.any fun x => x.1 == l) = false then
        .next ((s.updateScan d fun x => { x with late := x.late ++ [(l, col)] }).raise .scanoutUnderrun
          (displayLayerDetail d l))
      else .next s := by
  change execLatePixel d l col s = _
  unfold execLatePixel
  rw [if_pos ⟨onDisplay, owned⟩]
  simp only [sending]

theorem any_layer_eq_false {late : List (ScanLayer × Nat)} {l : ScanLayer} :
    (late.any fun x => x.1 == l) = false ↔ ∀ x ∈ late, x.1 ≠ l := by
  rw [List.any_eq_false]
  exact forall₂_congr fun x _ => not_congr beq_iff_eq

/-- The pixel of the fallback picture over grey (R163). -/
theorem Compositor.fallbackPixel_eq (c : Compositor) (col row : Nat) :
    c.fallbackPixel col row =
      if 512 ≤ col ∧ col < 768 ∧ 296 ≤ row ∧ row < 424 then
        let pair := byteAt c.fallbackIndices (128 * (row - 296) + (col - 512) / 2)
        blend (colourPixel (c.fallbackPalette.getD (if col % 2 = 0 then pair % 16 else pair / 16) 0)) 255 cameraGrey
      else cameraGrey := by
  unfold Compositor.fallbackPixel Compositor.fallbackIndex
  by_cases inside : 512 ≤ col ∧ col < 768 ∧ 296 ≤ row ∧ row < 424
  · have parity : (col - 512) % 2 = col % 2 := by omega
    simp only [if_pos inside, parity]
  · rw [if_neg inside, if_neg inside]

/-- What stands under the guide lines of a fresh picture (R161, R164). -/
theorem Scan.pictureUnder_eq {sc : Scan} {base gain col row : Nat} {under : Rgb}
    (shows :
      let at' := fun k => sc.byteFor .camera row (base + 2560 * row + 4 * (col / 2) + k)
      let luma := at' (if col % 2 = 0 then 0 else 2)
      (sc.isLate .camera col = true ∨ luma = none ∨ at' 1 = none ∨ at' 3 = none) ∧ under = cameraGrey ∨
      ∃ y u w, sc.isLate .camera col = false ∧ luma = some y ∧ at' 1 = some u ∧ at' 3 = some w ∧
        under = yuvRgb (min 235 (max 16 (16 + (((y.toNat : Int) - 16) * gain + 8) / 16))) u.toNat w.toNat) :
    sc.pictureUnder base gain col row = under := by
  have place : (if col % 2 = 0 then 0 else 2) = 2 * (col % 2) := by
    split <;> omega
  dsimp only at shows
  rw [place] at shows
  unfold Scan.pictureUnder
  obtain ⟨grey, rfl⟩ | ⟨y, u, w, inTime, isY, isU, isW, rfl⟩ := shows
  · split
    · rfl
    · next inTime =>
      rw [Scan.cameraPixel_missing (grey.resolve_left inTime), Option.getD_none]
  · rw [if_neg (by simp [inTime]), Scan.cameraPixel_eq isY isU isW, Option.getD_some, gainedLuma_eq]

/-- Settles O52. -/
theorem rowsAreSentAsComposed : Obligations.RowsAreSentAsComposed := by
  refine ⟨fun s d => ?_, fun s d l col row => ?_⟩
  · intro sc
    refine ⟨fun begun more => ?_, fun col row noView => ?_, fun v col row view system => ?_,
      fun v col row view camera => ⟨fun base gain under fresh shows => ?_, fun fallback => ?_⟩⟩
    · refine ⟨_, (exec_activeRowFetch begun more).trans (congrArg Host.Outcome.next (s.nextRow_eq d)), ?_⟩
      beta_reduce
      intro after next presents
      have begins : after = s.scanBegun d := s.updateScan_get_same d _
      have quiet : d.rows ≤ next ∨ sc.fetchesOf d next = [] → after.queue = sc.queue := by
        intro none
        rw [begins]
        refine (congrArg (sc.queue ++ ·) ?_).trans (List.append_nil _)
        obtain last | none := none
        · exact if_neg (Nat.not_lt.2 last)
        · rw [show sc.nextRow + 1 = next from rfl, none, ite_self]
      have fetches {pieces : List (ScanLayer × Nat × Nat)} (inside : next < d.rows)
          (fetched : sc.fetchesOf d next = sc.fetchesFor next pieces) : presents pieces := by
        change after.queue = _
        rw [begins]
        exact congrArg (sc.queue ++ ·) ((if_pos inside).trans fetched)
      refine ⟨by rw [begins]; rfl, by rw [begins]; rfl, fun r sending => ?_, fun last => quiet (last.imp_right fun none => ?_),
        fun v inside view => ⟨fun system => ?_, fun base gain camera fresh => ?_, fun camera scene => ?_⟩, fun e other => ?_, ?_⟩
      · rw [begins]
        change s.rowSent d = _
        unfold State.rowSent
        rw [show (s.displays.get d).scan.row = some r from sending]
        rfl
      · exact Scan.fetchesOf_none none d next
      · exact fetches inside (Scan.fetchesOf_system view system d next)
      · exact fetches inside (Scan.fetchesOf_fresh view camera fresh d next)
      · exact quiet (.inr (Scan.fetchesOf_noPicture view camera scene d next))
      · exact PerDisplay.get_put_other _ _ other
      · exact within_displays s _
    · unfold State.screenPixel
      simp only [noView]
    · intro ground noVideo noMenu
      rw [s.screenPixel_system view system]
      have video (off : noVideo) : (if v.video then sc.layerPixel .video sc.video col row else none) = none :=
        off.elim (fun off => if_neg (by simp [off])) fun leaves => by rw [Scan.layerPixel_leaves leaves, ite_self]
      have menu (off : noMenu) : (if v.menu then sc.layerPixel .menu sc.menu col row else none) = none :=
        off.elim (fun off => if_neg (by simp [off])) fun leaves => by rw [Scan.layerPixel_leaves leaves, ite_self]
      refine ⟨fun offVideo offMenu => ?_, fun p ga on draws offMenu => ?_, fun q gb offVideo on draws => ?_,
        fun p ga q gb videoOn videoDraws menuOn menuDraws => ?_⟩
      · rw [video offVideo, menu offMenu]
        rfl
      · rw [menu offMenu, if_pos on, Scan.layerPixel_draws draws]
        rfl
      · rw [video offVideo, if_pos on, Scan.layerPixel_draws draws]
        rfl
      · rw [if_pos videoOn, if_pos menuOn, Scan.layerPixel_draws videoDraws, Scan.layerPixel_draws menuDraws]
        rfl
    · rw [s.screenPixel_fresh view camera fresh, Scan.pictureUnder_eq shows]
      refine ⟨fun hidden => Guide.paint_hidden hidden col row under, fun n c shown config => ?_⟩
      rw [Guide.paint_shown shown config]
      refine ⟨fun none => ?_, fun x mem top => ?_⟩
      · rw [show s.guide.covering n col row = [] from none]
        rfl
      · rw [highestBand_eq_some (xs := s.guide.covering n col row) mem top]
        rfl
    · rw [s.screenPixel_fallback view camera fallback, Compositor.fallbackPixel_eq]
      exact ⟨fun outside => if_neg outside, fun inside => if_pos inside⟩
  · intro sc
    refine ⟨fun off => if_neg ?_, fun onDisplay owned sending => ?_⟩
    · rintro ⟨onDisplay, owned⟩
      obtain wide | ⟨camera, rear⟩ := off
      · omega
      · exact rear (owned camera)
    · rw [exec_latePixel onDisplay owned sending]
      refine ⟨fun absent first => if_pos ⟨absent, any_layer_eq_false.2 first⟩, fun quiet => if_neg ?_⟩
      rintro ⟨absent, first⟩
      obtain granted | ⟨x, mem, same⟩ := quiet
      · exact Bool.false_ne_true (granted.symm.trans absent)
      · exact any_layer_eq_false.1 first x mem same

end Sys2Proof.Machine

end

/-! ## Proofs: what a full rewrite of the status block shows (R34, R188, 11.5) -/
section

namespace Sys2Proof.Machine

/-! ### Cutting a run of bytes -/

/-- Bytes of a full rewrite by their offset in the status block (11.5). -/
def shotField (shot : List Byte) (offset n : Nat) : List Byte := (shot.drop (offset - 0x024)).take n

theorem shotField_within {shot p : List Byte} {offset n : Nat} (whole : shotField shot offset n = p) (low : 0x024 ≤ offset)
    (skip : Nat) {m : Nat} (inside : skip + m ≤ n) : shotField shot (offset + skip) m = (p.drop skip).take m := by
  rw [← whole, shotField, shotField, List.drop_take, List.drop_drop, List.take_take, Nat.min_eq_left (by omega),
    show offset + skip - 0x024 = offset - 0x024 + skip by omega]

theorem take_drop_flatten {α : Type} (pieces : List (List α)) (j : Nat) (h : j < pieces.length) :
    (pieces.flatten.drop ((pieces.map List.length).take j).sum).take pieces[j].length = pieces[j] := by
  induction pieces generalizing j with
  | nil => exact nomatch h
  | cons p rest ih =>
    cases j with
    | zero => simp
    | succ j =>
      rw [List.flatten_cons, List.map_cons, List.take_succ_cons, List.sum_cons, List.drop_append, List.drop_eq_nil_of_le (by omega),
        List.nil_append, Nat.add_sub_cancel_left, List.getElem_cons_succ]
      exact ih j (Nat.lt_of_succ_lt_succ h)

theorem take_drop_flatten_map {α : Type} (f : α → List Byte) (w : Nat) (same : ∀ x, (f x).length = w) (xs : List α) (k : Nat)
    (h : k < xs.length) : (((xs.map f).flatten.drop (w * k)).take w) = f xs[k] := by
  have piece := take_drop_flatten (xs.map f) k (by simpa using h)
  have widths : (((xs.map f).map List.length).take k).sum = w * k := by
    have all : (xs.map f).map List.length = List.replicate xs.length w :=
      List.eq_replicate_iff.2 ⟨by simp, fun n mem => by
        simp only [List.map_map, List.mem_map, Function.comp_apply] at mem
        obtain ⟨x, -, rfl⟩ := mem
        exact same x⟩
    rw [all, List.take_replicate, List.sum_replicate_nat, Nat.min_eq_left (Nat.le_of_lt h), Nat.mul_comm]
  rw [widths, List.getElem_map, same] at piece
  exact piece

/-! ### Encodings -/

theorem testBit_bitSet (bs : List Bool) (i : Nat) : (bitSet bs).testBit i = bs.getD i false := by
  induction bs generalizing i with
  | nil => simp [bitSet]
  | cons b rest ih =>
    cases i with
    | zero =>
      rw [bitSet, Nat.testBit_zero, List.getD_cons_zero]
      cases b <;> simp [boolNumber]
    | succ i =>
      rw [bitSet, Nat.testBit_succ, List.getD_cons_succ, ← ih]
      congr 1
      cases b <;> simp only [boolNumber, if_true, Bool.false_eq_true, if_false] <;> omega

theorem fieldAt_bytesOf_two (n : Nat) : fieldAt (bytesOf 2 n) 0 2 = n % 2 ^ 16 := by
  simp [fieldAt, byteAt, bytesOf]
  omega

theorem slotBytes_eq (v : Option View) : slotBytes v = slotShows v := by
  cases v with
  | none => rfl
  | some v =>
    rw [slotBytes, slotShows]
    cases v.owner <;> cases v.pinned <;> rfl

theorem layerBytes_eq (v : LayerState) : layerBytes v = layerShows v := by
  unfold layerBytes layerShows
  cases v.current <;> rfl

theorem length_slotShows (v : Option View) : (slotShows v).length = 4 := by
  cases v <;> rfl

theorem length_layerShows (v : LayerState) : (layerShows v).length = 16 := by
  simp [layerShows, length_bytesOf]

theorem length_pictureAgeBytes (now : Time) (newest : Option (Fin 3 × Time)) : (pictureAgeBytes now newest).length = 3 := by
  unfold pictureAgeBytes
  split
  · rfl
  · dsimp only
    split <;> simp [length_bytesOf]

/-! ### The pieces of the snapshot (11.5) -/

/-- A display's 64 bytes, field by field. -/
def displayPieces (x : DisplayState) : List (List Byte) :=
  [slotShows x.stack[0]?, slotShows x.stack[1]?, slotShows x.stack[2]?, slotShows x.stack[3]?,
    bytesOf 1 (if x.stack = [] then 0xFF else x.stack.length - 1) ++ zeroBytes 7, layerShows x.video ++ layerShows x.menu,
    zeroBytes 8]

/-- The snapshot, field by field. -/
def State.snapshotPieces (s : State) : List (List Byte) :=
  [bytesOf 4 s.taker.consumer ++ bytesOf 4 s.rw.producer, bytesOf 4 s.time.toNat,
    bytesOf 1 (startupNumber s.startup.state) ++ bytesOf 1 (reverseNumber s.reverse.state)
      ++ bytesOf 1 (alignNumber s.camera.align) ++ bytesOf 1 s.camera.gain,
    pictureAgeBytes s.time s.camera.newest, bytesOf 1 (guideFlagsNumber s.guide.flags),
    signalBytes s.vehicle.records.reverse, signalBytes s.vehicle.records.steering,
    signalBytes s.vehicle.records.speed, signalBytes s.vehicle.records.parkDistance,
    bytesOf 2 (bitSet (s.rw.faults.toList.map FaultRecord.flag)), bytesOf 2 (bitSet (s.rw.faults.toList.map FaultRecord.masked)),
    (s.rw.faults.toList.map fun f => bytesOf 2 f.counter).flatten,
    bytesOf 1 (storeStateNumber s.store.state) ++ bytesOf 1 s.store.queue.length,
    lastCompletionBytes s.store ++ zeroBytes 2,
    s.store.table.toList.map (fun b => BitVec.ofNat 8 (blockStatusNumber b)), zeroBytes 28]
    ++ displayPieces s.displays.front ++ displayPieces s.displays.rearLeft ++ displayPieces s.displays.rearRight
    ++ [bytesOf 4 s.audio.streams.front.consumer, bytesOf 4 s.audio.streams.rearLeft.consumer,
      bytesOf 4 s.audio.streams.rearRight.consumer, zeroBytes 3700]

/-- How long each field is. -/
def snapshotWidths : List Nat :=
  [8, 4, 4, 3, 1, 8, 8, 8, 8, 2, 2, 32, 2, 6, 32, 28] ++ [4, 4, 4, 4, 8, 32, 8] ++ [4, 4, 4, 4, 8, 32, 8] ++
    [4, 4, 4, 4, 8, 32, 8] ++ [4, 4, 4, 3700]

theorem State.snapshot_eq (s : State) : s.snapshot = s.snapshotPieces.flatten := by
  unfold State.snapshot State.snapshotPieces
  generalize zeroBytes 3700 = rest
  simp only [displayPieces, displayBytes, faultBytes, storeBytes, slotBytes_eq,
    layerBytes_eq, List.flatten_append, List.flatten_cons, List.flatten_nil, List.append_nil, List.append_assoc]

theorem length_zeroBytes (n : Nat) : (zeroBytes n).length = n := List.length_replicate

theorem length_displayPieces (x : DisplayState) : (displayPieces x).map List.length = [4, 4, 4, 4, 8, 32, 8] := by
  simp [displayPieces, length_slotShows, length_layerShows, length_bytesOf, length_zeroBytes]

theorem length_signalBytes (r : SignalRecord) : (signalBytes r).length = 8 := by
  simp [signalBytes, bytesOfInt, length_bytesOf, length_zeroBytes]

theorem State.length_snapshotPieces (s : State) : s.snapshotPieces.map List.length = snapshotWidths := by
  have counters : (s.rw.faults.toList.map fun f => bytesOf 2 f.counter).flatten.length = 32 := by
    simp [List.length_flatten, Function.comp_def, length_bytesOf]
  simp only [State.snapshotPieces, List.map_append, length_displayPieces, List.map_cons, List.map_nil, counters,
    length_signalBytes, length_pictureAgeBytes, List.length_append, length_bytesOf, length_zeroBytes, lastCompletionBytes,
    List.length_map, Vector.length_toList]
  rfl

/-- A field of the snapshot stands where the fields before it end. -/
theorem State.shotField_snapshot (s : State) (j : Nat) {p : List Byte} {n : Nat} (piece : s.snapshotPieces[j]? = some p)
    (width : snapshotWidths[j]? = some n) : shotField s.snapshot (0x024 + (snapshotWidths.take j).sum) n = p := by
  obtain ⟨inside, rfl⟩ := List.getElem?_eq_some_iff.1 piece
  have long : s.snapshotPieces[j].length = n := by
    rw [← s.length_snapshotPieces, List.getElem?_map, piece] at width
    exact Option.some.inj width
  rw [shotField, Nat.add_sub_cancel_left, s.snapshot_eq, ← s.length_snapshotPieces, ← long]
  exact take_drop_flatten _ j inside

theorem State.length_snapshot (s : State) : s.snapshot.length = 0xFDC := by
  rw [s.snapshot_eq, List.length_flatten, s.length_snapshotPieces]
  rfl

/-- The snapshot shows the state (R188). -/
theorem State.snapshot_shows (s : State) : StatusShows s s.snapshot (shotField s.snapshot) := by
  have blocks := s.shotField_snapshot 14 rfl rfl
  refine {
    whole := ⟨s.length_snapshot, fun _ _ => rfl⟩
    indices := s.shotField_snapshot 0 rfl rfl
    time := s.shotField_snapshot 1 rfl rfl
    states := s.shotField_snapshot 2 rfl rfl
    noPicture := fun none => ?_
    picture := fun k since newest => ?_
    guide := s.shotField_snapshot 4 rfl rfl
    signals := fun g => ?_
    flags := fun k => ⟨?_, ?_, ?_⟩
    store := s.shotField_snapshot 12 rfl rfl
    completion := s.shotField_snapshot 13 rfl rfl
    blocks := fun b inside => ?_
    afterBlocks := s.shotField_snapshot 15 rfl rfl
    slots := fun d i inside => ?_
    tops := fun d => ?_
    layers := fun d => ?_
    afterLayers := fun d => ?_
    streams := fun d => ?_
    rest := s.shotField_snapshot 40 rfl rfl }
  · refine (s.shotField_snapshot 3 rfl rfl).trans ?_
    rw [none]
    rfl
  · have age := s.shotField_snapshot 3 rfl rfl
    rw [newest] at age
    refine ⟨(shotField_within age (by decide) 2 (by decide)).trans ?_, fun past =>
      (shotField_within age (by decide) 0 (by decide)).trans ?_⟩
    · unfold pictureAgeBytes
      dsimp only
      split <;> rfl
    · unfold pictureAgeBytes
      dsimp only
      rw [if_neg (Int.not_lt.2 past)]
      rfl
  · cases g
    · exact s.shotField_snapshot 5 rfl rfl
    · exact s.shotField_snapshot 6 rfl rfl
    · exact s.shotField_snapshot 7 rfl rfl
    · exact s.shotField_snapshot 8 rfl rfl
  · rw [show shotField s.snapshot 0x058 2 = _ from s.shotField_snapshot 9 rfl rfl, fieldAt_bytesOf_two,
      Nat.testBit_mod_two_pow, testBit_bitSet]
    simp [ReportWriter.fault]
  · rw [show shotField s.snapshot 0x05A 2 = _ from s.shotField_snapshot 10 rfl rfl, fieldAt_bytesOf_two,
      Nat.testBit_mod_two_pow, testBit_bitSet]
    simp [ReportWriter.fault]
  · have counters := s.shotField_snapshot 11 rfl rfl
    refine (shotField_within counters (by decide) (2 * k.index.val) (by omega)).trans ?_
    rw [take_drop_flatten_map (fun f : FaultRecord => bytesOf 2 f.counter) 2 (fun _ => length_bytesOf ..) _ _ (by simp)]
    simp [ReportWriter.fault]
  · refine (shotField_within blocks (by decide) b (by omega)).trans ?_
    have long : b < s.store.table.toList.length := by simpa using inside
    rw [List.drop_eq_getElem_cons (by simpa using inside), List.take_succ_cons, List.take_zero, List.getElem_map, Store.status,
      List.getD_eq_getElem _ _ long]
  · match d, i, inside with
    | .front, 0, _ => exact s.shotField_snapshot 16 rfl rfl
    | .front, 1, _ => exact s.shotField_snapshot 17 rfl rfl
    | .front, 2, _ => exact s.shotField_snapshot 18 rfl rfl
    | .front, 3, _ => exact s.shotField_snapshot 19 rfl rfl
    | .rearLeft, 0, _ => exact s.shotField_snapshot 23 rfl rfl
    | .rearLeft, 1, _ => exact s.shotField_snapshot 24 rfl rfl
    | .rearLeft, 2, _ => exact s.shotField_snapshot 25 rfl rfl
    | .rearLeft, 3, _ => exact s.shotField_snapshot 26 rfl rfl
    | .rearRight, 0, _ => exact s.shotField_snapshot 30 rfl rfl
    | .rearRight, 1, _ => exact s.shotField_snapshot 31 rfl rfl
    | .rearRight, 2, _ => exact s.shotField_snapshot 32 rfl rfl
    | .rearRight, 3, _ => exact s.shotField_snapshot 33 rfl rfl
  · cases d
    · exact s.shotField_snapshot 20 rfl rfl
    · exact s.shotField_snapshot 27 rfl rfl
    · exact s.shotField_snapshot 34 rfl rfl
  · cases d
    · exact s.shotField_snapshot 21 rfl rfl
    · exact s.shotField_snapshot 28 rfl rfl
    · exact s.shotField_snapshot 35 rfl rfl
  · cases d
    · exact s.shotField_snapshot 22 rfl rfl
    · exact s.shotField_snapshot 29 rfl rfl
    · exact s.shotField_snapshot 36 rfl rfl
  · cases d
    · exact s.shotField_snapshot 37 rfl rfl
    · exact s.shotField_snapshot 38 rfl rfl
    · exact s.shotField_snapshot 39 rfl rfl

end Sys2Proof.Machine

end

/-! ## Proofs: what a layer does at a frame boundary (R139, R142, R151 to R154) -/
section

namespace Sys2Proof.Machine

/-! ### Releases (R153) -/

/-- The region table with the hold counts of released frames lowered (R11). -/
def holdsDown (regions : List Region) (rs : List (QueueEntry × Nat)) : List Region :=
  rs.foldl (fun r p => holdDown r p.1.region) regions

/-- A layer's counters with some releases counted, by their shown counts (R153). -/
def LayerState.counting (v : LayerState) (rs : List (QueueEntry × Nat)) : LayerState :=
  { v with
    releasedShown := v.releasedShown + BitVec.ofNat 32 (rs.countP fun p => decide (0 < p.2))
    dropped := v.dropped + BitVec.ofNat 32 (rs.countP fun p => decide (p.2 = 0)) }

/-- Release frames in order, each with its shown count. -/
def State.releaseList (s : State) (d : Display) (l : ScanLayer) (rs : List (QueueEntry × Nat)) : State :=
  rs.foldl (fun u p => u.release d l p.1 p.2) s

theorem State.releaseCurrent_releaseAll (s : State) (d : Display) (l : ScanLayer) (c : Option (QueueEntry × Nat))
    (es : List QueueEntry) :
    (s.releaseCurrent d l c).releaseAll d l es = s.releaseList d l (c.toList ++ es.map fun e => (e, 0)) := by
  rw [State.releaseList, List.foldl_append, List.foldl_map]
  cases c <;> rfl

theorem LayerState.counting_nil (v : LayerState) : v.counting [] = v := by
  simp [LayerState.counting]

theorem LayerState.counting_cons (v : LayerState) (p : QueueEntry × Nat) (rs : List (QueueEntry × Nat)) :
    (v.counting [p]).counting rs = v.counting (p :: rs) := by
  simp only [LayerState.counting, List.countP_cons, List.countP_nil, BitVec.ofNat_add, BitVec.add_assoc]
  simp [BitVec.add_comm]

theorem State.setLayer_setLayer (s : State) (d : Display) (l : ScanLayer) (v w : LayerState) :
    (s.setLayer d l v).setLayer d l w = s.setLayer d l w := by
  cases d <;> cases l <;> rfl

theorem State.layer_setLayer_same {s : State} {d : Display} {l : ScanLayer} (system : l ≠ .camera) (v : LayerState) :
    (s.setLayer d l v).layer d l = v := (State.layer_setLayer system system v).trans (if_pos ⟨rfl, rfl⟩)

theorem State.setLayer_layer (s : State) (d : Display) (l : ScanLayer) :
    s.setLayer d l (s.layer d l) = s := by
  cases d <;> cases l <;> rfl

/-- `s` with a layer of a display, the region table and the report writer as given: what the work of a layer at a boundary
may change. -/
def State.withWork (s : State) (d : Display) (l : ScanLayer) (v : LayerState) (regions : List Region) (rw : ReportWriter) : State :=
  { s.setLayer d l v with regions := regions, rw := rw }

theorem State.withWork_withWork (s : State) (d : Display) (l : ScanLayer) (v v' : LayerState) (r r' : List Region)
    (w w' : ReportWriter) : (s.withWork d l v r w).withWork d l v' r' w' = s.withWork d l v' r' w' := by
  have same : (s.withWork d l v r w).setLayer d l v' = { s.setLayer d l v' with regions := r, rw := w } :=
    congrArg (fun u : State => { u with regions := r, rw := w }) (s.setLayer_setLayer d l v v')
  rw [State.withWork, same]
  rfl

theorem State.withWork_same (s : State) (d : Display) (l : ScanLayer) :
    s.withWork d l (s.layer d l) s.regions s.rw = s := by
  rw [State.withWork, s.setLayer_layer d l]

theorem State.layer_withWork {s : State} {d e : Display} {l m : ScanLayer} (hl : l ≠ .camera) (hm : m ≠ .camera) (v : LayerState)
    (r : List Region) (w : ReportWriter) : (s.withWork d l v r w).layer e m = if e = d ∧ m = l then v else s.layer e m :=
  State.layer_setLayer hl hm v

theorem State.release_eq (s : State) (d : Display) (l : ScanLayer) (e : QueueEntry) (shown : Nat) :
    s.release d l e shown = s.withWork d l ((s.layer d l).counting [(e, shown)]) (holdDown s.regions e.region)
      (s.post (.released d l e shown)).rw := by
  have counted : (if 0 < shown then { s.layer d l with releasedShown := (s.layer d l).releasedShown + 1 }
      else { s.layer d l with dropped := (s.layer d l).dropped + 1 }) = (s.layer d l).counting [(e, shown)] := by
    simp only [LayerState.counting, List.countP_cons, List.countP_nil]
    by_cases some : 0 < shown
    · simp [some, Nat.ne_of_gt some]
    · simp [Nat.eq_zero_of_not_pos some]
  rw [State.release, counted]
  let u := { s with regions := holdDown s.regions e.region }.setLayer d l ((s.layer d l).counting [(e, shown)])
  have told : (u.post (.released d l e shown)).rw = (s.post (.released d l e shown)).rw :=
    State.post_rw_congr (s := s) (t := u) rfl rfl rfl rfl _
  exact Eq.trans (u.post_eq (.released d l e shown)) (congrArg (fun w => { u with rw := w }) told)

theorem State.tellReleased_rw_congr {s t : State} (d : Display) (rs : List (ScanLayer × QueueEntry × Nat))
    (time : t.time = s.time) (link : t.link = s.link) (roles : t.roles = s.roles) (rw : t.rw = s.rw) :
    (t.tellReleased d rs).rw = (s.tellReleased d rs).rw := by
  induction rs generalizing s t with
  | nil => exact rw
  | cons p rest ih =>
    exact ih (by rw [State.post_time, State.post_time, time]) (by rw [State.post_link, State.post_link, link])
      (by rw [State.post_roles, State.post_roles, roles]) (State.post_rw_congr time link roles rw _)

/-- The releases of one layer, in order (R153). -/
theorem State.releaseList_eq (s : State) (d : Display) {l : ScanLayer} (system : l ≠ .camera) (rs : List (QueueEntry × Nat)) :
    s.releaseList d l rs = s.withWork d l ((s.layer d l).counting rs) (holdsDown s.regions rs)
      (s.tellReleased d (rs.map fun p => (l, p))).rw := by
  induction rs generalizing s with
  | nil => rw [LayerState.counting_nil]; exact (s.withWork_same d l).symm
  | cons p rest ih =>
    have told : ((s.release d l p.1 p.2).tellReleased d (rest.map fun p => (l, p))).rw =
        (s.tellReleased d ((p :: rest).map fun p => (l, p))).rw := by
      refine State.tellReleased_rw_congr d _ ?_ ?_ ?_ ?_ <;> rw [State.release_eq]
      · exact (s.post_time (.released d l p.1 p.2)).symm
      · exact (s.post_link (.released d l p.1 p.2)).symm
      · exact (s.post_roles (.released d l p.1 p.2)).symm
      · rfl
    refine (ih (s.release d l p.1 p.2)).trans ?_
    rw [told, State.release_eq, State.withWork_withWork, State.layer_withWork system system, if_pos ⟨rfl, rfl⟩,
      LayerState.counting_cons]
    rfl

end Sys2Proof.Machine

end

/-! ## Proofs: the layers of a display at a frame boundary (R139, R142, R151 to R154) -/
section

namespace Sys2Proof.Machine

/-! ### States whose report writer goes the same way -/

/-- `t` posts and raises as `s` does. -/
structure SameWriter (s t : State) : Prop where
  time : t.time = s.time
  link : t.link = s.link
  roles : t.roles = s.roles
  rw : t.rw = s.rw

theorem SameWriter.refl (s : State) : SameWriter s s := ⟨rfl, rfl, rfl, rfl⟩

theorem SameWriter.trans {s t u : State} (h : SameWriter s t) (g : SameWriter t u) : SameWriter s u :=
  ⟨g.time.trans h.time, g.link.trans h.link, g.roles.trans h.roles, g.rw.trans h.rw⟩

theorem SameWriter.raise {s t : State} (h : SameWriter s t) (k : FaultKind) (n : Nat) : SameWriter (s.raise k n) (t.raise k n) where
  time := by rw [State.raise_time, State.raise_time, h.time]
  link := by rw [State.raise_link, State.raise_link, h.link]
  roles := by rw [State.raise_roles, State.raise_roles, h.roles]
  rw := State.raise_rw_congr h.time h.link h.roles h.rw k n

theorem State.tellReleased_within (s : State) (d : Display) (rs : List (ScanLayer × QueueEntry × Nat)) :
    Within [.rw] s (s.tellReleased d rs) := Within.foldl (fun t _ => t.post_within _) rs s

theorem SameWriter.tellReleased {s t : State} (h : SameWriter s t) (d : Display) (rs : List (ScanLayer × QueueEntry × Nat)) :
    SameWriter (s.tellReleased d rs) (t.tellReleased d rs) where
  time := ((t.tellReleased_within d rs .time (by decide)).trans h.time).trans (s.tellReleased_within d rs .time (by decide)).symm
  link := ((t.tellReleased_within d rs .link (by decide)).trans h.link).trans (s.tellReleased_within d rs .link (by decide)).symm
  roles :=
    ((t.tellReleased_within d rs .roles (by decide)).trans h.roles).trans (s.tellReleased_within d rs .roles (by decide)).symm
  rw := State.tellReleased_rw_congr d rs h.time h.link h.roles h.rw

/-- A state whose report writer has become that of `w`, where `w` differs from `s` in the report writer alone. -/
theorem SameWriter.of_within {s t w : State} (told : Within [.rw] s w) (time : t.time = s.time) (link : t.link = s.link)
    (roles : t.roles = s.roles) (rw : t.rw = w.rw) : SameWriter w t :=
  ⟨time.trans (told .time (by decide)).symm, link.trans (told .link (by decide)).symm,
    roles.trans (told .roles (by decide)).symm, rw⟩

/-! ### The work of the layers of one display -/

/-- `t` differs from `s` in the system layers of a display, the region table and the report writer alone. -/
structure LayersWorked (d : Display) (s t : State) : Prop where
  within : Within [.displays, .regions, .rw] s t
  others : ∀ e, e ≠ d → t.displays.get e = s.displays.get e
  own : t.displays.get d =
    { s.displays.get d with video := (t.displays.get d).video, menu := (t.displays.get d).menu }

theorem LayersWorked.trans {d : Display} {s t u : State} (h : LayersWorked d s t) (g : LayersWorked d t u) :
    LayersWorked d s u where
  within := h.within.trans g.within
  others e other := (g.others e other).trans (h.others e other)
  own := by
    have mid := g.own
    rw [h.own] at mid
    exact mid

theorem LayersWorked.withWork (s : State) (d : Display) (l : ScanLayer) (v : LayerState) (r : List Region) (w : ReportWriter) :
    LayersWorked d s (s.withWork d l v r w) where
  within p hp := by cases p <;> first | rfl | simp at hp
  others e other := PerDisplay.get_put_other _ _ other
  own := by cases d <;> cases l <;> rfl

theorem LayersWorked.applying {d : Display} {s t : State} (h : LayersWorked d s t) {l : ScanLayer}
    (same : t.layer d l = s.layer d l) : t.applying d l = s.applying d l := by
  have hold : (t.displays.get d).hold = (s.displays.get d).hold := by rw [h.own]
  rw [State.applying, State.applying, hold, same]

/-! ### A staged record applies (R139, R142) -/

/-- What a record that applies releases: on a source change the current frame and the queue (R142). -/
def LayerState.recordReleases (v : LayerState) : Option LayerSetting → List (QueueEntry × Nat)
  | none => []
  | some new => if sourceChange v.applied new then v.current.toList ++ v.queue.map fun e => (e, 0) else []

/-- A layer once the record of a boundary has applied (R139, R142, R154). -/
def LayerState.afterRecord (v : LayerState) (now : Time) : Option LayerSetting → LayerState
  | none => v
  | some new =>
    LayerState.counting
      { v with
        applied := new, staged := none
        lastSelection := if rearms v.applied new then now else v.lastSelection
        armed := if rearms v.applied new then true else v.armed
        current := if sourceChange v.applied new then none else v.current
        queue := if sourceChange v.applied new then [] else v.queue } (v.recordReleases (some new))

section
variable {l : ScanLayer} (system : l ≠ .camera)
include system

/-- A layer is set, and then releases some frames. -/
theorem State.setLayer_releaseList (s : State) (d : Display) (v : LayerState) (rs : List (QueueEntry × Nat)) :
    (s.setLayer d l v).releaseList d l rs =
      s.withWork d l (v.counting rs) (holdsDown s.regions rs) (s.tellReleased d (rs.map fun p => (l, p))).rw := by
  have told : ((s.setLayer d l v).tellReleased d (rs.map fun p => (l, p))).rw =
      (s.tellReleased d (rs.map fun p => (l, p))).rw := State.tellReleased_rw_congr d _ rfl rfl rfl rfl
  rw [State.releaseList_eq _ d system, State.layer_setLayer_same system, told]
  exact s.withWork_withWork d l v _ s.regions _ s.rw _

theorem State.applyRecord_eq (s : State) (d : Display) (new : LayerSetting) :
    s.applyRecord d l new =
      s.withWork d l ((s.layer d l).afterRecord s.time (some new))
        (holdsDown s.regions ((s.layer d l).recordReleases (some new)))
        (s.tellReleased d (((s.layer d l).recordReleases (some new)).map fun p => (l, p))).rw := by
  unfold State.applyRecord
  extract_lets v v1 v2
  have watched : v2 = { v with
      applied := new, staged := none
      lastSelection := if rearms v.applied new then s.time else v.lastSelection
      armed := if rearms v.applied new then true else v.armed } := by
    unfold v2
    split <;> rfl
  have made (rs : List (QueueEntry × Nat)) (x : LayerState) : (s.setLayer d l x).releaseList d l rs = _ :=
    s.setLayer_releaseList system d x rs
  split
  · next changes =>
    have changes : sourceChange (s.layer d l).applied new = true := changes
    rw [State.releaseCurrent_releaseAll]
    refine (made _ _).trans ?_
    rw [watched]
    simp only [LayerState.afterRecord, LayerState.recordReleases, changes, if_true]
    rfl
  · next same =>
    have same : ¬ sourceChange (s.layer d l).applied new = true := same
    refine (made [] v2).trans ?_
    rw [watched]
    simp only [LayerState.afterRecord, LayerState.recordReleases, if_neg same]
    rfl

theorem State.applyStaged_eq (s : State) (d : Display) :
    s.applyStaged d l =
      s.withWork d l ((s.layer d l).afterRecord s.time (s.applying d l))
        (holdsDown s.regions ((s.layer d l).recordReleases (s.applying d l)))
        (s.tellReleased d (((s.layer d l).recordReleases (s.applying d l)).map fun p => (l, p))).rw := by
  have idle : s = s.withWork d l (s.layer d l) s.regions s.rw := (s.withWork_same d l).symm
  unfold State.applyStaged State.applying
  cases staged : (s.layer d l).staged with
  | none =>
    rw [ite_self]
    exact idle
  | some new =>
    cases hold : (s.displays.get d).hold with
    | true => exact idle
    | false => exact s.applyRecord_eq system d new

end

/-! ### Selection (R151 to R154) -/

/-- The due run of a layer's queue (R151). -/
def LayerState.due (v : LayerState) (now : Time) : List QueueEntry := v.queue.takeWhile (entryDue now)

/-- What the selection releases: the former current frame and the due frames but the last (R151, R153). -/
def LayerState.selectionReleases (v : LayerState) (now : Time) : List (QueueEntry × Nat) :=
  match (v.due now).getLast? with
  | none => []
  | some _ => v.current.toList ++ (v.due now).dropLast.map fun e => (e, 0)

/-- A layer after the selection of a boundary (R151, R154). -/
def LayerState.afterSelection (v : LayerState) (now : Time) : LayerState :=
  match (v.due now).getLast? with
  | none =>
    { v with
      current := v.current.map fun c => (c.1, min (c.2 + 1) 4294967295)
      armed := if v.starved now then false else v.armed }
  | some chosen =>
    LayerState.counting
      { v with queue := v.queue.drop (v.due now).length, current := some (chosen, 1), lastSelection := now, armed := true }
      (v.selectionReleases now)

theorem LayerState.due_of_starved {v : LayerState} {now : Time} (starved : v.starved now = true) : v.due now = [] := by
  have empty : v.queue = [] := by
    simp only [LayerState.starved, Bool.and_eq_true, List.isEmpty_iff] at starved
    exact starved.1.2
  rw [LayerState.due, empty, List.takeWhile_nil]

/-- What a layer tells at its selection: its releases, and LAYER_STARVED where it is starved (R153, R154). -/
def State.tellSelection (s : State) (d : Display) (l : ScanLayer) (v : LayerState) : State :=
  let told := s.tellReleased d ((v.selectionReleases s.time).map fun p => (l, p))
  if v.starved s.time then told.raise .layerStarved (displayLayerDetail d l) else told

theorem State.tellSelection_within (s : State) (d : Display) (l : ScanLayer) (v : LayerState) :
    Within [.rw] s (s.tellSelection d l v) := by
  unfold State.tellSelection
  extract_lets told
  have released : Within [.rw] s told := s.tellReleased_within d _
  split
  · exact released.trans (told.raise_within _ _)
  · exact released

theorem State.selectFrame_eq (s : State) (d : Display) {l : ScanLayer} (system : l ≠ .camera) :
    s.selectFrame d l =
      s.withWork d l ((s.layer d l).afterSelection s.time)
        (holdsDown s.regions ((s.layer d l).selectionReleases s.time)) (s.tellSelection d l (s.layer d l)).rw := by
  unfold State.selectFrame LayerState.afterSelection LayerState.selectionReleases State.tellSelection
  extract_lets v run told
  change (match run.getLast? with | none => _ | some chosen => _) = _
  cases last : run.getLast? with
  | none =>
    have quiet : told = s := by
      change s.tellReleased d ((v.selectionReleases s.time).map _) = s
      rw [LayerState.selectionReleases, show (v.due s.time).getLast? = none from last]
      rfl
    rw [show (v.due s.time).getLast? = none from last, quiet]
    dsimp only
    unfold State.keepFrame
    extract_lets v1
    by_cases starved : v.starved s.time = true
    · rw [if_pos (by exact starved), if_pos (by exact starved), if_pos (by exact starved)]
      have raised : ((s.setLayer d l { v1 with armed := false }).raise .layerStarved (displayLayerDetail d l)).rw =
          (s.raise .layerStarved (displayLayerDetail d l)).rw :=
        State.raise_rw_congr (s := s) (t := s.setLayer d l { v1 with armed := false }) rfl rfl rfl rfl _ _
      exact Eq.trans (State.raise_eq _ _ _) (congrArg
        (fun w => { s.setLayer d l { v1 with armed := false } with rw := w }) raised)
    · rw [if_neg (by exact starved), if_neg (by exact starved), if_neg (by exact starved)]
      rfl
  | some chosen =>
    have fed : ¬ v.starved s.time = true := fun starved => by
      have empty : run = [] := LayerState.due_of_starved starved
      rw [empty] at last
      exact nomatch last
    rw [show (v.due s.time).getLast? = some chosen from last]
    dsimp only
    rw [if_neg (by exact fed), State.releaseCurrent_releaseAll, State.setLayer_releaseList system]
    change s.withWork d l _ _ _ = s.withWork d l _ _ (s.tellReleased d ((v.selectionReleases s.time).map _)).rw
    rw [LayerState.selectionReleases, show (v.due s.time).getLast? = some chosen from last]
    rfl

end Sys2Proof.Machine

end

/-! ## Proofs: both layers of a display at a frame boundary (R139, R142, R151 to R154) -/
section

namespace Sys2Proof.Machine

/-! ### A layer after its record -/

/-- The record, if one applies, is a source change (R142). -/
def LayerState.changes (v : LayerState) : Option LayerSetting → Bool
  | none => false
  | some new => sourceChange v.applied new

/-- The record, if one applies, begins the watch for starvation anew (R154). -/
def LayerState.anew (v : LayerState) : Option LayerSetting → Bool
  | none => false
  | some new => rearms v.applied new

section
variable (v : LayerState) (now : Time) (n : Option LayerSetting)

theorem LayerState.recordReleases_eq :
    v.recordReleases n = if v.changes n then v.current.toList ++ v.queue.map fun e => (e, 0) else [] := by
  cases n <;> rfl

theorem LayerState.afterRecord_queue : (v.afterRecord now n).queue = if v.changes n then [] else v.queue := by
  cases n <;> rfl

theorem LayerState.afterRecord_current : (v.afterRecord now n).current = if v.changes n then none else v.current := by
  cases n <;> rfl

theorem LayerState.afterRecord_applied : (v.afterRecord now n).applied = n.getD v.applied := by
  cases n <;> rfl

theorem LayerState.afterRecord_lastSelection :
    (v.afterRecord now n).lastSelection = if v.anew n then now else v.lastSelection := by
  cases n <;> rfl

theorem LayerState.afterRecord_armed : (v.afterRecord now n).armed = if v.anew n then true else v.armed := by
  cases n <;> rfl

end

theorem LayerState.starved_iff {v : LayerState} {now : Time} :
    v.starved now = true ↔ v.applied.enable = true ∧ v.applied.cadence = .stream ∧ v.armed = true ∧ v.queue = [] ∧
      500000 ≤ (now - v.lastSelection).toInt := by
  simp only [LayerState.starved, Bool.and_eq_true, beq_iff_eq, List.isEmpty_iff, decide_eq_true_eq, and_assoc]

/-! ### The releases that the statements name -/

section
variable (s : State) (d : Display) (l : ScanLayer)

theorem State.changesSource_eq : s.changesSource d l = (s.layer d l).changes (s.applying d l) := by
  unfold State.changesSource
  cases s.applying d l <;> rfl

theorem State.releasedByChange_eq :
    s.releasedByChange d l = ((s.layer d l).recordReleases (s.applying d l)).map fun p => (l, p) := by
  rw [State.releasedByChange, LayerState.recordReleases_eq, State.changesSource_eq]
  split <;> rfl

/-- A layer of a display once its record has applied. -/
def State.recorded : LayerState := (s.layer d l).afterRecord s.time (s.applying d l)

theorem State.releasedBySelection_eq :
    s.releasedBySelection d l = ((s.recorded d l).selectionReleases s.time).map fun p => (l, p) := by
  rw [State.releasedBySelection, State.changesSource_eq, LayerState.selectionReleases, LayerState.due, State.recorded,
    LayerState.afterRecord_queue, LayerState.afterRecord_current]
  by_cases changes : (s.layer d l).changes (s.applying d l) = true
  · rw [if_pos (.inl changes), if_pos changes]
    rfl
  · simp only [changes, Bool.false_eq_true, false_or, if_false]
    change (if (s.layer d l).queue.takeWhile (entryDue s.time) = [] then _ else _) = _
    cases last : ((s.layer d l).queue.takeWhile (entryDue s.time)).getLast? with
    | none => exact if_pos (List.getLast?_eq_none_iff.1 last)
    | some chosen => exact if_neg fun empty => by rw [empty] at last; exact nomatch last

theorem rearms_iff {old new : LayerSetting} :
    rearms old new = true ↔ (old.enable = false ∧ new.enable = true) ∨ (old.cadence ≠ .stream ∧ new.cadence = .stream) := by
  simp [rearms]

theorem State.starves_eq : s.starves d l = (s.recorded d l).starved s.time := by
  have watch : s.starves d l = decide ((s.layer d l).anew (s.applying d l) = false ∧
      ((s.applying d l).getD (s.layer d l).applied).enable = true ∧
      ((s.applying d l).getD (s.layer d l).applied).cadence = .stream ∧ (s.layer d l).armed = true ∧
      (s.changesSource d l = true ∨ (s.layer d l).queue = []) ∧
      500000 ≤ (s.time - (s.layer d l).lastSelection).toInt) := by
    unfold State.starves
    cases s.applying d l with
    | none => rfl
    | some new =>
      have same : decide (((s.layer d l).applied.enable = false ∧ new.enable = true) ∨
          ((s.layer d l).applied.cadence ≠ .stream ∧ new.cadence = .stream)) = rearms (s.layer d l).applied new :=
        Bool.eq_iff_iff.2 (decide_eq_true_iff.trans rearms_iff.symm)
      dsimp only
      rw [same]
      rfl
  rw [watch, Bool.eq_iff_iff, decide_eq_true_iff, LayerState.starved_iff, State.recorded, LayerState.afterRecord_queue,
    LayerState.afterRecord_applied, LayerState.afterRecord_armed, LayerState.afterRecord_lastSelection, State.changesSource_eq]
  cases (s.layer d l).anew (s.applying d l) with
  | true => simp
  | false => cases (s.layer d l).changes (s.applying d l) <;> simp

end

/-! ### Both layers -/

section
variable {l m : ScanLayer} (system : l ≠ .camera) (isSystem : m ≠ .camera) (s : State) (d : Display)
include system

theorem State.applyStaged_time : (s.applyStaged d l).time = s.time := by
  rw [State.applyStaged_eq system]
  rfl

theorem State.selectFrame_time : (s.selectFrame d l).time = s.time := by
  rw [State.selectFrame_eq _ _ system]
  rfl

theorem State.applyStaged_worked : LayersWorked d s (s.applyStaged d l) := by
  rw [State.applyStaged_eq system]
  exact LayersWorked.withWork ..

theorem State.selectFrame_worked : LayersWorked d s (s.selectFrame d l) := by
  rw [State.selectFrame_eq _ _ system]
  exact LayersWorked.withWork ..

include isSystem

theorem State.applyStaged_layer (e : Display) :
    (s.applyStaged d l).layer e m = if e = d ∧ m = l then s.recorded d l else s.layer e m := by
  rw [State.applyStaged_eq system, State.layer_withWork system isSystem]
  rfl

theorem State.selectFrame_layer (e : Display) :
    (s.selectFrame d l).layer e m = if e = d ∧ m = l then (s.layer d l).afterSelection s.time else s.layer e m := by
  rw [State.selectFrame_eq _ _ system, State.layer_withWork system isSystem]

end

theorem SameWriter.applyStaged {w s : State} (h : SameWriter w s) {l : ScanLayer} (system : l ≠ .camera) (d : Display) :
    SameWriter (w.tellReleased d (s.releasedByChange d l)) (s.applyStaged d l) := by
  refine (h.tellReleased d _).trans ?_
  rw [State.applyStaged_eq system, ← State.releasedByChange_eq]
  exact .of_within (s.tellReleased_within d _) rfl rfl rfl rfl

theorem State.tellSelection_congr {w s : State} (h : SameWriter w s) (d : Display) (l : ScanLayer) (v : LayerState) :
    SameWriter (w.tellSelection d l v) (s.tellSelection d l v) := by
  unfold State.tellSelection
  rw [h.time]
  extract_lets told told'
  have released : SameWriter told told' := h.tellReleased d _
  by_cases starved : v.starved w.time = true
  · rw [if_pos starved, if_pos starved]
    exact released.raise _ _
  · rw [if_neg starved, if_neg starved]
    exact released

theorem SameWriter.selectFrame {w s : State} (h : SameWriter w s) {l : ScanLayer} (system : l ≠ .camera) (d : Display) :
    SameWriter (w.tellSelection d l (s.layer d l)) (s.selectFrame d l) := by
  refine (State.tellSelection_congr h d l _).trans ?_
  rw [State.selectFrame_eq _ _ system]
  exact .of_within (s.tellSelection_within d l _) rfl rfl rfl rfl

theorem State.boundaryLayers_worked (s : State) (d : Display) : LayersWorked d s (s.boundaryLayers d) :=
  (((State.applyStaged_worked (by decide) s d).trans (State.applyStaged_worked (by decide) _ d)).trans
    (State.selectFrame_worked (by decide) _ d)).trans (State.selectFrame_worked (by decide) _ d)

section
variable (s : State) (d : Display)

/-- The layers between application and selection (log 22). -/
theorem State.bothApplied_layer {l : ScanLayer} (system : l ≠ .camera) :
    ((s.applyStaged d .video).applyStaged d .menu).layer d l = s.recorded d l := by
  have menuWaits : (s.applyStaged d .video).layer d .menu = s.layer d .menu :=
    (State.applyStaged_layer (by decide) (by decide) s d d).trans (if_neg (by simp))
  cases l with
  | camera => exact absurd rfl system
  | video =>
    rw [State.applyStaged_layer (by decide) (by decide), if_neg (by simp), State.applyStaged_layer (by decide) (by decide),
      if_pos ⟨rfl, rfl⟩]
  | menu =>
    rw [State.applyStaged_layer (by decide) (by decide), if_pos ⟨rfl, rfl⟩, State.recorded, menuWaits,
      (State.applyStaged_worked (by decide) s d).applying menuWaits, State.applyStaged_time (by decide)]
    rfl

theorem State.bothApplied_time : ((s.applyStaged d .video).applyStaged d .menu).time = s.time := by
  rw [State.applyStaged_time (by decide), State.applyStaged_time (by decide)]

/-- A system layer after a boundary (R139, R151). -/
theorem State.boundaryLayers_layer {l : ScanLayer} (system : l ≠ .camera) :
    (s.boundaryLayers d).layer d l = (s.recorded d l).afterSelection s.time := by
  have applied {m : ScanLayer} (h : m ≠ .camera) := s.bothApplied_layer d h
  have menuWaits : (((s.applyStaged d .video).applyStaged d .menu).selectFrame d .video).layer d .menu = s.recorded d .menu :=
    ((State.selectFrame_layer (by decide) (by decide) _ d d).trans (if_neg (by simp))).trans (applied (by decide))
  unfold State.boundaryLayers
  cases l with
  | camera => exact absurd rfl system
  | video =>
    rw [State.selectFrame_layer (by decide) (by decide), if_neg (by simp), State.selectFrame_layer (by decide) (by decide),
      if_pos ⟨rfl, rfl⟩, applied (by decide), State.bothApplied_time]
  | menu =>
    rw [State.selectFrame_layer (by decide) (by decide), if_pos ⟨rfl, rfl⟩, menuWaits, State.selectFrame_time (by decide),
      State.bothApplied_time]

theorem foldl_holdDown_map (r : List Region) (l : ScanLayer) (rs : List (QueueEntry × Nat)) :
    (rs.map fun p => (l, p)).foldl (fun r p => holdDown r p.2.1.region) r = holdsDown r rs := List.foldl_map

/-- The hold counts after a boundary (R11, R153). -/
theorem State.boundaryLayers_regions :
    (s.boundaryLayers d).regions = (s.releasedAtBoundary d).foldl (fun r p => holdDown r p.2.1.region) s.regions := by
  have menuWaits : (s.applyStaged d .video).layer d .menu = s.layer d .menu :=
    (State.applyStaged_layer (by decide) (by decide) s d d).trans (if_neg (by simp))
  have menuSelects : (((s.applyStaged d .video).applyStaged d .menu).selectFrame d .video).layer d .menu =
      s.recorded d .menu :=
    ((State.selectFrame_layer (by decide) (by decide) _ d d).trans (if_neg (by simp))).trans
      (s.bothApplied_layer d (by decide))
  have video : (s.applyStaged d .video).regions =
      holdsDown s.regions ((s.layer d .video).recordReleases (s.applying d .video)) := by
    rw [State.applyStaged_eq (by decide)]
    rfl
  have menu : ((s.applyStaged d .video).applyStaged d .menu).regions =
      holdsDown (s.applyStaged d .video).regions ((s.layer d .menu).recordReleases (s.applying d .menu)) := by
    rw [State.applyStaged_eq (by decide), menuWaits, (State.applyStaged_worked (by decide) s d).applying menuWaits]
    rfl
  have videoSelects : (((s.applyStaged d .video).applyStaged d .menu).selectFrame d .video).regions =
      holdsDown ((s.applyStaged d .video).applyStaged d .menu).regions ((s.recorded d .video).selectionReleases s.time) := by
    rw [State.selectFrame_eq _ _ (by decide), s.bothApplied_layer d (by decide), State.bothApplied_time]
    rfl
  unfold State.boundaryLayers State.releasedAtBoundary
  rw [State.selectFrame_eq _ _ (show ScanLayer.menu ≠ .camera by decide), menuSelects, State.selectFrame_time (by decide),
    State.bothApplied_time]
  simp only [List.foldl_append, State.releasedByChange_eq, State.releasedBySelection_eq, foldl_holdDown_map]
  rw [← video, ← menu, ← videoSelects]
  rfl

theorem State.warnStarved_eq (before : State) (l : ScanLayer) :
    (s.tellReleased d (before.releasedBySelection d l)).warnStarved before d l =
      if before.starves d l then (s.tellReleased d (before.releasedBySelection d l)).raise .layerStarved (displayLayerDetail d l)
      else s.tellReleased d (before.releasedBySelection d l) := rfl

theorem State.tellSelection_eq {before : State} (l : ScanLayer) (time : s.time = before.time) :
    s.tellSelection d l (before.recorded d l) =
      (s.tellReleased d (before.releasedBySelection d l)).warnStarved before d l := by
  rw [State.warnStarved_eq, State.starves_eq, State.releasedBySelection_eq, State.tellSelection, time]

/-- What both layers tell at a boundary, in order (R153, R154, logs 22 and 40). -/
theorem State.boundaryLayers_writer : SameWriter (s.layersTell d) (s.boundaryLayers d) := by
  have menuWaits : (s.applyStaged d .video).layer d .menu = s.layer d .menu :=
    (State.applyStaged_layer (by decide) (by decide) s d d).trans (if_neg (by simp))
  have menuChange : (s.applyStaged d .video).releasedByChange d .menu = s.releasedByChange d .menu := by
    rw [State.releasedByChange_eq, State.releasedByChange_eq, menuWaits,
      (State.applyStaged_worked (by decide) s d).applying menuWaits]
  have menuSelects : (((s.applyStaged d .video).applyStaged d .menu).selectFrame d .video).layer d .menu =
      s.recorded d .menu :=
    ((State.selectFrame_layer (by decide) (by decide) _ d d).trans (if_neg (by simp))).trans
      (s.bothApplied_layer d (by decide))
  have one := (SameWriter.refl s).applyStaged (l := .video) (by decide) d
  have two := one.applyStaged (l := .menu) (by decide) d
  rw [menuChange] at two
  have three := two.selectFrame (l := .video) (by decide) d
  rw [s.bothApplied_layer d (by decide), State.tellSelection_eq _ _ _ (two.time.symm.trans (s.bothApplied_time d))] at three
  have four := three.selectFrame (l := .menu) (by decide) d
  rw [menuSelects, State.tellSelection_eq _ _ _ (three.time.symm.trans
    ((State.selectFrame_time (by decide) _ d).trans (s.bothApplied_time d)))] at four
  exact four

end

end Sys2Proof.Machine

end

/-! ## Proofs: the parts of a frame boundary (R34, R80, R81, R135, R155, R163) -/
section

namespace Sys2Proof.Machine

/-! ### The row being sent ends, and the next boundary is set -/

/-- A display once a boundary has ended its row and set the next boundary (R155, log 21). -/
def State.turned (s : State) (d : Display) : State :=
  (s.finishRow d).updateDisplay d fun x => { x with nextBoundary := later x.nextBoundary Config.framePeriod }

theorem State.turned_eq (s : State) (d : Display) :
    s.turned d = { s with displays := s.displays.put d { s.displays.get d with
      nextBoundary := later (s.displays.get d).nextBoundary Config.framePeriod
      scan := { (s.displays.get d).scan with sent := s.rowSent d } } } := by
  rw [State.turned, State.finishRow_eq]
  cases d <;> rfl

theorem DisplayState.layer_timed (x : DisplayState) (next : Time) (sc : Scan) (l : ScanLayer) :
    ({ x with nextBoundary := next, scan := sc } : DisplayState).layer l = x.layer l := by
  cases l <;> rfl

section
variable (s : State) (d : Display)

theorem State.turned_get : (s.turned d).displays.get d = { s.displays.get d with
      nextBoundary := later (s.displays.get d).nextBoundary Config.framePeriod
      scan := { (s.displays.get d).scan with sent := s.rowSent d } } := by
  rw [State.turned_eq]
  exact PerDisplay.get_put_same s.displays d _

theorem State.turned_layer (l : ScanLayer) : (s.turned d).layer d l = s.layer d l := by
  rw [State.layer, State.turned_get]
  exact DisplayState.layer_timed ..

theorem State.turned_applying (l : ScanLayer) : (s.turned d).applying d l = s.applying d l := by
  rw [State.applying, State.turned_layer, State.turned_get]
  rfl

theorem State.turned_time : (s.turned d).time = s.time := by rw [State.turned_eq]

theorem State.turned_recorded (l : ScanLayer) : (s.turned d).recorded d l = s.recorded d l := by
  rw [State.recorded, State.turned_layer, State.turned_applying, State.turned_time]
  rfl

theorem State.turned_releasedByChange (l : ScanLayer) : (s.turned d).releasedByChange d l = s.releasedByChange d l := by
  rw [State.releasedByChange_eq, State.releasedByChange_eq, State.turned_layer, State.turned_applying]

theorem State.turned_releasedBySelection (l : ScanLayer) :
    (s.turned d).releasedBySelection d l = s.releasedBySelection d l := by
  rw [State.releasedBySelection_eq, State.releasedBySelection_eq, State.turned_recorded, State.turned_time]

theorem State.turned_releasedAtBoundary : (s.turned d).releasedAtBoundary d = s.releasedAtBoundary d := by
  simp only [State.releasedAtBoundary, State.turned_releasedByChange, State.turned_releasedBySelection]

theorem State.turned_starves (l : ScanLayer) : (s.turned d).starves d l = s.starves d l := by
  rw [State.starves_eq, State.starves_eq, State.turned_recorded, State.turned_time]

theorem SameWriter.warnStarved {w u : State} (h : SameWriter w u) {before before' : State} (l : ScanLayer)
    (same : before'.starves d l = before.starves d l) :
    SameWriter (w.warnStarved before d l) (u.warnStarved before' d l) := by
  rw [State.warnStarved, State.warnStarved, same]
  split
  · exact h.raise _ _
  · exact h

theorem State.turned_writer : SameWriter (s.layersTell d) ((s.turned d).layersTell d) := by
  have start : SameWriter s (s.turned d) := by
    rw [State.turned_eq]
    exact ⟨rfl, rfl, rfl, rfl⟩
  unfold State.layersTell
  simp only [State.turned_releasedByChange, State.turned_releasedBySelection]
  exact ((((((start.tellReleased d _).tellReleased d _).tellReleased d _).warnStarved d .video
    (s.turned_starves d .video)).tellReleased d _).warnStarved d .menu (s.turned_starves d .menu))

/-! ### The layers of the display -/

/-- The device once the layers of the display have applied and selected (R139, R151). -/
def State.layered : State := (s.turned d).boundaryLayers d

theorem State.layered_layer {l : ScanLayer} (system : l ≠ .camera) :
    (s.layered d).layer d l = (s.recorded d l).afterSelection s.time := by
  rw [State.layered, State.boundaryLayers_layer _ _ system, State.turned_recorded, State.turned_time]

theorem State.layered_regions :
    (s.layered d).regions = (s.releasedAtBoundary d).foldl (fun r p => holdDown r p.2.1.region) s.regions := by
  rw [State.layered, State.boundaryLayers_regions, State.turned_releasedAtBoundary]
  congr 1
  rw [State.turned_eq]

theorem State.layered_writer : SameWriter (s.layersTell d) (s.layered d) :=
  (s.turned_writer d).trans ((s.turned d).boundaryLayers_writer d)

theorem State.layered_within : Within [.displays, .regions, .rw] s (s.layered d) := by
  have first : Within [.displays, .regions, .rw] s (s.turned d) := by
    rw [State.turned_eq]
    exact (within_displays s _).mono (by decide)
  exact first.trans ((s.turned d).boundaryLayers_worked d).within

theorem State.layered_others {e : Display} (other : e ≠ d) : (s.layered d).displays.get e = s.displays.get e := by
  rw [State.layered, ((s.turned d).boundaryLayers_worked d).others e other, State.turned_eq]
  exact PerDisplay.get_put_other _ _ other

theorem State.layered_own : ∃ video menu, (s.layered d).displays.get d = { s.displays.get d with
    nextBoundary := later (s.displays.get d).nextBoundary Config.framePeriod
    scan := { (s.displays.get d).scan with sent := s.rowSent d }, video := video, menu := menu } := by
  have own := ((s.turned d).boundaryLayers_worked d).own
  rw [State.turned_get] at own
  exact ⟨_, _, own⟩

theorem State.layered_stack : (s.layered d).stack d = s.stack d := by
  obtain ⟨_, _, own⟩ := s.layered_own d
  rw [State.stack, own]
  rfl

end

/-! ### The frame begins (R155) -/

/-- A display's scan-out for the frame that begins (R155, R164). -/
def Scan.begun (sc : Scan) (d : Display) (view : Option View) (video menu : Contribution) (scene : CameraScene) : Scan :=
  ({ sc with
    frameNo := sc.frameNo + 1, view := view, video := video, menu := menu, camera := scene, row := none, late := []
    data := [] } : Scan).presentRow d 0

theorem State.beginFrame_eq (s : State) (d : Display) (bv bm : Bool) (scene : CameraScene) :
    s.beginFrame d bv bm scene = s.updateScan d fun sc =>
      sc.begun d (topView (s.stack d)) (s.contribution d .video bv) (s.contribution d .menu bm) scene := rfl

theorem State.updateScan_layer (s : State) (d e : Display) (f : Scan → Scan) (l : ScanLayer) :
    (s.updateScan d f).layer e l = s.layer e l := by
  rw [State.layer, State.updateScan, State.updateDisplay_get]
  split
  · next same =>
    rw [same]
    cases l <;> rfl
  · rfl

theorem State.badFrame_finishRow (s : State) (d : Display) (l : ScanLayer) :
    (s.finishRow d).badFrame d l = s.badFrame d l := by
  have layer : (s.finishRow d).layer d l = s.layer d l := by rw [State.finishRow_eq, State.updateScan_layer]
  have hold : ((s.finishRow d).displays.get d).hold = (s.displays.get d).hold := by
    rw [State.finishRow_eq, State.updateScan, State.updateDisplay_get, if_pos rfl]
  unfold State.badFrame
  rw [layer, hold]

theorem State.boundary_rear (s : State) {d : Display} (rear : d ≠ .front) (u : Bool) :
    s.boundary d u = (s.layered d).beginFrame d (s.badFrame d .video) (s.badFrame d .menu) .absent := by
  rw [← s.badFrame_finishRow d .video, ← s.badFrame_finishRow d .menu]
  cases d with
  | front => exact absurd rfl rear
  | rearLeft => rfl
  | rearRight => rfl

/-- The device before a FRONT frame begins: the front work, the full rewrite, the build. -/
def State.fronted (s : State) (u : Bool) : State :=
  (((s.layered .front).frontWork (topView (s.stack .front))).fullRewrite u).boundaryBuild (topView (s.stack .front))

theorem State.boundary_front (s : State) (u : Bool) :
    s.boundary .front u = (s.fronted u).beginFrame .front (s.badFrame .front .video) (s.badFrame .front .menu)
      ((s.fronted u).cameraSceneNow (topView (s.stack .front))) := by
  rw [State.fronted, ← State.layered_stack, ← s.badFrame_finishRow .front .video, ← s.badFrame_finishRow .front .menu]
  rfl

theorem State.fronted_displays (s : State) (u : Bool) : (s.fronted u).displays = (s.layered .front).displays := by
  rw [State.fronted, State.boundaryBuild_displays, State.fullRewrite_displays, State.frontWork_displays]

theorem State.boundaryBuild_regions (s : State) (view : Option View) : (s.boundaryBuild view).regions = s.regions := by
  unfold State.boundaryBuild
  split <;> rfl

theorem State.fronted_regions (s : State) (u : Bool) : (s.fronted u).regions = (s.layered .front).regions := by
  rw [State.fronted, State.boundaryBuild_regions, State.fullRewrite_regions, State.frontWork_regions]

theorem State.contribution_congr {s t : State} (displays : t.displays = s.displays) (regions : t.regions = s.regions)
    (d : Display) (l : ScanLayer) (bad : Bool) : t.contribution d l bad = s.contribution d l bad := by
  unfold State.contribution State.layer
  rw [displays, regions]

/-- The camera scene of the frame that a boundary begins (R161, R163). -/
def State.sceneAt (s : State) (d : Display) (u : Bool) : CameraScene :=
  if d = .front then (s.fronted u).cameraSceneNow (topView (s.stack .front)) else .absent

theorem State.boundary_displays (s : State) (d : Display) (u : Bool) :
    (s.boundary d u).displays = ((s.layered d).updateScan d fun sc =>
      sc.begun d (topView (s.stack d)) ((s.layered d).contribution d .video (s.badFrame d .video))
        ((s.layered d).contribution d .menu (s.badFrame d .menu)) (s.sceneAt d u)).displays := by
  have rear (h : d ≠ .front) : s.sceneAt d u = .absent := if_neg h
  by_cases front : d = .front
  · subst front
    have displays := s.fronted_displays u
    have regions := s.fronted_regions u
    have stack : (s.fronted u).stack .front = s.stack .front := by
      rw [State.stack, displays]
      exact s.layered_stack .front
    rw [State.boundary_front, State.beginFrame_eq, stack, State.contribution_congr displays regions,
      State.contribution_congr displays regions]
    change (s.fronted u).displays.put .front _ = (s.layered .front).displays.put .front _
    rw [displays]
    rfl
  · rw [State.boundary_rear s front, State.beginFrame_eq, State.layered_stack, rear front]

theorem State.boundary_regions (s : State) (d : Display) (u : Bool) : (s.boundary d u).regions = (s.layered d).regions := by
  by_cases front : d = .front
  · subst front
    rw [State.boundary_front]
    exact s.fronted_regions u
  · rw [State.boundary_rear s front]
    rfl

/-- A system layer after a boundary (R139, R151). -/
theorem State.boundary_layer (s : State) (d : Display) (u : Bool) {l : ScanLayer} (system : l ≠ .camera) :
    (s.boundary d u).layer d l = (s.recorded d l).afterSelection s.time := by
  rw [State.layer, State.boundary_displays]
  exact (State.updateScan_layer _ d d _ l).trans (s.layered_layer d system)

/-! ### The camera scene (R81, R161, R163) -/

/-- A picture of at most 100,000 µs stands at `base` in DRAM (R81). -/
def State.PictureAt (s : State) (base : Nat) : Prop :=
  ∃ k since area, s.camera.newest = some (k, since) ∧ (s.time - since).toInt ≤ 100000 ∧ s.cameraArea = some area ∧
    base = area + k.val * 1843200

/-- The camera scene as the front work finds it. -/
def State.frontScene (s : State) (view : Option View) : CameraScene :=
  State.cameraSceneNow { s with camera := s.camera.show view, compositor.appliedGain := s.camera.gain } view

/-- The composed view is the camera view. -/
def isCamera (view : Option View) : Prop := ∃ v, view = some v ∧ v.owner = .camera

theorem isCamera_iff {view : Option View} : isCamera view ↔ view.map View.owner = some .camera := by
  cases view <;> simp [isCamera]

theorem State.frontScene_absent (s : State) {view : Option View} (h : ¬ isCamera view) : s.frontScene view = .absent := by
  rw [isCamera_iff] at h
  unfold State.frontScene State.cameraSceneNow
  split
  · next camera => exact absurd camera h
  · rfl

section
variable (s : State) {view : Option View} (h : isCamera view)
include h

theorem State.show_camera : s.camera.show view = { s.camera with displaying := s.camera.newest.map Prod.fst } := by
  rw [Camera.show, isCamera_iff.1 h]

theorem State.frontScene_fresh {base : Nat} (picture : s.PictureAt base) : s.frontScene view = .fresh base s.camera.gain := by
  obtain ⟨k, since, area, newest, young, isArea, rfl⟩ := picture
  unfold State.frontScene State.cameraSceneNow
  have isArea : s.roles.bind Roles.cameraArea = some area := isArea
  rw [isCamera_iff.1 h, State.show_camera s h]
  simp only [newest, Option.map_some, State.cameraArea, isArea]
  exact if_pos (decide_eq_true young)

theorem State.frontScene_fallback (none : ∀ base, ¬ s.PictureAt base) : s.frontScene view = .fallback := by
  unfold State.frontScene State.cameraSceneNow
  rw [isCamera_iff.1 h, State.show_camera s h]
  dsimp only
  split
  · next k area displaying isArea =>
    obtain ⟨⟨k, since⟩, newest, rfl⟩ := Option.map_eq_some_iff.1 displaying
    refine if_neg fun young => none _ ⟨k, since, area, newest, ?_, isArea, rfl⟩
    rw [newest] at young
    exact of_decide_eq_true young
  · rfl

end

end Sys2Proof.Machine

end

/-! ## Proofs: a frame boundary selects and releases frames (R139, R142, R144, R151 to R154) -/
section

namespace Sys2Proof.Machine

/-! ### The front work and the full rewrite (R34, R163) -/

theorem State.frontScene_congr {s t : State} (camera : t.camera = s.camera) (time : t.time = s.time) (roles : t.roles = s.roles)
    (view : Option View) : t.frontScene view = s.frontScene view := by
  unfold State.frontScene State.cameraSceneNow State.cameraArea
  simp only [camera, time, roles]

section
variable {s : State} {view : Option View}

theorem State.frontWork_quiet (h : s.frontScene view ≠ .fallback) :
    s.frontWork view = { s with
      camera := s.camera.show view, guide := s.guide.handover
      compositor := { s.compositor with appliedGain := s.camera.gain, fallbackShown := false } } := by
  unfold State.frontWork
  extract_lets compositor s1 s2
  have watched : s2 = { s1 with compositor.fallbackShown := false } := by
    change s1.fallbackWatch (s.frontScene view) = _
    unfold State.fallbackWatch
    split
    · next fallback => exact absurd fallback h
    · rfl
    · rfl
  rw [watched]

theorem State.frontWork_fallback (h : s.frontScene view = .fallback) :
    s.frontWork view = { s with
      camera := s.camera.show view, guide := s.guide.handover
      compositor := { s.compositor with appliedGain := s.camera.gain, fallbackShown := true }
      rw := if s.compositor.fallbackShown then s.rw else (s.raise .cameraLost 0).rw } := by
  unfold State.frontWork
  extract_lets compositor s1 s2
  have watched : s2 = { s1 with
      compositor := { s.compositor with appliedGain := s.camera.gain, fallbackShown := true }
      rw := if s.compositor.fallbackShown then s.rw else (s.raise .cameraLost 0).rw } := by
    change s1.fallbackWatch (s.frontScene view) = _
    rw [h, State.fallbackWatch]
    by_cases shown : s.compositor.fallbackShown = true
    · rw [if_pos (by exact shown), if_pos shown, ← shown]
    · rw [if_neg (by exact shown), if_neg shown]
      let u : State := { s1 with compositor.fallbackShown := true }
      have told : (u.raise .cameraLost 0).rw = (s.raise .cameraLost 0).rw :=
        State.raise_rw_congr (s := s) (t := u) rfl rfl rfl rfl _ _
      exact Eq.trans (u.raise_eq .cameraLost 0) (congrArg (fun w => { u with rw := w }) told)
  rw [watched]

theorem State.frontWork_writer_quiet (h : s.frontScene view ≠ .fallback ∨ s.compositor.fallbackShown = true) :
    SameWriter s (s.frontWork view) := by
  by_cases fallback : s.frontScene view = .fallback
  · rw [State.frontWork_fallback fallback, if_pos (h.resolve_left fun other => other fallback)]
    exact ⟨rfl, rfl, rfl, rfl⟩
  · rw [State.frontWork_quiet fallback]
    exact ⟨rfl, rfl, rfl, rfl⟩

theorem State.frontWork_writer_lost (h : s.frontScene view = .fallback) (first : s.compositor.fallbackShown = false) :
    SameWriter (s.raise .cameraLost 0) (s.frontWork view) := by
  rw [State.frontWork_fallback h, if_neg (by simp [first])]
  exact .of_within (s.raise_within _ _) rfl rfl rfl rfl

end

theorem State.foldl_present (s : State) (u : Bool) (ps : List (Nat × List Byte)) :
    ps.foldl (fun acc p => acc.present p.1 p.2 u) s = { s with rw := { s.rw with
      queue := s.rw.queue ++ ps.map fun p => { addr := p.1, bytes := p.2, bringUp := u } } } := by
  induction ps generalizing s with
  | nil => rw [List.map_nil, List.append_nil]; rfl
  | cons p rest ih =>
    rw [List.foldl_cons, ih, State.present]
    simp only [List.append_assoc, List.map_cons, List.singleton_append]

/-- The accesses of a full rewrite, in order (R34). -/
theorem State.fullRewrite_some {s : State} {roles : Roles} (named : s.roles = some roles) (u : Bool) :
    s.fullRewrite u = { s with rw := { s.rw with
      queue := s.rw.queue ++ rewriteAccesses roles.statusBlock s.rw.updateCount s.snapshot u
      updateCount := s.rw.updateCount + 2 } } := by
  unfold State.fullRewrite State.presentAll
  rw [named]
  dsimp only
  rw [State.foldl_present]
  simp only [State.present, rewriteAccesses, List.append_assoc, named]

theorem State.fullRewrite_none {s : State} (unnamed : s.roles = none) (u : Bool) : s.fullRewrite u = s := by
  rw [State.fullRewrite, unnamed]

/-! ### What a FRONT boundary writes (R34, R163) -/

/-- The device after the front work of a boundary, before the full rewrite (log 22). -/
def State.frontWorked (s : State) : State := (s.layered .front).frontWork (topView (s.stack .front))

theorem State.layered_frontScene (s : State) (d : Display) (view : Option View) :
    (s.layered d).frontScene view = s.frontScene view :=
  State.frontScene_congr (s.layered_within d .camera (by decide)) (s.layered_within d .time (by decide))
    (s.layered_within d .roles (by decide)) view

theorem State.layered_compositor (s : State) (d : Display) : (s.layered d).compositor = s.compositor :=
  s.layered_within d .compositor (by decide)

/-- The camera picture is lost at a FRONT boundary (R163). -/
def State.LosesCamera (s : State) : Prop :=
  s.compositor.fallbackShown = false ∧ s.frontScene (topView (s.stack .front)) = .fallback

theorem State.frontWorked_writer_lost {s : State} (lost : s.LosesCamera) :
    SameWriter ((s.layersTell .front).raise .cameraLost 0) s.frontWorked :=
  ((s.layered_writer .front).raise _ _).trans (State.frontWork_writer_lost ((s.layered_frontScene .front _).trans lost.2)
    (by rw [State.layered_compositor]; exact lost.1))

theorem State.frontWorked_writer_kept {s : State} (kept : ¬ s.LosesCamera) : SameWriter (s.layersTell .front) s.frontWorked := by
  refine (s.layered_writer .front).trans (State.frontWork_writer_quiet ?_)
  rw [State.layered_compositor, State.layered_frontScene]
  by_cases shown : s.compositor.fallbackShown = true
  · exact .inr shown
  · exact .inl fun fallback => kept ⟨Bool.eq_false_iff.2 shown, fallback⟩

theorem State.layersTell_within (s : State) (d : Display) : Within [.rw] s (s.layersTell d) := by
  have warned (u : State) (l : ScanLayer) : Within [.rw] u (u.warnStarved s d l) := by
    unfold State.warnStarved
    split
    · exact u.raise_within _ _
    · exact .refl _ u
  unfold State.layersTell
  extract_lets applied video
  have first : Within [.rw] s applied := (s.tellReleased_within d _).trans (State.tellReleased_within _ d _)
  have second : Within [.rw] applied video := (applied.tellReleased_within d _).trans (warned _ _)
  exact (first.trans second).trans ((video.tellReleased_within d _).trans (warned _ _))

theorem State.frontWorked_roles (s : State) : s.frontWorked.roles = s.roles := by
  by_cases lost : s.LosesCamera
  · rw [(State.frontWorked_writer_lost lost).roles, State.raise_roles]
    exact s.layersTell_within .front .roles (by decide)
  · rw [(State.frontWorked_writer_kept lost).roles]
    exact s.layersTell_within .front .roles (by decide)

theorem State.fronted_rw_none {s : State} (unnamed : s.roles = none) (u : Bool) : (s.fronted u).rw = s.frontWorked.rw := by
  rw [State.fronted, State.boundaryBuild_rw]
  exact congrArg State.rw (State.fullRewrite_none (s.frontWorked_roles.trans unnamed) u)

theorem State.fronted_rw_some {s : State} {roles : Roles} (named : s.roles = some roles) (u : Bool) :
    (s.fronted u).rw = { s.frontWorked.rw with
      queue := s.frontWorked.rw.queue ++
        rewriteAccesses roles.statusBlock s.frontWorked.rw.updateCount s.frontWorked.snapshot u
      updateCount := s.frontWorked.rw.updateCount + 2 } := by
  rw [State.fronted, State.boundaryBuild_rw]
  exact congrArg State.rw (State.fullRewrite_some (s.frontWorked_roles.trans named) u)

theorem State.boundary_front_rw (s : State) (u : Bool) : (s.boundary .front u).rw = (s.fronted u).rw := by
  rw [State.boundary_front]
  rfl

theorem State.boundary_rear_rw (s : State) {d : Display} (rear : d ≠ .front) (u : Bool) :
    (s.boundary d u).rw = (s.layersTell d).rw := by
  rw [State.boundary_rear s rear]
  exact (s.layered_writer d).rw

/-! ### LAYER_STARVED (R154) -/

theorem State.tellReleased_fault (s : State) (d : Display) (rs : List (ScanLayer × QueueEntry × Nat)) (k : FaultKind) :
    (s.tellReleased d rs).rw.fault k = s.rw.fault k := by
  induction rs generalizing s with
  | nil => rfl
  | cons p rest ih =>
    exact (ih _).trans (ReportWriter.fault_congr (s.post_faults_consumer _).1 k)

theorem State.warnStarved_fault (s before : State) (d : Display) (l : ScanLayer) :
    (s.warnStarved before d l).rw.fault .layerStarved =
      if before.starves d l then (s.rw.fault .layerStarved).occur (displayNumber d + 256 * layerNumber l)
      else s.rw.fault .layerStarved := by
  unfold State.warnStarved
  split
  · exact (s.raise_faultRaised _ _).1
  · rfl

theorem State.layersTell_starved (s : State) (d : Display) :
    (s.layersTell d).rw.fault .layerStarved =
      let video := if s.starves d .video then
          (s.rw.fault .layerStarved).occur (displayNumber d + 256 * layerNumber .video) else s.rw.fault .layerStarved
      if s.starves d .menu then video.occur (displayNumber d + 256 * layerNumber .menu) else video := by
  unfold State.layersTell
  simp only [State.warnStarved_fault, State.tellReleased_fault]

theorem State.starves_unarmed {s : State} {d : Display} {l : ScanLayer} (unarmed : (s.layer d l).armed = false) :
    s.starves d l = false := by
  unfold State.starves
  simp [unarmed]

theorem State.boundary_starved (s : State) (d : Display) (u : Bool) :
    (s.boundary d u).rw.fault .layerStarved = (s.layersTell d).rw.fault .layerStarved := by
  by_cases front : d = .front
  · subst front
    have rewritten : (s.fronted u).rw.fault .layerStarved = s.frontWorked.rw.fault .layerStarved := by
      cases named : s.roles with
      | none => rw [State.fronted_rw_none named]
      | some roles => rw [State.fronted_rw_some named]; exact ReportWriter.fault_congr rfl _
    rw [State.boundary_front_rw, rewritten]
    by_cases lost : s.LosesCamera
    · rw [(State.frontWorked_writer_lost lost).rw]
      exact ((s.layersTell .front).raise_faultRaised .cameraLost 0).2 _ (by decide)
    · rw [(State.frontWorked_writer_kept lost).rw]
  · rw [State.boundary_rear_rw s front]

end Sys2Proof.Machine

end

/-! ## Proofs: O50, the layers at a frame boundary -/
section

namespace Sys2Proof.Machine

/-! ### A layer after the selection, field by field (R151 to R154) -/

/-- A former current frame that was shown, and one that was not: what its release counts (R153). -/
def goneShown (current : Option (QueueEntry × Nat)) : Nat :=
  match current with
  | some (_, n) => if 0 < n then 1 else 0
  | none => 0

def goneUnshown (current : Option (QueueEntry × Nat)) : Nat :=
  match current with
  | some (_, n) => if 0 < n then 0 else 1
  | none => 0

theorem countP_shown (c : Option (QueueEntry × Nat)) (es : List QueueEntry) :
    (c.toList ++ es.map fun e => (e, 0)).countP (fun p : QueueEntry × Nat => decide (0 < p.2)) = goneShown c := by
  have none : (es.map fun e : QueueEntry => (e, 0)).countP (fun p : QueueEntry × Nat => decide (0 < p.2)) = 0 := by simp [List.countP_map]
  rw [List.countP_append, none]
  cases c with
  | none => rfl
  | some p => simp [List.countP_cons, goneShown]

theorem countP_unshown (c : Option (QueueEntry × Nat)) (es : List QueueEntry) :
    (c.toList ++ es.map fun e => (e, 0)).countP (fun p : QueueEntry × Nat => decide (p.2 = 0)) = goneUnshown c + es.length := by
  have all : (es.map fun e : QueueEntry => (e, 0)).countP (fun p : QueueEntry × Nat => decide (p.2 = 0)) = es.length := by
    simp [List.countP_map]
  rw [List.countP_append, all]
  cases c with
  | none => rfl
  | some p =>
    by_cases shown : 0 < p.2
    · simp [goneUnshown, shown, Nat.ne_of_gt shown]
    · simp [goneUnshown, Nat.eq_zero_of_not_pos shown]

section
variable {v : LayerState} {now : Time}

theorem LayerState.afterSelection_none (none : v.due now = []) :
    v.afterSelection now = { v with
      current := v.current.map fun c => (c.1, min (c.2 + 1) 4294967295)
      armed := if v.starved now then false else v.armed } := by
  unfold LayerState.afterSelection
  simp only [none, List.getLast?_nil]

theorem LayerState.afterSelection_chosen {earlier : List QueueEntry} {chosen : QueueEntry}
    (due : v.due now = earlier ++ [chosen]) :
    v.afterSelection now = { v with
      queue := v.queue.drop (v.due now).length, current := some (chosen, 1), lastSelection := now, armed := true
      releasedShown := v.releasedShown + BitVec.ofNat 32 (goneShown v.current)
      dropped := v.dropped + BitVec.ofNat 32 (goneUnshown v.current + earlier.length) } := by
  have last : (v.due now).getLast? = some chosen := by rw [due, List.getLast?_concat]
  have released : v.selectionReleases now = v.current.toList ++ earlier.map fun e => (e, 0) := by
    unfold LayerState.selectionReleases
    simp only [due, List.getLast?_concat, List.dropLast_concat]
  unfold LayerState.afterSelection
  simp only [last]
  rw [released, LayerState.counting, countP_shown, countP_unshown]

end

/-! ### The two halves of a boundary's layer work put together -/

section
variable {v : LayerState} {now : Time} {new : LayerSetting}

/-- The record that applies is no source change: queue, current frame and counters stay (R139). -/
theorem LayerState.afterRecord_same (same : sourceChange v.applied new = false) :
    v.afterRecord now (some new) = { v with
      applied := new, staged := none
      lastSelection := if rearms v.applied new then now else v.lastSelection
      armed := if rearms v.applied new then true else v.armed } := by
  unfold LayerState.afterRecord LayerState.recordReleases
  simp only [same, Bool.false_eq_true, if_false]
  exact LayerState.counting_nil _

/-- The record that applies is a source change: everything is released and counted (R142). -/
theorem LayerState.afterRecord_change (change : sourceChange v.applied new = true) :
    v.afterRecord now (some new) = { v with
      applied := new, staged := none
      lastSelection := if rearms v.applied new then now else v.lastSelection
      armed := if rearms v.applied new then true else v.armed
      current := none, queue := []
      releasedShown := v.releasedShown + BitVec.ofNat 32 (goneShown v.current)
      dropped := v.dropped + BitVec.ofNat 32 (goneUnshown v.current + v.queue.length) } := by
  unfold LayerState.afterRecord LayerState.recordReleases
  simp only [change, if_true]
  rw [LayerState.counting, countP_shown, countP_unshown]

theorem sourceChange_iff {old new : LayerSetting} :
    sourceChange old new = true ↔ new.enable ≠ old.enable ∨ new.format ≠ old.format ∨ new.sourceWidth ≠ old.sourceWidth ∨
      new.sourceHeight ≠ old.sourceHeight ∨ new.stride ≠ old.stride := by
  simp only [sourceChange, decide_eq_true_eq, ne_comm (a := old.enable), ne_comm (a := old.format),
    ne_comm (a := old.sourceWidth), ne_comm (a := old.sourceHeight), ne_comm (a := old.stride)]

end

theorem exec_displayFrameBoundary {s : State} {d : Display} (started : s.startup.state ≠ .loading)
    (due : 0 ≤ (s.time - (s.displays.get d).nextBoundary).toInt) :
    exec (.displayFrameBoundary d) s = .next (s.boundary d false) :=
  if_pos ⟨started, decide_eq_true due⟩

theorem State.boundary_others (s : State) {d e : Display} (u : Bool) (other : e ≠ d) :
    (s.boundary d u).displays.get e = s.displays.get e := by
  rw [State.boundary_displays, State.updateScan, State.updateDisplay_get, if_neg other]
  exact s.layered_others d other

/-- What a boundary leaves of a display, and its scan-out. -/
theorem State.boundary_own (s : State) (d : Display) (u : Bool) : ∃ video menu, (s.boundary d u).displays.get d =
    { s.displays.get d with
      nextBoundary := later (s.displays.get d).nextBoundary Config.framePeriod
      scan := ({ (s.displays.get d).scan with sent := s.rowSent d } : Scan).begun d (topView (s.stack d))
        ((s.layered d).contribution d .video (s.badFrame d .video))
        ((s.layered d).contribution d .menu (s.badFrame d .menu)) (s.sceneAt d u)
      video := video, menu := menu } := by
  obtain ⟨video, menu, own⟩ := s.layered_own d
  rw [State.boundary_displays, State.updateScan, State.updateDisplay_get, if_pos rfl, own]
  exact ⟨video, menu, rfl⟩

/-- LAYER_STARVED is raised once where one layer alone is starved (R154). -/
theorem State.boundary_starves_alone {s : State} {d : Display} {l : ScanLayer} (system : l ≠ .camera) (u : Bool)
    (starved : (s.recorded d l).starved s.time = true)
    (alone : ∀ k, k ≠ l → k ≠ .camera → (s.layer d k).armed = false) :
    (s.boundary d u).rw.fault .layerStarved =
      (s.rw.fault .layerStarved).occur (displayNumber d + 256 * layerNumber l) := by
  rw [State.boundary_starved, State.layersTell_starved]
  rw [← State.starves_eq] at starved
  cases l with
  | camera => exact absurd rfl system
  | video =>
    have other := State.starves_unarmed (alone .menu (by decide) (by decide))
    simp only [starved, other, if_true, Bool.false_eq_true, if_false]
  | menu =>
    have other := State.starves_unarmed (alone .video (by decide) (by decide))
    simp only [starved, other, if_true, Bool.false_eq_true, if_false]

theorem LayerState.due_eq (v : LayerState) (now : Time) :
    v.due now = v.queue.takeWhile fun e => decide ((e.time - now).toInt ≤ 8333) := rfl

/-- The camera picture is lost, in the statements' words (R163). -/
theorem State.losesCamera_iff (s : State) : s.LosesCamera ↔
    s.compositor.fallbackShown = false ∧ (∃ v, (s.stack .front).getLast? = some v ∧ v.owner = .camera) ∧
      ∀ k since area, s.camera.newest = some (k, since) → s.cameraArea = some area → 100000 < (s.time - since).toInt := by
  refine and_congr_right fun _ => ⟨fun fallback => ?_, fun ⟨camera, old⟩ => ?_⟩
  · have camera : isCamera (topView (s.stack .front)) := by
      by_contra none
      exact nomatch fallback.symm.trans (s.frontScene_absent none)
    refine ⟨camera, fun k since area newest isArea => Int.not_le.1 fun young => ?_⟩
    exact nomatch fallback.symm.trans (s.frontScene_fresh camera ⟨k, since, area, newest, young, isArea, rfl⟩)
  · exact s.frontScene_fallback camera fun base ⟨k, since, area, newest, young, isArea, _⟩ =>
      Int.not_le.2 (old k since area newest isArea) young

/-- What the selection gives a layer that its record has left as stated, and its LAYER_STARVED (R151, R154). -/
theorem State.selects {s : State} {d : Display} {l : ScanLayer} (system : l ≠ .camera) (u : Bool) {v' : LayerState}
    (recorded : s.recorded d l = v') :
    let after := (s.boundary d u).layer d l
    let run := v'.queue.takeWhile fun e => decide ((e.time - s.time).toInt ≤ 8333)
    let starved := v'.applied.enable = true ∧ v'.applied.cadence = .stream ∧ v'.armed = true ∧ v'.queue = [] ∧
      500000 ≤ (s.time - v'.lastSelection).toInt
    (after.applied = v'.applied ∧ after.staged = v'.staged) ∧
    (run = [] → after.queue = v'.queue ∧ after.current = v'.current.map (fun c => (c.1, min (c.2 + 1) 4294967295)) ∧
      after.releasedShown = v'.releasedShown ∧ after.dropped = v'.dropped ∧ after.lastSelection = v'.lastSelection ∧
      (¬ starved → after.armed = v'.armed) ∧
      (starved → after.armed = false ∧ ((∀ k, k ≠ l → k ≠ .camera → (s.layer d k).armed = false) →
        (s.boundary d u).rw.fault .layerStarved =
          (s.rw.fault .layerStarved).occur (displayNumber d + 256 * layerNumber l)))) ∧
    ∀ earlier chosen, run = earlier ++ [chosen] → after.queue = v'.queue.drop run.length ∧
      after.current = some (chosen, 1) ∧ after.lastSelection = s.time ∧ after.armed = true ∧
      after.releasedShown = v'.releasedShown + BitVec.ofNat 32 (goneShown v'.current) ∧
      after.dropped = v'.dropped + BitVec.ofNat 32 (goneUnshown v'.current + earlier.length) := by
  intro after run starved
  have selected : after = v'.afterSelection s.time := by
    rw [← recorded]
    exact s.boundary_layer d u system
  have cases' : run = [] ∨ ∃ earlier chosen, run = earlier ++ [chosen] := List.eq_nil_or_concat' run
  refine ⟨?_, fun none => ?_, fun earlier chosen due => ?_⟩
  · rw [selected]
    obtain none | ⟨earlier, chosen, due⟩ := cases'
    · rw [LayerState.afterSelection_none none]
      exact ⟨rfl, rfl⟩
    · rw [LayerState.afterSelection_chosen due]
      exact ⟨rfl, rfl⟩
  · rw [selected, LayerState.afterSelection_none none]
    refine ⟨rfl, rfl, rfl, rfl, rfl, fun fed => if_neg fun is => fed (LayerState.starved_iff.1 is), fun is => ⟨?_, fun alone => ?_⟩⟩
    · exact if_pos (LayerState.starved_iff.2 is)
    · exact State.boundary_starves_alone system u (recorded ▸ LayerState.starved_iff.2 is) alone
  · rw [selected, LayerState.afterSelection_chosen due]
    exact ⟨rfl, rfl, rfl, rfl, rfl, rfl⟩

/-- Settles O50. -/
theorem boundarySelectsAndReleasesFrames : Obligations.BoundarySelectsAndReleasesFrames := by
  refine ⟨fun s d started due => ⟨_, exec_displayFrameBoundary started due, fun e other => s.boundary_others false other, ?_, ?_,
    fun l isSystem => ?_⟩, fun s d started due => ⟨_, exec_displayFrameBoundary started due, ?_,
      s.boundary_within_footprint d false, fun rear => s.boundary_rear_rw rear false, ?_⟩⟩
  · obtain ⟨_, _, own⟩ := s.boundary_own d false
    rw [own]
  · obtain ⟨_, _, own⟩ := s.boundary_own d false
    rw [State.stack, own]
    rfl
  · have system : l ≠ .camera := by
      rintro rfl
      obtain video | menu := isSystem
      · exact nomatch video
      · exact nomatch menu
    intro v after shownOf unshownOf selects
    have shown : ∀ c, shownOf c = goneShown c := fun c => by cases c <;> rfl
    have unshown : ∀ c, unshownOf c = goneUnshown c := fun c => by cases c <;> rfl
    refine ⟨fun idle => ?_, fun new staged free => ?_⟩
    · have waits : s.applying d l = none := by
        rw [State.applying]
        obtain unstaged | hold := idle
        · rw [show (s.layer d l).staged = none from unstaged, ite_self]
        · rw [if_pos hold]
      have recorded : s.recorded d l = v := by
        rw [State.recorded, waits]
        rfl
      obtain ⟨⟨applied, same⟩, none, some⟩ := s.selects system false recorded
      refine ⟨applied, same, none, fun earlier chosen run => ?_⟩
      rw [shown, unshown]
      exact some earlier chosen run
    · have applies : s.applying d l = some new := by
        rw [State.applying, if_neg (by simp [free])]
        exact staged
      have recorded : s.recorded d l = v.afterRecord s.time (some new) := by
        rw [State.recorded, applies]
      obtain ⟨⟨applied, same⟩, -⟩ := s.selects system false recorded
      refine ⟨applied, same, ?_⟩
      intro anew source last armed watch rest
      have watched : last = (if rearms v.applied new then s.time else v.lastSelection) ∧
          armed = if rearms v.applied new then true else v.armed := by
        by_cases again : rearms v.applied new = true
        · rw [if_pos again, if_pos again]
          exact watch (rearms_iff.1 again)
        · rw [if_neg again, if_neg again]
          exact rest fun is => again (rearms_iff.2 is)
      obtain ⟨rfl, rfl⟩ := watched
      refine ⟨fun unchanged => ?_, fun changed => ?_⟩
      · have off : sourceChange v.applied new = false :=
          Bool.eq_false_iff.2 fun is => unchanged (sourceChange_iff.1 is)
        obtain ⟨-, none, some⟩ := s.selects system false (recorded.trans (LayerState.afterRecord_same off))
        refine ⟨none, fun earlier chosen run => ?_⟩
        rw [shown, unshown]
        exact some earlier chosen run
      · obtain ⟨-, none, some⟩ := s.selects system false
          (recorded.trans (LayerState.afterRecord_change (sourceChange_iff.2 changed)))
        rw [shown, unshown]
        exact ⟨none, some⟩
  · rw [State.boundary_regions, State.layered_regions]
  · rintro rfl
    intro lost last isLost isKept
    have writer : SameWriter last s.frontWorked := by
      by_cases is : lost
      · rw [isLost is]
        exact State.frontWorked_writer_lost (s.losesCamera_iff.2 is)
      · rw [isKept is]
        exact State.frontWorked_writer_kept fun loses => is (s.losesCamera_iff.1 loses)
    rw [State.boundary_front_rw]
    refine ⟨fun unnamed => ?_, fun roles named => ⟨s.frontWorked.snapshot, ?_⟩⟩
    · rw [State.fronted_rw_none unnamed, writer.rw]
    · rw [State.fronted_rw_some named, writer.rw]

end Sys2Proof.Machine

end

/-! ## Proofs: what a frame boundary takes for its frame (R80, R81, R87, R116, R117, R155, R161, R163) -/
section

namespace Sys2Proof.Machine

/-! ### The report writer presents, and presents nothing while the link is DOWN (R26, R27) -/

/-- From `s` to `t` the report writer has presented some accesses, none where the link is DOWN, and no full rewrite. -/
structure Presents (s t : State) : Prop where
  link : t.link = s.link
  count : t.rw.updateCount = s.rw.updateCount
  queue : ∃ told, t.rw.queue = s.rw.queue ++ told ∧ (s.link.up = false → told = [])

theorem Presents.of_eq {s t : State} (link : t.link = s.link) (rw : t.rw = s.rw) : Presents s t :=
  ⟨link, by rw [rw], [], by rw [rw, List.append_nil], fun _ => rfl⟩

theorem Presents.trans {s t u : State} (h : Presents s t) (g : Presents t u) : Presents s u := by
  obtain ⟨first, one, quietOne⟩ := h.queue
  obtain ⟨second, two, quietTwo⟩ := g.queue
  refine ⟨g.link.trans h.link, g.count.trans h.count, first ++ second, by rw [two, one, List.append_assoc], fun down => ?_⟩
  rw [quietOne down, quietTwo (h.link ▸ down)]
  rfl

theorem State.post_presents (s : State) (r : Report) : Presents s (s.post r) := by
  unfold State.post
  split
  · exact .of_eq rfl rfl
  · next up =>
    split
    · unfold State.placeReport
      split
      · exact .of_eq rfl rfl
      · refine ⟨rfl, rfl, _, List.append_assoc .., fun down => absurd down up⟩
    · exact ⟨rfl, rfl, [], (List.append_nil _).symm, fun _ => rfl⟩

theorem State.raise_presents (s : State) (k : FaultKind) (n : Nat) : Presents s (s.raise k n) := by
  let u : State := { s with rw := s.rw.putFault k ((s.rw.fault k).occur n) }
  have first : Presents s u := ⟨rfl, rfl, [], (List.append_nil _).symm, fun _ => rfl⟩
  unfold State.raise
  extract_lets before after s1
  split
  · exact first.trans (u.post_presents _)
  · exact first

theorem State.tellReleased_presents (s : State) (d : Display) (rs : List (ScanLayer × QueueEntry × Nat)) :
    Presents s (s.tellReleased d rs) := by
  induction rs generalizing s with
  | nil => exact .of_eq rfl rfl
  | cons p rest ih => exact (s.post_presents _).trans (ih _)

theorem State.warnStarved_presents (s before : State) (d : Display) (l : ScanLayer) :
    Presents s (s.warnStarved before d l) := by
  unfold State.warnStarved
  split
  · exact s.raise_presents _ _
  · exact .of_eq rfl rfl

theorem State.layersTell_presents (s : State) (d : Display) : Presents s (s.layersTell d) := by
  unfold State.layersTell
  extract_lets applied video
  have first : Presents s applied := (s.tellReleased_presents d _).trans (State.tellReleased_presents _ d _)
  have second : Presents applied video := (applied.tellReleased_presents d _).trans (State.warnStarved_presents _ s d _)
  exact (first.trans second).trans ((video.tellReleased_presents d _).trans (State.warnStarved_presents _ s d _))

theorem State.frontWorked_presents (s : State) : Presents s s.frontWorked := by
  by_cases lost : s.LosesCamera
  · have writer := State.frontWorked_writer_lost lost
    exact ((s.layersTell_presents .front).trans (State.raise_presents _ _ _)).trans (.of_eq writer.link writer.rw)
  · have writer := State.frontWorked_writer_kept lost
    exact (s.layersTell_presents .front).trans (.of_eq writer.link writer.rw)

/-! ### CAMERA_LOST (R163) -/

theorem State.warnStarved_fault_other (s before : State) (d : Display) (l : ScanLayer) {k : FaultKind}
    (other : k ≠ .layerStarved) : (s.warnStarved before d l).rw.fault k = s.rw.fault k := by
  unfold State.warnStarved
  split
  · exact (s.raise_faultRaised _ _).2 k other
  · rfl

theorem State.layersTell_fault_other (s : State) (d : Display) {k : FaultKind} (other : k ≠ .layerStarved) :
    (s.layersTell d).rw.fault k = s.rw.fault k := by
  unfold State.layersTell
  simp only [State.warnStarved_fault_other _ _ _ _ other, State.tellReleased_fault]

theorem State.fronted_fault (s : State) (u : Bool) (k : FaultKind) : (s.fronted u).rw.fault k = s.frontWorked.rw.fault k := by
  cases named : s.roles with
  | none => rw [State.fronted_rw_none named]
  | some roles => rw [State.fronted_rw_some named]; exact ReportWriter.fault_congr rfl k

theorem State.boundary_cameraLost_kept {s : State} (kept : ¬ s.LosesCamera) (u : Bool) :
    (s.boundary .front u).rw.fault .cameraLost = s.rw.fault .cameraLost := by
  rw [State.boundary_front_rw, State.fronted_fault, (State.frontWorked_writer_kept kept).rw]
  exact s.layersTell_fault_other .front (by decide)

theorem State.boundary_cameraLost {s : State} (lost : s.LosesCamera) (u : Bool) :
    (s.boundary .front u).rw.fault .cameraLost = (s.rw.fault .cameraLost).occur 0 := by
  rw [State.boundary_front_rw, State.fronted_fault, (State.frontWorked_writer_lost lost).rw,
    ((s.layersTell .front).raise_faultRaised .cameraLost 0).1, s.layersTell_fault_other .front (by decide)]

/-! ### Camera, compositor and guide after a FRONT boundary (R80, R87, R116, R117) -/

theorem State.frontWork_within (s : State) (view : Option View) :
    Within [.rw, .camera, .compositor, .guide] s (s.frontWork view) := fun p hp => by
  by_cases fallback : s.frontScene view = .fallback
  · rw [State.frontWork_fallback fallback]
    cases p <;> first | rfl | simp at hp
  · rw [State.frontWork_quiet fallback]
    cases p <;> first | rfl | simp at hp

section
variable (s : State) (u : Bool)

theorem State.frontWorked_within : Within [.displays, .regions, .rw, .camera, .compositor, .guide] s s.frontWorked :=
  ((s.layered_within .front).mono (by decide)).trans ((State.frontWork_within _ _).mono (by decide))

theorem State.layered_camera : (s.layered .front).camera = s.camera := s.layered_within .front .camera (by decide)

theorem State.layered_guide : (s.layered .front).guide = s.guide := s.layered_within .front .guide (by decide)

theorem State.frontWorked_camera : s.frontWorked.camera = s.camera.show (topView (s.stack .front)) := by
  rw [State.frontWorked]
  by_cases fallback : (s.layered .front).frontScene (topView (s.stack .front)) = .fallback
  · rw [State.frontWork_fallback fallback]
    exact congrArg (fun c : Camera => c.show (topView (s.stack .front))) s.layered_camera
  · rw [State.frontWork_quiet fallback]
    exact congrArg (fun c : Camera => c.show (topView (s.stack .front))) s.layered_camera

theorem State.frontWorked_guide : s.frontWorked.guide = s.guide.handover := by
  rw [State.frontWorked]
  by_cases fallback : (s.layered .front).frontScene (topView (s.stack .front)) = .fallback
  · rw [State.frontWork_fallback fallback]
    exact congrArg Guide.handover s.layered_guide
  · rw [State.frontWork_quiet fallback]
    exact congrArg Guide.handover s.layered_guide

theorem State.frontWorked_compositor : s.frontWorked.compositor = { s.compositor with
    appliedGain := s.camera.gain
    fallbackShown := decide (s.frontScene (topView (s.stack .front)) = .fallback) } := by
  rw [State.frontWorked, ← State.layered_frontScene s .front]
  have same (shown : Bool) : ({ (s.layered .front).compositor with
      appliedGain := (s.layered .front).camera.gain, fallbackShown := shown } : Compositor) =
        { s.compositor with appliedGain := s.camera.gain, fallbackShown := shown } := by
    rw [s.layered_camera, s.layered_compositor .front]
  by_cases fallback : (s.layered .front).frontScene (topView (s.stack .front)) = .fallback
  · rw [State.frontWork_fallback fallback, decide_eq_true fallback]
    exact same true
  · rw [State.frontWork_quiet fallback, decide_eq_false fallback]
    exact same false

theorem State.boundaryBuild_within (s : State) (view : Option View) : Within [.guide] s (s.boundaryBuild view) := by
  unfold State.boundaryBuild
  split
  · exact within_guide s _
  · exact .refl _ s

/-- From the front work to the end of the boundary: the rewrite, the build, the frame. -/
theorem State.boundary_after_frontWorked : Within [.rw, .guide, .displays] s.frontWorked (s.boundary .front u) := by
  rw [State.boundary_front]
  have rewritten : Within [.rw, .guide, .displays] s.frontWorked (s.frontWorked.fullRewrite u) :=
    (State.fullRewrite_within _ u).mono (by decide)
  have built : Within [.rw, .guide, .displays] (s.frontWorked.fullRewrite u) (s.fronted u) :=
    (State.boundaryBuild_within _ _).mono (by decide)
  exact (rewritten.trans built).trans ((State.beginFrame_within _ _ _ _ _).mono (by decide))

theorem State.boundary_camera : (s.boundary .front u).camera = s.camera.show (topView (s.stack .front)) :=
  (s.boundary_after_frontWorked u .camera (by decide)).trans s.frontWorked_camera

theorem State.boundary_compositor : (s.boundary .front u).compositor = { s.compositor with
    appliedGain := s.camera.gain
    fallbackShown := decide (s.frontScene (topView (s.stack .front)) = .fallback) } :=
  (s.boundary_after_frontWorked u .compositor (by decide)).trans s.frontWorked_compositor

theorem State.fronted_cameraScene :
    (s.fronted u).cameraSceneNow (topView (s.stack .front)) = s.frontScene (topView (s.stack .front)) := by
  have later : Within [.rw, .guide] s.frontWorked (s.fronted u) :=
    ((State.fullRewrite_within _ u).mono (by decide)).trans ((State.boundaryBuild_within _ _).mono (by decide))
  have camera : (s.fronted u).camera = _ := (later .camera (by decide)).trans s.frontWorked_camera
  have compositor : (s.fronted u).compositor = _ := (later .compositor (by decide)).trans s.frontWorked_compositor
  have time : (s.fronted u).time = s.time := (later .time (by decide)).trans (s.frontWorked_within .time (by decide))
  have roles : (s.fronted u).roles = s.roles := (later .roles (by decide)).trans s.frontWorked_roles
  unfold State.frontScene State.cameraSceneNow State.cameraArea
  simp only [camera, compositor, time, roles]

theorem State.sceneAt_front : s.sceneAt .front u = s.frontScene (topView (s.stack .front)) :=
  (if_pos rfl).trans (s.fronted_cameraScene u)

/-- The guide engine after a FRONT boundary: handed over, and a build begun where one begins (R116, R117). -/
theorem State.boundary_guide : (s.boundary .front u).guide =
    if (topView (s.stack .front)).map View.owner = some .camera ∧ s.guide.config ≠ none ∧ s.startup.state = .normal then
      s.guide.handover.startBuild else s.guide.handover := by
  have rewritten : (s.frontWorked.fullRewrite u).guide = s.guide.handover :=
    (State.fullRewrite_within _ u .guide (by decide)).trans s.frontWorked_guide
  have startup : (s.frontWorked.fullRewrite u).startup = s.startup :=
    (State.fullRewrite_within _ u .startup (by decide)).trans (s.frontWorked_within .startup (by decide))
  have config : s.guide.handover.config = s.guide.config := rfl
  rw [State.boundary_front]
  change (s.fronted u).guide = _
  change ((s.frontWorked.fullRewrite u).boundaryBuild _).guide = _
  unfold State.boundaryBuild
  rw [rewritten, startup, config]
  split
  · next c camera isConfig normal =>
    rw [if_pos ⟨camera, by simp [isConfig], normal⟩]
  · next other =>
    rw [if_neg, rewritten]
    rintro ⟨camera, some, normal⟩
    obtain ⟨c, isConfig⟩ := Option.ne_none_iff_exists'.1 some
    exact other c camera isConfig normal

theorem Guide.startBuild_selectors (g : Guide) : g.startBuild.shown = g.shown ∧ g.startBuild.ready = g.ready := by
  unfold Guide.startBuild
  cases g.buildTarget <;> exact ⟨rfl, rfl⟩

theorem Guide.buildTarget_eq (g : Guide) : g.buildTarget = if g.shown = some .zero then .one else .zero := by
  unfold Guide.buildTarget
  split <;> simp [*]

end

/-! ### The content of the full rewrite (R34, R188) -/

theorem displayBytes_congr {x y : DisplayState} (stack : y.stack = x.stack) (video : y.video = x.video) (menu : y.menu = x.menu) :
    displayBytes y = displayBytes x := by
  rw [displayBytes, displayBytes, stack, video, menu]

/-- What the snapshot does not show leaves it as it is. -/
theorem State.snapshot_congr {s t : State} (same : Within [.rw, .guide, .displays] s t) (producer : t.rw.producer = s.rw.producer)
    (faults : t.rw.faults = s.rw.faults) (flags : t.guide.flags = s.guide.flags)
    (displays : ∀ d, displayBytes (t.displays.get d) = displayBytes (s.displays.get d)) : t.snapshot = s.snapshot := by
  have front : displayBytes t.displays.front = displayBytes s.displays.front := displays .front
  have rearLeft : displayBytes t.displays.rearLeft = displayBytes s.displays.rearLeft := displays .rearLeft
  have rearRight : displayBytes t.displays.rearRight = displayBytes s.displays.rearRight := displays .rearRight
  have taker : t.taker = s.taker := same .taker (by decide)
  have time : t.time = s.time := same .time (by decide)
  have startup : t.startup = s.startup := same .startup (by decide)
  have reverse : t.reverse = s.reverse := same .reverse (by decide)
  have camera : t.camera = s.camera := same .camera (by decide)
  have vehicle : t.vehicle = s.vehicle := same .vehicle (by decide)
  have store : t.store = s.store := same .store (by decide)
  have audio : t.audio = s.audio := same .audio (by decide)
  unfold State.snapshot faultBytes
  rw [front, rearLeft, rearRight, taker, time, startup, reverse, camera, vehicle, store, audio, producer, faults, flags]

theorem State.boundary_displayBytes (s : State) (u : Bool) (d : Display) :
    displayBytes ((s.boundary .front u).displays.get d) = displayBytes (s.frontWorked.displays.get d) := by
  have displays : s.frontWorked.displays = (s.layered .front).displays := State.frontWork_displays _ _
  rw [State.boundary_displays, displays, State.updateScan, State.updateDisplay_get]
  split
  · next same =>
    rw [same]
    exact displayBytes_congr rfl rfl rfl
  · rfl

/-- The snapshot of a FRONT boundary shows the state that it leaves, but for the flags that a build clears (log 22). -/
theorem State.snapshot_frontWorked (s : State) {roles : Roles} (named : s.roles = some roles) (u : Bool) :
    s.frontWorked.snapshot = State.snapshot { s.boundary .front u with guide := s.guide } := by
  have rw := (s.boundary_front_rw u).trans (State.fronted_rw_some named u)
  refine (State.snapshot_congr (s := s.frontWorked) (t := { s.boundary .front u with guide := s.guide }) ?_ ?_ ?_ ?_ ?_).symm
  · exact (s.boundary_after_frontWorked u).trans ((within_guide _ _).mono (by decide))
  · change (s.boundary .front u).rw.producer = _
    rw [rw]
  · change (s.boundary .front u).rw.faults = _
    rw [rw]
  · rw [s.frontWorked_guide]
    rfl
  · exact s.boundary_displayBytes u

end Sys2Proof.Machine

end

/-! ## Proofs: O51, a frame boundary takes its frame -/
section

namespace Sys2Proof.Machine

/-! ### Contributions and the fetches of row 0 (R143, R155, R164) -/

theorem State.contribution_eq {s t : State} {d : Display} {l : ScanLayer} (layer : t.layer d l = s.layer d l)
    (regions : t.regions = s.regions) (bad : Bool) : t.contribution d l bad = s.contribution d l bad := by
  unfold State.contribution
  rw [layer, regions]

section
variable (s : State) (d : Display) (l : ScanLayer) (bad : Bool)

theorem State.contribution_off (off : (s.layer d l).applied.enable = false) : s.contribution d l bad = .nothing := if_pos off

theorem State.contribution_fill (on : (s.layer d l).applied.enable = true) (empty : bad = true ∨ (s.layer d l).current = none) :
    s.contribution d l bad = .fill (s.layer d l).applied := by
  unfold State.contribution
  dsimp only
  rw [if_neg (by simp [on])]
  split
  · rfl
  · next good =>
    rw [empty.resolve_left good]

theorem State.contribution_frame {e : QueueEntry} {n : Nat} {r : Region} (on : (s.layer d l).applied.enable = true)
    (good : bad = false) (current : (s.layer d l).current = some (e, n)) (found : findRegion s.regions e.region = some r) :
    s.contribution d l bad = .frame (s.layer d l).applied (r.base + e.offset) := by
  unfold State.contribution
  dsimp only
  rw [if_neg (by simp [on]), if_neg (by simp [good]), current]
  simp only [found]

theorem State.badFrame_iff : s.badFrame d l = true ↔
    ∃ new, (s.layer d l).staged = some new ∧ (s.displays.get d).hold = false ∧
      sourceChange (s.layer d l).applied new = true := by
  unfold State.badFrame
  cases (s.layer d l).staged <;> simp

end

theorem Scan.begun_eq (sc : Scan) (d : Display) (view : Option View) (video menu : Contribution) (scene : CameraScene) :
    sc.begun d view video menu scene = { sc with
      frameNo := sc.frameNo + 1, view := view, video := video, menu := menu, camera := scene, row := none, late := []
      data := []
      queue := sc.queue ++ (sc.begun d view video menu scene).fetchesOf d 0 } := by
  have row : 0 < d.rows := by cases d <;> decide
  unfold Scan.begun
  rw [Scan.presentRow_eq, if_pos row]
  rfl

theorem later_framePeriod (t : Time) : later t Config.framePeriod = t + 16667 :=
  congrArg (t + ·) (show BitVec.ofNat 32 Config.framePeriod = 16667 by decide)

/-- Settles O51. -/
theorem boundaryTakesFrame : Obligations.BoundaryTakesFrame := by
  intro s d started due named
  refine ⟨_, exec_displayFrameBoundary started due, ?_⟩
  beta_reduce
  intro scan bad contributes
  obtain ⟨_, _, own⟩ := s.boundary_own d false
  have begun : scan = ({ (s.displays.get d).scan with sent := s.rowSent d } : Scan).begun d (topView (s.stack d))
      ((s.layered d).contribution d .video (s.badFrame d .video))
      ((s.layered d).contribution d .menu (s.badFrame d .menu)) (s.sceneAt d false) := congrArg DisplayState.scan own
  have fields := Scan.begun_eq { (s.displays.get d).scan with sent := s.rowSent d } d (topView (s.stack d))
    ((s.layered d).contribution d .video (s.badFrame d .video)) ((s.layered d).contribution d .menu (s.badFrame d .menu))
    (s.sceneAt d false)
  rw [← begun] at fields
  have taken : ∀ l, l ≠ .camera → contributes l ((s.layered d).contribution d l (s.badFrame d l)) := by
    intro l system
    have same : (s.boundary d false).contribution d l (s.badFrame d l) = (s.layered d).contribution d l (s.badFrame d l) :=
      State.contribution_eq ((s.boundary_layer d false system).trans (s.layered_layer d system).symm)
        (s.boundary_regions d false) _
    rw [← same]
    refine ⟨fun off => State.contribution_off _ d l _ off, fun on empty => State.contribution_fill _ d l _ on ?_,
      fun e n r on good current found => State.contribution_frame _ d l _ on ?_ current found⟩
    · exact empty.imp_left (s.badFrame_iff d l).2
    · exact Bool.eq_false_iff.2 fun is => good ((s.badFrame_iff d l).1 is)
  have view : scan.view = (s.stack d).getLast? := congrArg Scan.view fields
  have scene : scan.camera = s.sceneAt d false := congrArg Scan.camera fields
  have queue : scan.queue = (s.displays.get d).scan.queue ++ scan.fetchesOf d 0 := congrArg Scan.queue fields
  refine ⟨(congrArg DisplayState.nextBoundary own).trans (later_framePeriod _), congrArg Scan.frameNo fields, view,
    congrArg Scan.row fields, congrArg Scan.late fields, congrArg Scan.data fields, ?_, ?_, ?_, s.boundary_within_footprint d false, fun rear => ?_, ?_⟩
  · rw [show scan.video = _ from congrArg Scan.video fields]
    exact taken .video (by decide)
  · rw [show scan.menu = _ from congrArg Scan.menu fields]
    exact taken .menu (by decide)
  · intro presents
    have presents_of {pieces : List (ScanLayer × Nat × Nat)} (fetched : scan.fetchesOf d 0 = scan.fetchesFor 0 pieces) :
        presents pieces := by
      change scan.queue = _
      rw [queue, fetched]
      rfl
    exact ⟨fun none => presents_of (Scan.fetchesOf_none none d 0), fun v top =>
      ⟨fun system => presents_of (Scan.fetchesOf_system top system d 0),
        fun base gain camera fresh => presents_of (Scan.fetchesOf_fresh top camera fresh d 0),
        fun camera empty => presents_of (Scan.fetchesOf_noPicture top camera empty d 0)⟩⟩
  · rw [scene]
    exact if_neg rear
  · rintro rfl
    intro shows picture
    obtain ⟨roles, isRoles⟩ := Option.ne_none_iff_exists'.1 named
    have rewritten := (s.boundary_front_rw false).trans (State.fronted_rw_some isRoles false)
    have presented := s.frontWorked_presents
    have compositor := s.boundary_compositor false
    have scene := scene.trans (s.sceneAt_front false)
    have guide := s.boundary_guide false
    refine ⟨by rw [compositor], ?_, fun roles' isRoles' => ?_, ?_, ?_, fun hidden => ?_, fun shown => ?_⟩
    · rw [rewritten]
      exact congrArg (· + 2) presented.count
    · obtain rfl := Option.some.inj (isRoles.symm.trans isRoles')
      obtain ⟨told, queued, quiet⟩ := presented.queue
      refine ⟨told, s.frontWorked.snapshot, shotField s.frontWorked.snapshot, ?_, quiet, ?_⟩
      · rw [rewritten, ← presented.count, ← queued]
      · rw [s.snapshot_frontWorked isRoles false]
        exact State.snapshot_shows _
    · rw [guide]
      split
      · exact (Guide.startBuild_selectors _).1
      · rfl
    · rw [guide]
      split
      · exact (Guide.startBuild_selectors _).2
      · rfl
    · have absent : s.frontScene (topView (s.stack .front)) = .absent := s.frontScene_absent hidden
      have noCamera : ¬ (topView (s.stack .front)).map View.owner = some .camera := fun camera =>
        hidden (isCamera_iff.2 camera)
      refine ⟨?_, scene.trans absent, ?_, ?_, State.boundary_cameraLost_kept (fun lost => ?_) false⟩
      · rw [s.boundary_camera false, Camera.show]
        split
        · next camera => exact absurd camera noCamera
        · rfl
      · rw [compositor, absent]
        rfl
      · rw [guide, if_neg fun all => noCamera all.1]
        rfl
      · exact nomatch absent.symm.trans lost.2
    · have camera : isCamera (topView (s.stack .front)) := shown
      refine ⟨(s.boundary_camera false).trans (s.show_camera camera), fun base young => ?_, fun old => ?_,
        fun normal config => ?_⟩
      · have fresh : s.frontScene (topView (s.stack .front)) = .fresh _ _ := s.frontScene_fresh camera (base := base) young
        refine ⟨scene.trans fresh, ?_, State.boundary_cameraLost_kept (fun lost => ?_) false⟩
        · rw [compositor, fresh]
          rfl
        · exact nomatch fresh.symm.trans lost.2
      · have fallback : s.frontScene (topView (s.stack .front)) = .fallback := s.frontScene_fallback camera old
        refine ⟨scene.trans fallback, ?_, ?_⟩
        · rw [compositor, fallback]
          rfl
        · split
          · next before => exact State.boundary_cameraLost_kept (fun lost => by simp [lost.1] at before) false
          · next first => exact State.boundary_cameraLost ⟨Bool.eq_false_iff.2 first, fallback⟩ false
      · rw [guide, if_pos ⟨isCamera_iff.1 camera, config, normal⟩]
        refine ⟨congrArg (fun n => some (n, s.guide.kappa)) (Guide.buildTarget_eq _), rfl⟩

end Sys2Proof.Machine

end

/-! ## Proofs: what starting chimes and the reverse controller can do at the close of the load (R26, R39, R48, R61) -/
section

namespace Sys2Proof.Machine

/-! ### Chimes start (R173 to R180) -/

/-- From `s` to `t` the writer has presented reports only, the audio engine runs as it did, and the store is as it was or holds
a staging that it has accepted. -/
structure ChimesStart (s t : State) : Prop where
  presents : Presents s t
  running : t.audio.running = s.audio.running
  staged : t.store = s.store ∨ t.store.staging ≠ none

theorem ChimesStart.of_eq {s t : State} (link : t.link = s.link) (rw : t.rw = s.rw) (running : t.audio.running = s.audio.running)
    (store : t.store = s.store) : ChimesStart s t := ⟨.of_eq link rw, running, .inl store⟩

theorem ChimesStart.refl (s : State) : ChimesStart s s := .of_eq rfl rfl rfl rfl

theorem ChimesStart.trans {s t u : State} (h : ChimesStart s t) (g : ChimesStart t u) : ChimesStart s u := by
  refine ⟨h.presents.trans g.presents, g.running.trans h.running, ?_⟩
  obtain same | held := g.staged
  · rw [same]
    exact h.staged
  · exact .inr held

/-- An update before the operation that changes none of the parts spoken of. -/
theorem ChimesStart.after {s t u : State} (h : ChimesStart t u) (link : t.link = s.link) (rw : t.rw = s.rw)
    (running : t.audio.running = s.audio.running) (store : t.store = s.store) : ChimesStart s u :=
  (ChimesStart.of_eq link rw running store).trans h

/-- An update after it that changes none of them. -/
theorem ChimesStart.then {s t u : State} (h : ChimesStart s t) (link : u.link = t.link) (rw : u.rw = t.rw)
    (running : u.audio.running = t.audio.running) (store : u.store = t.store) : ChimesStart s u :=
  h.trans (.of_eq link rw running store)

theorem State.post_chimesStart (s : State) (r : Report) : ChimesStart s (s.post r) :=
  ⟨s.post_presents r, congrArg Audio.running (State.post_audio s r), .inl (State.post_store s r)⟩

theorem State.raise_chimesStart (s : State) (k : FaultKind) (n : Nat) : ChimesStart s (s.raise k n) :=
  ⟨s.raise_presents k n, congrArg Audio.running (State.raise_audio s k n), .inl (State.raise_store s k n)⟩

theorem State.acceptStaging_staged (s : State) (clip offset length : Nat) :
    (s.acceptStaging clip offset length).store.staging ≠ none := by
  unfold State.acceptStaging
  extract_lets waiting
  split
  case h_3 | h_4 =>
    split
    · split <;> exact nofun
    · exact nofun
  all_goals exact nofun

theorem State.acceptStaging_chimesStart (s : State) (clip offset length : Nat) :
    ChimesStart s (s.acceptStaging clip offset length) := by
  have within := s.acceptStaging_within clip offset length
  exact ⟨.of_eq (within .link (by decide)) (within .rw (by decide)),
    congrArg Audio.running (within .audio (by decide)), .inr (s.acceptStaging_staged clip offset length)⟩

theorem State.unstageableAnswer_chimesStart (s : State) (d : Display) (c : Chime) (k : Clip) :
    ChimesStart s (s.unstageableAnswer d c k) := by
  unfold State.unstageableAnswer
  extract_lets s1
  have raised : ChimesStart s s1 := s.raise_chimesStart _ _
  split <;> exact raised.then rfl rfl rfl rfl

theorem State.claimBuffer_chimesStart (s : State) (d : Display) (c : Chime) (k : Clip) :
    ChimesStart s (s.claimBuffer d c k) := by
  unfold State.claimBuffer
  split
  · exact .of_eq rfl rfl rfl rfl
  · split
    · exact s.unstageableAnswer_chimesStart d c k
    · exact (State.acceptStaging_chimesStart _ _ _ _).after rfl rfl rfl rfl

theorem State.startChime_chimesStart (s : State) (d : Display) (c : Chime) : ChimesStart s (s.startChime d c) := by
  unfold State.startChime
  split
  · exact (s.raise_chimesStart _ _).then rfl rfl rfl rfl
  · split
    · exact .of_eq rfl rfl rfl rfl
    · split
      · exact s.claimBuffer_chimesStart d c _
      · exact .of_eq rfl rfl rfl rfl

theorem State.serveWaiter_chimesStart (s : State) (d : Display) (rest : List Display) :
    ChimesStart s (s.serveWaiter d rest) := by
  unfold State.serveWaiter
  extract_lets audio buffer s1
  have left : ChimesStart s s1 := .of_eq rfl rfl rfl rfl
  split
  · split
    · exact left.trans (s1.claimBuffer_chimesStart d _ _)
    · exact left
  · exact left
  · exact left

theorem State.settleChimes_chimesStart (n : Nat) (s : State) : ChimesStart s (State.settleChimes n s) := by
  induction n generalizing s with
  | zero => exact .refl s
  | succ n ih =>
    unfold State.settleChimes
    split
    · split
      · exact .refl s
      · exact (s.serveWaiter_chimesStart _ _).trans (ih _)
    · split
      · exact .refl s
      · split
        · exact .refl s
        · refine ChimesStart.trans ?_ (ih _)
          exact (State.startChime_chimesStart _ _ _).after rfl rfl rfl rfl

theorem State.offerChime_chimesStart (s : State) (d : Display) (clip priority : Nat) (owner : ChimeOwner) :
    ChimesStart s (s.offerChime d clip priority owner).state := by
  unfold State.offerChime
  extract_lets inPlayer preempts stopped s1
  have left : ChimesStart s s1 := by
    unfold s1
    split
    · exact .of_eq rfl rfl rfl rfl
    · exact .refl s
  split
  · exact left.trans (State.settleChimes_chimesStart _ s1)
  · exact left.trans ((State.settleChimes_chimesStart _ _).after rfl rfl rfl rfl)

/-! ### Beeps, the tone and the reverse controller (R97, R98, R107 to R109) -/

theorem State.offerBeep_chimesStart (s : State) : ChimesStart s s.offerBeep := by
  unfold State.offerBeep
  split
  · exact .refl s
  · exact s.offerChime_chimesStart _ _ _ _

/-- Choosing a band moves the pattern, or offers a beep with the pattern moved. -/
theorem State.chooseBand_cases (s : State) : ∃ p, s.chooseBand = { s with park := p } ∨
    s.chooseBand = State.offerBeep { s with park := p } := by
  unfold State.chooseBand State.enterInterval
  extract_lets old
  split
  · exact ⟨_, .inl rfl⟩
  · split
    · exact ⟨s.park, .inl rfl⟩
    · split
      · exact ⟨_, .inr rfl⟩
      · split
        · extract_lets next
          split
          · exact ⟨_, .inr rfl⟩
          · exact ⟨_, .inl rfl⟩
        · exact ⟨_, .inr rfl⟩

theorem State.chooseBand_chimesStart (s : State) : ChimesStart s s.chooseBand := by
  obtain ⟨p, moved | offered⟩ := s.chooseBand_cases
  · rw [moved]
    exact .of_eq rfl rfl rfl rfl
  · rw [offered]
    exact (State.offerBeep_chimesStart _).after rfl rfl rfl rfl

theorem State.startPattern_chimesStart (s : State) : ChimesStart s s.startPattern := by
  unfold State.startPattern
  split
  · exact (State.chooseBand_chimesStart _).after rfl rfl rfl rfl
  · exact .refl s

theorem State.offerTone_chimesStart (s : State) : ChimesStart s s.offerTone := by
  unfold State.offerTone State.offerAndTell
  split
  · exact .refl s
  · extract_lets o
    have offered : ChimesStart s o.state := s.offerChime_chimesStart _ _ _ _
    dsimp only
    split
    · unfold State.beepStopped
      split
      · exact offered.trans o.state.offerBeep_chimesStart
      · exact offered
    · exact offered

theorem State.forcedPush_chimesStart (s : State) : ChimesStart s s.forcedPush := by
  unfold State.forcedPush
  extract_lets v s1
  have raised : ChimesStart s s1 := (State.raise_chimesStart _ _ _).after rfl rfl rfl rfl
  split
  · exact raised.then rfl rfl rfl rfl
  · exact .of_eq rfl rfl rfl rfl

/-- The state in which a REVERSE_TONE is offered on entering ENGAGED from OFF (R98). -/
def State.engagedView (s : State) : State := s.forcedPush.toReverse .engaged

theorem State.engagedView_within (s : State) : Within [.displays, .reverse, .rw] s s.engagedView :=
  (s.forcedPush_within.mono (by decide)).trans ((State.toReverse_within _ _).mono (by decide))

theorem State.engagedView_chimesStart (s : State) : ChimesStart s s.engagedView :=
  s.forcedPush_chimesStart.trans ((State.post_chimesStart _ _).after rfl rfl rfl rfl)

theorem State.engagedView_reverse (s : State) : s.engagedView.reverse = { s.reverse with state := .engaged } := by
  refine (State.post_reverse _ _).trans ?_
  exact congrArg (fun r : Reverse => { r with state := .engaged }) (s.forcedPush_within .reverse (by decide))

theorem State.engagedView_stack {s : State} (empty : s.stack .front = []) :
    s.engagedView.stack .front = [cameraViewOf 0 true] := by
  have room : (s.stack .front).length < 4 := by simp [empty]
  rw [State.stack, show s.engagedView.displays = s.forcedPush.displays from State.post_displays _ _,
    State.forcedPush_room room, empty]
  exact congrArg DisplayState.stack (PerDisplay.get_put_same s.displays .front _)

theorem State.reverseAsserted_off {s : State} (off : s.reverse.state = .off) :
    s.reverseAsserted = s.engagedView.offerTone.startPattern := by
  unfold State.reverseAsserted
  simp only [off]
  rfl

theorem State.startPattern_offerTone_within (s : State) :
    Within [.park, .audio, .store, .rw] s s.offerTone.startPattern :=
  (s.offerTone_within.mono (by decide)).trans (State.startPattern_within _)

theorem State.reverseAsserted_chimesStart {s : State} (off : s.reverse.state = .off) : ChimesStart s s.reverseAsserted := by
  rw [State.reverseAsserted_off off]
  exact (s.engagedView_chimesStart.trans (State.offerTone_chimesStart _)).trans (State.startPattern_chimesStart _)

/-! ### The store while the REVERSE_TONE starts (R48, R61, R178, R179) -/

/-- A beep offered while an own chime of its priority or above is in the FRONT player asks nothing of the store (R175). -/
theorem State.offerBeep_store {s : State} {now : Chime} (others : s.OthersSettled .front)
    (playing : s.audio.chimes.front.player.chime = some now) (above : 5 ≤ now.priority)
    (empty : s.audio.chimes.front.queue = []) (buffer : s.audio.buffer.free = true → s.audio.buffer.waiters = []) :
    s.offerBeep.store = s.store := by
  have none : ∀ x ∈ s.audio.chimes.front.queue, ¬ (x.owner = .part ∧ x.clip = 1) := by simp [empty]
  rw [State.offerBeep, if_neg (ne_true_of_eq_false (any_isParkBeep_eq_false none)),
    State.offerChime_front_waits others playing above (.inl ⟨by simp [empty], rfl⟩) (by decide) buffer]

theorem State.startPattern_store {s : State} {now : Chime} (others : s.OthersSettled .front)
    (playing : s.audio.chimes.front.player.chime = some now) (above : 5 ≤ now.priority)
    (empty : s.audio.chimes.front.queue = []) (buffer : s.audio.buffer.free = true → s.audio.buffer.waiters = []) :
    s.startPattern.store = s.store := by
  unfold State.startPattern
  split
  · generalize ({ s.park with active := true, band := none, nextOffer := none } : Park) = started
    obtain ⟨p, moved | offered⟩ := State.chooseBand_cases { s with park := started }
    · rw [moved]
    · rw [offered]
      exact State.offerBeep_store (s := { s with park := p }) others playing above empty buffer
  · rfl

section
variable {s : State} {clip : Clip} (known : s.audio.clips[0]? = some clip) (free : s.audio.buffer.free = true)
  (noWaiter : s.audio.buffer.waiters = [])
  (quiet : ∀ d, (s.audio.chimes.get d).queue = [] ∧ (s.audio.chimes.get d).player = .idle)
include known free noWaiter quiet

omit free in
/-- A REVERSE_TONE of a resident clip needs no staging, and neither does the pattern that starts behind it. -/
theorem State.toneStarts_resident (resident : clip.resident = true) : s.offerTone.startPattern.store = s.store := by
  have others : s.OthersSettled .front := fun e _ _ => (quiet e).1
  rw [State.offerTone_plays others (fun _ => noWaiter) (quiet .front).2 (quiet .front).1 known resident]
  exact State.startPattern_store (s := s.frontPlays 0 6)
    (State.OthersSettled.withPair (s := s) others .front nofun) rfl (Nat.le_succ 5) rfl fun _ => noWaiter

/-- A REVERSE_TONE of a clip that is not resident has its staging asked of the store, and the pattern asks for none. -/
theorem State.toneStarts_asks (absent : clip.resident = false) (other : s.audio.buffer.content = none)
    (stageable : s.store.unstageable clip.offset clip.length = false) (idle : s.store.state = .idle) :
    s.offerTone.startPattern.store =
      { s.store with
        state := .reading
        staging := some { clip := 0, offset := clip.offset, length := clip.length, phase := .running s.time } } := by
  have others : s.OthersSettled .front := fun e _ _ => (quiet e).1
  have asks := State.settleChimes_asks (s := s) (d := .front)
    (c := { clip := 0, priority := 6, owner := .part, arrival := s.audio.chimes.front.arrivals }) (rest := [])
    (count := s.audio.chimes.front.arrivals + 1) known others 31 absent free noWaiter (by simp [other]) stageable
  rw [State.acceptStaging_idle (by exact idle)] at asks
  have tone := (State.offerTone_idle (quiet .front).1 (quiet .front).2).trans asks
  rw [tone]
  refine State.startPattern_store ?_ rfl (Nat.le_succ 5) rfl fun free => ?_
  · exact State.OthersSettled.withPair (s := { s with audio :=
      { s.audio with buffer := { s.audio.buffer with user := some .front, asked := some 0 } } })
      (p := ⟨[], s.audio.chimes.front.arrivals + 1,
        .starting { clip := 0, priority := 6, owner := .part, arrival := s.audio.chimes.front.arrivals }⟩) others .front nofun
  · exact noWaiter

end

end Sys2Proof.Machine

end

/-! ## Proofs: the close of the load (R35, R59 to R61, R165) -/
section

namespace Sys2Proof.Machine

/-! ### The fallback picture (R59) -/

theorem Store.bytes_recordEntry (st : Store) (offset : Nat) {n k m : Nat} (inside : k + m ≤ n) :
    recordEntry (st.bytes offset n) k m = st.bytes (offset + k) m := by
  unfold recordEntry Store.bytes
  refine List.ext_getElem (by simp; omega) fun i _ _ => ?_
  simp [Nat.add_assoc]

theorem Store.anyIncomplete_eq_false_iff (st : Store) (offset length : Nat) :
    st.anyIncomplete offset length = false ↔
      ∀ b, offset / 65536 ≤ b → b ≤ (offset + length - 1) / 65536 → st.status b ≠ .incomplete := by
  unfold Store.anyIncomplete
  rw [List.any_eq_false]
  refine forall_congr' fun b => ?_
  rw [mem_blocksOf_iff]
  simp only [beq_iff_eq, and_imp]
  rfl

theorem State.loadFallback_eq (s : State) : s.loadFallback = { s with compositor := s.loadFallback.compositor } := by
  unfold State.loadFallback
  extract_lets offset palette
  split <;> rfl

theorem State.loadFallback_intact {s : State} (intact : s.store.anyIncomplete s.startup.fallbackOffset 16448 = false) :
    s.loadFallback.compositor.fallbackIndices = s.store.bytes s.startup.fallbackOffset 16384 ∧
      s.loadFallback.compositor.fallbackPalette = (List.range 16).map fun i =>
        BitVec.ofNat 32 (fieldAt (s.store.bytes (s.startup.fallbackOffset + 16384 + 4 * i) 4) 0 4) := by
  unfold State.loadFallback
  simp only [intact, Bool.false_eq_true, if_false, true_and]
  refine List.map_congr_left fun i mem => ?_
  have inside : 4 * i + 4 ≤ 64 := by
    have := List.mem_range.1 mem
    omega
  rw [← Store.bytes_recordEntry _ _ inside, fieldAt_recordEntry _ _ (by decide)]
  rfl

theorem State.loadFallback_incomplete {s : State} (bad : s.store.anyIncomplete s.startup.fallbackOffset 16448 = true) :
    s.loadFallback.compositor.fallbackIndices = List.replicate 16384 0 ∧
      s.loadFallback.compositor.fallbackPalette = 0xFF202020#32 :: List.replicate 15 0xFF000000#32 := by
  have filled := congrArg State.compositor (if_pos bad : s.loadFallback = _)
  exact ⟨congrArg Compositor.fallbackIndices filled, congrArg Compositor.fallbackPalette filled⟩

/-! ### The displays start (R155, R165) -/

/-- From `x` to `y` a display has begun its first frame, at the close's time. -/
structure FrameBegun (now : Time) (x y : DisplayState) : Prop where
  stack : y.stack = x.stack
  next : y.nextBoundary = later now 16667
  view : y.scan.view = x.stack.getLast?
  frame : y.scan.frameNo = x.scan.frameNo + 1

/-- The displays as they are armed for the first boundary (R165). -/
def State.armed (s : State) : State :=
  { s with
    displays :=
      { front := s.displays.front.atClose s.time, rearLeft := s.displays.rearLeft.atClose s.time
        rearRight := s.displays.rearRight.atClose s.time } }

theorem State.startDisplays_eq (s : State) : s.startDisplays =
    ((s.armed.writeIdentity.boundary .front true).boundary .rearLeft false).boundary .rearRight false := rfl

theorem State.armed_get (s : State) (d : Display) : s.armed.displays.get d = (s.displays.get d).atClose s.time := by
  cases d <;> rfl

theorem State.boundary_begun {s : State} {d : Display} {x : DisplayState} {now : Time} (u : Bool)
    (armed : s.displays.get d = x.atClose now) : FrameBegun now x ((s.boundary d u).displays.get d) := by
  obtain ⟨video, menu, own⟩ := s.boundary_own d u
  rw [armed] at own
  have fields := Scan.begun_eq { (x.atClose now).scan with sent := s.rowSent d } d (topView (s.stack d))
    ((s.layered d).contribution d .video (s.badFrame d .video)) ((s.layered d).contribution d .menu (s.badFrame d .menu))
    (s.sceneAt d u)
  have stack : s.stack d = x.stack := (congrArg DisplayState.stack armed).trans rfl
  have scan := (congrArg DisplayState.scan own).trans fields
  refine ⟨(congrArg DisplayState.stack own).trans rfl, ?_, ?_, congrArg Scan.frameNo scan⟩
  · exact (congrArg DisplayState.nextBoundary own).trans (later_framePeriod now)
  · exact (congrArg Scan.view scan).trans (congrArg List.getLast? stack)

theorem State.startDisplays_begun (s : State) (d : Display) :
    FrameBegun s.time (s.displays.get d) (s.startDisplays.displays.get d) := by
  have armed (d : Display) : s.armed.writeIdentity.displays.get d = (s.displays.get d).atClose s.time := by
    rw [State.writeIdentity_displays, State.armed_get]
  rw [State.startDisplays_eq]
  cases d with
  | front =>
    rw [State.boundary_others _ false (by decide), State.boundary_others _ false (by decide)]
    exact State.boundary_begun true (armed .front)
  | rearLeft =>
    rw [State.boundary_others _ false (by decide)]
    exact State.boundary_begun false ((State.boundary_others _ true (by decide)).trans (armed .rearLeft))
  | rearRight =>
    exact State.boundary_begun false ((State.boundary_others _ false (by decide)).trans
      ((State.boundary_others _ true (by decide)).trans (armed .rearRight)))

/-! ### The identity record and the first full rewrite (R34, R35) -/

theorem snapshot_first {shot p : List Byte} {offset n : Nat} {b : Byte} (field : shotField shot offset n = p) (long : 0 < n)
    (first : p[0]? = some b) : shot[offset - 0x024]? = some b := by
  rw [← first, ← field, shotField, List.getElem?_take_of_lt long, List.getElem?_drop, Nat.add_zero]

theorem State.snapshot_startup (s : State) :
    s.snapshot[0x030 - 0x024]? = some (BitVec.ofNat 8 (startupNumber s.startup.state)) :=
  snapshot_first (s.shotField_snapshot 2 rfl rfl) (by decide) rfl

theorem State.snapshot_storeState (s : State) :
    s.snapshot[0x07C - 0x024]? = some (BitVec.ofNat 8 (storeStateNumber s.store.state)) :=
  snapshot_first (s.shotField_snapshot 12 rfl rfl) (by decide) rfl

theorem identityRecord_eq : identityRecord = identityBytes := by decide

theorem State.writeIdentity_some {s : State} {roles : Roles} (named : s.roles = some roles) :
    s.writeIdentity = { s with rw := { s.rw with
      queue := s.rw.queue ++ [{ addr := roles.statusBlock, bytes := identityBytes, bringUp := true }] } } := by
  have written : s.writeIdentity = s.present roles.statusBlock identityRecord true := by
    unfold State.writeIdentity
    simp only [named]
  rw [written, identityRecord_eq]
  rfl

theorem State.boundary_rear_presents (s : State) {d : Display} (rear : d ≠ .front) (u : Bool) : Presents s (s.boundary d u) :=
  (s.layersTell_presents d).trans
    (.of_eq ((s.boundary_rear_within rear u .link (by decide)).trans (s.layersTell_within d .link (by decide)).symm)
      (s.boundary_rear_rw rear u))

/-- With the link DOWN the identity record and the first full rewrite are all that the displays' start presents. -/
theorem State.startDisplays_rw {s : State} {roles : Roles} (named : s.roles = some roles) :
    s.startDisplays.rw.updateCount = s.rw.updateCount + 2 ∧
      ∃ shown : State, shown.startup = s.startup ∧ shown.store = s.store ∧
        (s.link.up = false → s.startDisplays.rw.queue =
          s.rw.queue ++ { addr := roles.statusBlock, bytes := identityBytes, bringUp := true } ::
            rewriteAccesses roles.statusBlock s.rw.updateCount shown.snapshot true) := by
  have identity := State.writeIdentity_some (s := s.armed) named
  rw [State.startDisplays_eq, identity]
  generalize start : ({ s.armed with rw := _ } : State) = w
  have namedW : w.roles = some roles := start ▸ named
  have front := w.frontWorked_presents
  have rewritten := (w.boundary_front_rw true).trans (State.fronted_rw_some namedW true)
  have left := (w.boundary .front true).boundary_rear_presents (d := .rearLeft) (by decide) false
  have both := left.trans (State.boundary_rear_presents _ (d := .rearRight) (by decide) false)
  have link : (w.boundary .front true).link = s.link :=
    (w.boundary_within .front true .link (by decide)).trans (start ▸ rfl)
  have count : w.rw.updateCount = s.rw.updateCount := start ▸ rfl
  refine ⟨?_, w.frontWorked, ?_, ?_, fun down => ?_⟩
  · rw [both.count, rewritten, ← count, ← front.count]
  · exact (w.frontWorked_within .startup (by decide)).trans (start ▸ rfl)
  · exact (w.frontWorked_within .store (by decide)).trans (start ▸ rfl)
  · obtain ⟨told, queued, quiet⟩ := front.queue
    obtain ⟨toldRear, queuedRear, quietRear⟩ := both.queue
    have queue : w.rw.queue = s.rw.queue ++ [{ addr := roles.statusBlock, bytes := identityBytes, bringUp := true }] :=
      start ▸ rfl
    have downW : w.link.up = false := start ▸ down
    rw [queuedRear, quietRear (link ▸ down), rewritten, queued, quiet downW, queue, front.count, count]
    simp

/-! ### The close after the reverse controller has started (R61) -/

def State.withStore (s : State) (st : Store) : State := { s with store := st }

theorem State.withStore_within (s : State) (st : Store) : Within [.store] s (s.withStore st) := within_store s st

theorem State.withStore_store (s : State) (st : Store) : (s.withStore st).store = st := rfl

/-- The displays start with the store held by the load, which enters IDLE last. -/
def State.closedFrom (s : State) : State :=
  let shown := (s.withStore s.store.heldByLoad).startDisplays
  shown.withStore (shown.store.entersIdle shown.time)

theorem State.closeLoad_eq (s : State) (st : StartupState) :
    s.closeLoad st = (State.startReverse { s.enterRunning st with audio.running := true }).closedFrom := rfl

/-- An entry of the region table but for its hold count and its stream. -/
def Region.fixed (r : Region) : Nat × RegionKind × Nat × Nat × Origin := (r.ident, r.kind, r.base, r.size, r.origin)

theorem holdDown_fixed (t : List Region) (ident : Nat) : (holdDown t ident).map Region.fixed = t.map Region.fixed := by
  unfold holdDown updateRegion
  rw [List.map_map]
  refine List.map_congr_left fun r _ => ?_
  change Region.fixed (if r.ident = ident then _ else r) = _
  split <;> rfl

theorem State.boundary_fixed (s : State) (d : Display) (u : Bool) :
    (s.boundary d u).regions.map Region.fixed = s.regions.map Region.fixed := by
  rw [s.boundary_regions d u, s.layered_regions d]
  generalize s.releasedAtBoundary d = released
  generalize s.regions = table
  induction released generalizing table with
  | nil => rfl
  | cons p rest ih => exact (ih _).trans (holdDown_fixed _ _)

theorem Camera.show_align (c : Camera) (view : Option View) :
    (c.show view).running = c.running ∧ (c.show view).align = c.align := ⟨rfl, rfl⟩

/-- What the close leaves as it was (R61). -/
structure ClosesKept (s t : State) : Prop where
  within : Within [.displays, .regions, .rw, .camera, .compositor, .guide, .store] s t
  camera : t.camera.running = s.camera.running ∧ t.camera.align = s.camera.align
  picture : t.compositor.fallbackIndices = s.compositor.fallbackIndices ∧
    t.compositor.fallbackPalette = s.compositor.fallbackPalette
  unavailable : t.guide.flags.unavailable = s.guide.flags.unavailable
  regions : t.regions.map Region.fixed = s.regions.map Region.fixed

theorem ClosesKept.trans {s t u : State} (h : ClosesKept s t) (g : ClosesKept t u) : ClosesKept s u :=
  ⟨h.within.trans g.within, ⟨g.camera.1.trans h.camera.1, g.camera.2.trans h.camera.2⟩,
    ⟨g.picture.1.trans h.picture.1, g.picture.2.trans h.picture.2⟩, g.unavailable.trans h.unavailable,
    g.regions.trans h.regions⟩

/-- An update of the displays, the report writer and the store. -/
theorem ClosesKept.of_within {s t : State} (h : Within [.displays, .rw, .store] s t) : ClosesKept s t :=
  ⟨h.mono (by decide), by rw [h .camera (by decide)]; exact ⟨rfl, rfl⟩, by rw [h .compositor (by decide)]; exact ⟨rfl, rfl⟩,
    by rw [h .guide (by decide)], by rw [h .regions (by decide)]⟩

theorem State.boundary_closesKept (s : State) (d : Display) (u : Bool) : ClosesKept s (s.boundary d u) := by
  have within : Within [.displays, .regions, .rw, .camera, .compositor, .guide, .store] s (s.boundary d u) :=
    (s.boundary_within d u).mono (by decide)
  by_cases front : d = .front
  · subst front
    refine ⟨within, ?_, ?_, ?_, s.boundary_fixed .front u⟩
    · rw [s.boundary_camera u]
      exact Camera.show_align _ _
    · rw [s.boundary_compositor u]
      exact ⟨rfl, rfl⟩
    · rw [s.boundary_guide u]
      split <;> rfl
  · have rear := s.boundary_rear_within front u
    refine ⟨within, ?_, ?_, ?_, s.boundary_fixed d u⟩
    · rw [rear .camera (by decide)]
      exact ⟨rfl, rfl⟩
    · rw [rear .compositor (by decide)]
      exact ⟨rfl, rfl⟩
    · rw [rear .guide (by decide)]

theorem State.closedFrom_kept (s : State) : ClosesKept s s.closedFrom := by
  have armed : ClosesKept s (s.withStore s.store.heldByLoad).armed.writeIdentity :=
    .of_within ((((s.withStore_within _).mono (by decide)).trans ((within_displays _ _).mono (by decide))).trans
      ((Within.of_rwOnly (State.writeIdentity_eq _)).mono (by decide)))
  have shown := ((armed.trans (State.boundary_closesKept _ .front true)).trans
    (State.boundary_closesKept _ .rearLeft false)).trans (State.boundary_closesKept _ .rearRight false)
  exact shown.trans (.of_within ((State.withStore_within _ _).mono (by decide)))

theorem State.closedFrom_store (s : State) : s.closedFrom.store = s.store.heldByLoad.entersIdle s.time := by
  have within := (s.withStore s.store.heldByLoad).startDisplays_within
  have store := within .store (by decide)
  have time := within .time (by decide)
  rw [State.closedFrom, State.withStore_store]
  exact congr (congrArg Store.entersIdle store) time

theorem State.closedFrom_begun (s : State) (d : Display) :
    FrameBegun s.time (s.displays.get d) (s.closedFrom.displays.get d) := by
  have displays : s.closedFrom.displays = (s.withStore s.store.heldByLoad).startDisplays.displays :=
    State.withStore_within _ _ .displays (by decide)
  rw [displays]
  exact (s.withStore s.store.heldByLoad).startDisplays_begun d

/-- What the close has the report writer present, with the start-up state `state` and the store as it shows it. -/
theorem State.closedFrom_rw {s : State} {roles : Roles} (named : s.roles = some roles) :
    s.closedFrom.rw.updateCount = s.rw.updateCount + 2 ∧
      ∃ shot : List Byte, shot.length = 0xFDC ∧
        shot[0x030 - 0x024]? = some (BitVec.ofNat 8 (startupNumber s.startup.state)) ∧
        shot[0x07C - 0x024]? = some (BitVec.ofNat 8 (storeStateNumber s.store.heldByLoad.state)) ∧
        (s.link.up = false → s.closedFrom.rw.queue =
          s.rw.queue ++ { addr := roles.statusBlock, bytes := identityBytes, bringUp := true } ::
            rewriteAccesses roles.statusBlock s.rw.updateCount shot true) := by
  have rw : s.closedFrom.rw = (s.withStore s.store.heldByLoad).startDisplays.rw :=
    State.withStore_within _ _ .rw (by decide)
  obtain ⟨count, shown, startup, store, queue⟩ := State.startDisplays_rw (s := s.withStore s.store.heldByLoad) named
  rw [rw]
  refine ⟨count, shown.snapshot, shown.length_snapshot, ?_, ?_, queue⟩
  · rw [shown.snapshot_startup, startup]
    rfl
  · rw [shown.snapshot_storeState, store]
    rfl

end Sys2Proof.Machine

end

/-! ## Proofs: load steps 2 and 5 close the load (R56, R59 to R61) -/
section

namespace Sys2Proof.Machine

/-! ### The store at the close (R39, R61) -/

theorem Store.unstageable_of_idle {st : Store} (noOp : st.op = none) {offset length : Nat}
    (complete : st.anyIncomplete offset length = false) : st.unstageable offset length = false := by
  rw [← complete]
  simp [Store.unstageable, Store.anyIncomplete, noOp]

theorem Store.heldByLoad_idle {st st' : Store} (idle : st.state = .idle) (noOp : st'.op = none)
    (staged : st' = st ∨ st'.staging ≠ none) : st'.heldByLoad.state = .idle := by
  unfold Store.heldByLoad
  rw [noOp]
  cases held : st'.staging with
  | some g => rfl
  | none =>
    obtain same | other := staged
    · rw [same]
      exact idle
    · exact absurd held other

/-! ### NORMAL and DEGRADED (R60, R61) -/

/-- The machine as it enters NORMAL or DEGRADED, before the reverse controller evaluates asserted reverse. -/
def State.toRun (s : State) : State :=
  { s with
    startup := { s.startup with state := if s.startup.calibrationValid then .normal else .degraded }
    compositor := s.loadFallback.compositor
    guide := { s.guide with flags := { s.guide.flags with
      unavailable := s.guide.flags.unavailable || !s.startup.calibrationValid } }
    audio := { s.audio with running := true }
    reverse := { s.reverse with running := true } }

theorem State.toRun_within (s : State) : Within [.startup, .compositor, .guide, .audio, .reverse] s s.toRun := fun p hp => by
  cases p <;> first | rfl | simp at hp

theorem State.closeLoad_toRun (s : State) :
    s.loadFallback.closeLoad (if s.startup.calibrationValid then .normal else .degraded) =
      s.toRun.evaluateReverse.closedFrom := by
  rw [s.loadFallback_eq, State.closeLoad_eq]
  refine congrArg State.closedFrom ?_
  unfold State.toRun
  generalize s.loadFallback.compositor = picture
  cases valid : s.startup.calibrationValid
  · simp only [Bool.false_eq_true, if_false, Bool.not_false, Bool.or_true]
    exact if_neg nofun
  · simp only [if_true, Bool.not_true, Bool.or_false]
    exact if_neg nofun

theorem exec_loadStep_five {s : State} (loading : s.startup.state = .loading) (step : 5 ≤ s.startup.step) :
    exec .loadStepComplete s = .next s.toRun.evaluateReverse.closedFrom := by
  rw [← s.closeLoad_toRun]
  change execLoadStepComplete s = _
  unfold execLoadStepComplete
  rw [if_neg (by simp [loading]), if_neg (by omega), if_neg (by omega), if_neg (by omega), if_neg (by omega)]

theorem State.setStack_scan (s : State) (d e : Display) (stack : List View) :
    ((s.setStack d stack).displays.get e).scan = (s.displays.get e).scan := by
  rw [State.setStack, State.updateDisplay_get]
  split
  · next same => rw [same]
  · rfl

theorem State.forcedPush_scan (s : State) (d : Display) : (s.forcedPush.displays.get d).scan = (s.displays.get d).scan := by
  unfold State.forcedPush
  extract_lets v s1
  split
  · exact (s1.setStack_scan _ _ _).trans ((congrArg (fun x : PerDisplay DisplayState => (x.get d).scan)
      (State.raise_displays _ _ _)).trans (s.setStack_scan _ _ _))
  · exact s.setStack_scan _ _ _

/-- What the start of the reverse controller keeps (R61). -/
structure ReverseStarts (s t : State) : Prop where
  within : Within [.displays, .reverse, .park, .audio, .store, .rw] s t
  chimes : ChimesStart s t
  running : t.reverse.running = s.reverse.running
  scan : ∀ d, (t.displays.get d).scan = (s.displays.get d).scan

section
variable {s : State} (running : s.reverse.running = true) (off : s.reverse.state = .off)
include running off

theorem State.evaluateReverse_starts (asserted : s.assertedReverse = true) :
    s.evaluateReverse = s.engagedView.offerTone.startPattern := by
  rw [State.evaluateReverse_asserted running asserted (by simp [off]), State.reverseAsserted_off off]

omit running in
theorem State.evaluateReverse_starts_released (released : s.assertedReverse = false) : s.evaluateReverse = s :=
  State.evaluateReverse_same (.inr (by simp [off, released]))

theorem State.evaluateReverse_reverseStarts : ReverseStarts s s.evaluateReverse := by
  refine ⟨s.evaluateReverse_within, ?_, ?_, fun d => ?_⟩ <;> cases asserted : s.assertedReverse
  · rw [State.evaluateReverse_starts_released off asserted]
    exact .refl s
  · rw [State.evaluateReverse_asserted running asserted (by simp [off])]
    exact State.reverseAsserted_chimesStart off
  · rw [State.evaluateReverse_starts_released off asserted]
  · rw [State.evaluateReverse_starts running off asserted, State.startPattern_offerTone_within _ .reverse (by decide),
      State.engagedView_reverse]
  · rw [State.evaluateReverse_starts_released off asserted]
  · rw [State.evaluateReverse_starts running off asserted, State.startPattern_offerTone_within _ .displays (by decide),
      show s.engagedView.displays = s.forcedPush.displays from State.post_displays _ _]
    exact s.forcedPush_scan d

end

section
variable {s : State} (off : s.reverse.state = .off) (asserted : s.assertedReverse = true) {clip : Clip}
  (known : s.audio.clips[0]? = some clip) (noWaiter : s.audio.buffer.waiters = [])
  (quiet : ∀ d, (s.audio.chimes.get d).queue = [] ∧ (s.audio.chimes.get d).player = .idle)
include off asserted known noWaiter quiet

/-- Entering ENGAGED at the close asks nothing of the store where the tone's clip is resident. -/
theorem State.toRun_store_resident (resident : clip.resident = true) : s.toRun.evaluateReverse.store = s.store := by
  have audio : s.toRun.engagedView.audio = s.toRun.audio := State.engagedView_within _ .audio (by decide)
  have store : s.toRun.engagedView.store = s.store := State.engagedView_within _ .store (by decide)
  rw [State.evaluateReverse_starts (s := s.toRun) rfl off asserted, ← store]
  exact State.toneStarts_resident (clip := clip) (by rw [audio]; exact known) (by rw [audio]; exact noWaiter)
    (by rw [audio]; exact quiet) resident

/-- Entering ENGAGED at the close asks the staging of the tone's clip of an IDLE store. -/
theorem State.toRun_store_asks (free : s.audio.buffer.free = true) (empty : s.audio.buffer.content = none)
    (absent : clip.resident = false) (idle : s.store.state = .idle)
    (stageable : s.store.unstageable clip.offset clip.length = false) :
    s.toRun.evaluateReverse.store =
      { s.store with
        state := .reading
        staging := some { clip := 0, offset := clip.offset, length := clip.length, phase := .running s.time } } := by
  have audio : s.toRun.engagedView.audio = s.toRun.audio := State.engagedView_within _ .audio (by decide)
  have store : s.toRun.engagedView.store = s.store := State.engagedView_within _ .store (by decide)
  have time : s.toRun.engagedView.time = s.time := State.engagedView_within _ .time (by decide)
  rw [State.evaluateReverse_starts (s := s.toRun) rfl off asserted, ← store, ← time]
  exact State.toneStarts_asks (clip := clip) (by rw [audio]; exact known) (by rw [audio]; exact free)
    (by rw [audio]; exact noWaiter) (by rw [audio]; exact quiet) absent (by rw [audio]; exact empty)
    (by rw [store]; exact stageable) (by rw [store]; exact idle)

end

/-! ### SERVICE (R60) -/

/-- The machine as it enters SERVICE. -/
def State.inService (s : State) : State :=
  { s with
    startup := { s.startup with state := .service }, regions := serviceRegions, roles := some serviceRoles
    audio := { s.audio with running := true } }

theorem exec_loadStep_service {s : State} (loading : s.startup.state = .loading) (step : s.startup.step = 2)
    (invalid : (s.store.validRecord 1 32).bind readLayout = none) :
    exec .loadStepComplete s = .next s.inService.closedFrom := by
  have run : execLoadStepComplete s = .next s.loadLayout := by
    unfold execLoadStepComplete
    rw [if_neg (by simp [loading]), if_neg (by omega), if_pos step]
  have closes : s.loadLayout = s.closeLoad .service := by
    unfold State.loadLayout
    simp only [invalid]
  have started : State.startReverse { s.enterRunning .service with audio.running := true } = s.inService := if_pos rfl
  refine run.trans (congrArg Host.Outcome.next ?_)
  rw [closes, State.closeLoad_eq, started]

theorem serviceRegions_fixed : serviceRegions.map Region.fixed =
    [(0, .control, 0x0000, 4096, .layout), (1, .status, 0x1000, 4096, .layout), (2, .status, 0x2000, 4096, .layout),
      (3, .requestRing, 0x4000, 8192, .layout)] := rfl

/-- Settles O5: the reverse controller has started in `u` in load step 5; the close follows from there. -/
theorem loadCloseStartsDevice : Obligations.LoadCloseStartsDevice := by
  intro s loading off stopped unopened broughtUp
  refine ⟨fun step invalid => ⟨_, exec_loadStep_service loading step invalid, ?_⟩,
    fun step roles named => ⟨_, exec_loadStep_five loading step, ?_⟩⟩
  · have kept := s.inService.closedFrom_kept
    have begun := s.inService.closedFrom_begun
    obtain ⟨count, shot, whole, state, store, queue⟩ := State.closedFrom_rw (s := s.inService) rfl
    have startup : s.inService.closedFrom.startup = s.inService.startup := kept.within .startup (by decide)
    have audio : s.inService.closedFrom.audio = s.inService.audio := kept.within .audio (by decide)
    refine ⟨congrArg Startup.state startup, congrArg Audio.running audio, kept.within .reverse (by decide), kept.camera.1,
      kept.within .vehicle (by decide), fun idle => ?_, ?_, kept.within .roles (by decide), count, fun down =>
      ⟨shot, whole, state, fun idle => store.trans ?_, queue down⟩, fun d => ⟨(begun d).next, (begun d).frame⟩⟩
    · exact s.inService.closedFrom_store.trans (s.store.entersIdle_heldByLoad_none _ idle.2.2)
    · exact kept.regions.trans serviceRegions_fixed
    · have shows : s.inService.store.heldByLoad.state = .idle := Store.heldByLoad_idle idle.1 idle.2.1 (.inl rfl)
      rw [shows]
      rfl
  · beta_reduce
    intro offset intact
    have first := State.evaluateReverse_reverseStarts (s := s.toRun) rfl off
    have fromOff := State.evaluateReverse_starts_released (s := s.toRun) off
    have toEngaged := State.evaluateReverse_starts (s := s.toRun) rfl off
    generalize isStarted : s.toRun.evaluateReverse = u at first fromOff toEngaged
    have before : Within [.displays, .reverse, .park, .audio, .store, .rw, .startup, .compositor, .guide] s u :=
      (s.toRun_within.mono (by decide)).trans (first.within.mono (by decide))
    have kept := u.closedFrom_kept
    have begun := u.closedFrom_begun
    have store := u.closedFrom_store
    have time : u.time = s.time := before .time (by decide)
    have guide : u.guide = s.toRun.guide := first.within .guide (by decide)
    have startup : u.startup = s.toRun.startup := first.within .startup (by decide)
    have compositor : u.compositor = s.toRun.compositor := first.within .compositor (by decide)
    have camera : u.camera = s.camera := before .camera (by decide)
    have reverse : u.closedFrom.reverse = u.reverse := kept.within .reverse (by decide)
    have stack (d : Display) : u.closedFrom.stack d = u.stack d := (begun d).stack
    obtain ⟨count, shot, whole, state, storeState, queue⟩ :=
      State.closedFrom_rw (s := u) ((before .roles (by decide)).trans named)
    obtain ⟨told, queued, quiet⟩ := first.chimes.presents.queue
    have op (idle : unopened) : u.store.op = none := by
      have rest := congrArg Store.op (isStarted ▸ s.toRun.evaluateReverse_stages : StagesOnly s.toRun u).rest
      exact rest.trans idle.2.1
    refine ⟨fun fits => ?_, fun bad => ?_, ?_, ?_, ?_, ?_, ?_, ?_, fun down => ⟨shot, whole, ?_, fun idle => ?_, ?_⟩,
      fun released => ?_, fun asserted idle free empty noWaiter quiet clip known => ⟨fun resident => ?_,
        fun absent complete => ?_⟩, fun asserted noView => ?_, fun d => ⟨?_, ?_, ?_⟩⟩
    · rw [kept.picture.1, kept.picture.2, compositor]
      exact State.loadFallback_intact ((Store.anyIncomplete_eq_false_iff _ _ _).2 fits)
    · rw [kept.picture.1, kept.picture.2, compositor]
      refine State.loadFallback_incomplete (Bool.eq_true_of_not_eq_false fun good => ?_)
      exact bad ((Store.anyIncomplete_eq_false_iff _ _ _).1 good)
    · exact (kept.within .startup (by decide)).trans startup
    · rw [kept.within .audio (by decide), first.chimes.running]
      rfl
    · rw [reverse, first.running]
      rfl
    · rw [kept.camera.2, camera]
    · rw [kept.unavailable, guide]
      rfl
    · rw [count, first.chimes.presents.count]
      rfl
    · rw [state, startup]
      change some (BitVec.ofNat 8 (startupNumber (if s.startup.calibrationValid then .normal else .degraded))) = _
      cases s.startup.calibrationValid <;> rfl
    · rw [storeState, Store.heldByLoad_idle idle.1 (op idle) first.chimes.staged]
      rfl
    · rw [queue (by rw [before .link (by decide)]; exact down), queued, quiet down, List.append_nil,
        first.chimes.presents.count]
      rfl
    · have same := fromOff released
      refine ⟨?_, ?_, fun idle => ?_⟩
      · rw [reverse, same]
        exact off
      · rw [stack, same]
        rfl
      · rw [store, same]
        exact s.store.entersIdle_heldByLoad_none _ idle.2.2
    · have same : u.store = s.store :=
        isStarted ▸ State.toRun_store_resident off asserted known noWaiter quiet resident
      rw [store, same]
      exact s.store.entersIdle_heldByLoad_none _ idle.2.2
    · have tone := State.toRun_store_asks off asserted known noWaiter quiet free empty absent idle.1
        (Store.unstageable_of_idle idle.2.1 complete)
      rw [isStarted] at tone
      have held := congrArg Store.staging tone
      have starts := u.store.entersIdle_heldByLoad_some u.time _ held (op idle)
      rw [store, starts, tone, time]
    · have made := toEngaged asserted
      have tone := State.startPattern_offerTone_within s.toRun.engagedView
      refine ⟨?_, ?_⟩
      · rw [reverse, made, tone .reverse (by decide), State.engagedView_reverse]
      · rw [stack, made, State.stack, tone .displays (by decide)]
        exact State.engagedView_stack (s := s.toRun) noView
    · rw [(begun d).next, time]
    · exact (begun d).view.trans (congrArg List.getLast? (stack d).symm)
    · rw [(begun d).frame, first.scan]
      rfl

end Sys2Proof.Machine

end
